-- ==== Sys2Proof/Word.lean ====
section
/-!
DEFINITION. The word types of the IC6260: what the manual treats as bits on the trunk link and on
the bay buses. Quantities (mV, mA, ms, lux, nits, counts) are `Nat` or `Int` everywhere else.
-/

namespace Sys2Proof

/-- One byte of a packet, of a bay bus transaction or of a space (R180, R194). -/
abbrev Byte := BitVec 8

/-- A 16-bit field: OFFSET of a request, a sticky flag set, a 2-byte location (R193). -/
abbrev Half := BitVec 16

/-- A 4-byte location (R193). -/
abbrev Word := BitVec 32

end Sys2Proof
end

