-- ==== Sys2Proof/Syntax.lean ====
section
/-!
DEFINITION. The commands of the IC6260: one constructor of `Instr` for each row of
spec/opcode_table.json, with the operands the row's rule gives it.
-/

namespace Sys2Proof

/-- The two battery positions (00_scope, Conventions: bays are named A and B). -/
inductive BayId where
  | a | b
  deriving DecidableEq, Repr

/-- The two ambient light sensors (R94). -/
inductive SensorId where
  | front | rear
  deriving DecidableEq, Repr

/-- The two sample streams (R161). -/
inductive StreamId where
  | accel | light
  deriving DecidableEq, Repr

/-- The seven control spaces (R183). -/
inductive Space where
  | hub | bayA | bayB | policy | supply | light | motion
  deriving DecidableEq, Repr

/-- The three causes of a BAD_FRAME discard (R181). -/
inductive FrameFault where
  | badLen | badCheck | byteInError
  deriving DecidableEq, Repr

/-- A byte as the trunk link receiver takes it: whole, or without its stop bit (R181). -/
inductive RxByte where
  | good (b : Byte)
  | inError
  deriving DecidableEq, Repr

/-- The two answers with which a pack ends a bay bus transaction (R1); the data of an acknowledged
read. -/
inductive PackAnswer where
  | ack (data : List Byte)
  | nack
  deriving DecidableEq, Repr

/-- Whose answer or sample an arrival brings: that of the transaction or conversion in progress, or a
late one, whose transaction or conversion has ended or was abandoned without it (R1, R95, R96, R106;
log 8). -/
inductive Arrival (α : Type) where
  | own (a : α)
  | late (a : α)
  deriving DecidableEq, Repr

/-- The two adapter filters (R77). -/
inductive AdapterFilter where
  | presence | code
  deriving DecidableEq, Repr

/-- The four gains of a light sample (R94). -/
inductive Gain where
  | g1 | g4 | g16 | g64
  deriving DecidableEq, Repr

/-- The four integrations of a light sample, in units of 25 ms (R94). -/
inductive Integration where
  | t1 | t2 | t4 | t8
  deriving DecidableEq, Repr

/-- The commands. A request of the trunk link carries its TAG and the fields of its packet
(R182, R194); a line change carries the line's bay and, where the row says only "change", its new
level; a timer expiry names its timer; a pack's answer and a light sample's count say whether they
come from the transaction or conversion in progress. -/
inductive Instr where
  -- resets and time
  | powerOnReset
  | resetNFall
  | resetNRise
  | uptimeTick
  -- the receiver
  | badFrame (cause : FrameFault)
  | truncated
  | badKind (tag kind dest : Byte) (offset : Half) (rest : List Byte)
  -- requests
  | read (tag dest : Byte) (offset : Half) (count : Byte)
  | write (tag dest : Byte) (offset : Half) (data : List Byte)
  | packRead (tag : Byte) (bay : BayId) (offset : Half) (count : Byte)
  | packWrite (tag : Byte) (bay : BayId) (offset : Half) (data : List Byte)
  | controlReset (tag dest : Byte)
  | fullReset (tag dest : Byte)
  | mode (tag dest : Byte) (code : Half)
  | inject (tag dest : Byte) (source : Half) (count : Byte) (samples : List Byte)
  | injectedSample
  -- actions
  | readmit (tag : Byte) (bay : BayId)
  | clearInhibit (tag : Byte) (bay : BayId)
  | clearSuspect (tag : Byte) (bay : BayId)
  | lock (tag : Byte) (bay : BayId)
  | unlock (tag : Byte) (bay : BayId)
  | backlightOn (tag : Byte)
  | backlightOff (tag : Byte)
  | applyCurve (tag : Byte)
  | clearLog (tag : Byte)
  | wakeAck (tag : Byte)
  | clearAllFlags (tag : Byte)
  -- writes with a behaviour of their own
  | writeOneClear (tag : Byte) (space : Space) (mask : Half)
  | bayCommandTableWrite (tag : Byte) (entry : Fin 32) (data : List Byte)
  | admissionTableWrite (tag : Byte) (entry : Fin 8) (data : List Byte)
  | dropActionTableWrite (tag : Byte) (entry : Fin 6) (data : List Byte)
  | lockoutLimitWrite (tag : Byte) (bay : BayId) (limit : Byte)
  | sensorEnableWrite (tag : Byte) (sensor : SensorId) (value : Byte)
  | staleLimitWrite (tag : Byte) (value : Half)
  | lMaxWrite (tag : Byte) (value : Half)
  | qWrite (tag : Byte) (value : Half)
  | supplySettingWrite (tag : Byte) (offset : Half) (data : List Byte)
  | attentionEnableWrite (tag : Byte) (value : Byte)
  | alertForwardingWrite (tag : Byte) (value : Byte)
  | streamControlWrite (tag : Byte) (stream : StreamId) (enable divider : Byte)
  | stimulusControlWrite (tag : Byte) (on sources drives : Byte)
  -- lines
  | pwrReqRise
  | pwrReqFall
  | contactRise (bay : BayId)
  | contactFall (bay : BayId)
  | lossFilterExpiry (bay : BayId)
  | releaseIntentChange (bay : BayId) (closed : Bool)
  | intentFilterExpiry (bay : BayId)
  | lockConfirmRise (bay : BayId)
  | lockConfirmFall (bay : BayId)
  | engageLimitExpiry (bay : BayId)
  | disengageLimitExpiry (bay : BayId)
  | alertAsserted (bay : BayId)
  | parkAckChange (level : Bool)
  | adapterSenseChange (present : Bool) (code : Fin 4)
  | adapterFilterExpiry (filter : AdapterFilter)
  -- supply, packs and bay timers
  | bridgeSample (mv : Half)
  | transactionCompletion (bay : BayId) (answer : Arrival PackAnswer)
  | transactionLimitExpiry (bay : BayId)
  | pollTimerExpiry (bay : BayId)
  | settleTimerExpiry (bay : BayId)
  | releaseTimerExpiry (bay : BayId)
  | startUpHoldExpiry
  | bridgeRunExpiry
  | saveTimerExpiry
  -- light and backlight
  | lightSampleArrival (sensor : SensorId) (count : Arrival Half) (gain : Gain)
      (integration : Integration) (theta : Byte)
  | conversionLimitExpiry (sensor : SensorId)
  | sensorRefusal (sensor : SensorId)
  | lightStaleExpiry (sensor : SensorId)
  | brightnessTick
  -- motion
  | accelSampleArrival (x y z : Half)
  | accelStaleExpiry
  -- the link's byte and packet events
  | packetSent
  | byteReceived (byte : RxByte)
  deriving DecidableEq, Repr

end Sys2Proof
end

