-- ==== Sys2Proof/Decode.lean ====
section
/-!
DEFINITION. The commands that a word spells. No row of spec/opcode_table.json gives bits: commands
reach this block as packets, line changes, samples and timer expiries, so no word spells one.
-/

namespace Sys2Proof

/-- The command that an `nbits`-bit word spells by the table's bits: none, for no row gives bits. -/
def decodeTableWord (_nbits _w : Nat) : Option Instr := none

end Sys2Proof
end

