-- ==== Sys2Proof/Config.lean ====
section
/-!
DEFINITION. What the part fixes once and for all (the manual's fixed values) and the choices the
manual leaves open: the constants without a body, of which no proof can see a value.
-/

namespace Sys2Proof.Config

/-- The uptime saturates here (R176): 2^32 - 1 ms. -/
def uptimeMax : Nat := 4294967295
/-- The response list's capacity (R188). -/
def responseCapacity : Nat := 8
/-- A bay's request queue capacity (R9). -/
def queueCapacity : Nat := 4
/-- The drop log's capacity (R157). -/
def logCapacity : Nat := 16
/-- The inter-byte limit of the receiver, ms (R181). -/
def interByteLimit : Nat := 10
/-- The loss filter with the guard CALM, ms (R40). -/
def lossShort : Nat := 5
/-- The loss filter with the guard active, the bounce window, ms (R40). -/
def lossLong : Nat := 50
/-- The intent filter, ms (R46). -/
def intentFilter : Nat := 20
/-- The latch confirm limit, ms (R60, R61). -/
def confirmLimit : Nat := 100
/-- The poll period in WATCH, ms (R17). -/
def watchPollPeriod : Nat := 10000
/-- The adapter presence and code filters, ms (R77). -/
def adapterFilter : Nat := 10
/-- The bridge sample interval, ms (R75). -/
def bridgeInterval : Nat := 100
/-- The bridge cutoff, mV (R75). -/
def bridgeCutoff : Nat := 3300
/-- The margin M of the power allowance, mW (R86). -/
def margin : Nat := 5000
/-- The share hysteresis, mV (R80). -/
def shareHysteresis : Nat := 50
/-- The charge reselect margin, percent points (R83). -/
def chargeMargin : Nat := 10
/-- What a conversion limit adds to the conversion time, ms (R96). -/
def conversionMargin : Nat := 25
/-- The greatest illuminance, lux (R100). -/
def luxMax : Nat := 200000
/-- The trim of a blank factory store entry (R99). -/
def blankTrim : Nat := 1875
/-- The drive word's full scale (R119). -/
def driveFullScale : Nat := 4095
/-- The re-admission band is drawn in by this much, 0.1 °C (R36). -/
def readmitBand : Int := 20
/-- CLEAR_INHIBIT asks for this much below the discharge maximum, 0.1 °C (R50). -/
def clearInhibitBand : Int := 50

/-- Open order of R116: a write of Q or L_max is taken by the backlight controller and by the
supply controller; "whichever of the two computations is taken first" is left open. `true`: the
backlight controller's own computation comes first. Consulted only where the two orders leave
different output luminances. -/
opaque controllerTakesFirst : Nat → Bool

/-- Open order of R151: at the guard's return the drop log unit's start of the re-verification and
the bay manager's part are taken in either order. `true`: the drop log unit's part comes first.
Consulted only where a contact loss is taken at that return. -/
opaque dropLogTakesFirst : Nat → Bool

/-- R198 lays out one peak sample in the guard block beside two peaks: whether it is the record
peak's (`true`) or the window peak's. Consulted only while the two differ. -/
opaque guardBlockShowsRecordPeak : Bool

/-- R134 has the record peak present from the first impact sample on, and R139 gives it its value at
the end of the first window only: the peak sample that it shows meanwhile, a free value in the
components of the sample that opened the window (log 36). -/
opaque firstWindowRecordPeak : Int → Int → Int → Half × Half × Half

end Sys2Proof.Config
end

