-- ==== Sys2Proof/Machine/State.lean ====
section
/-!
DEFINITION. Every piece of state the manual gives the IC6260, as plain data; the state after a
power-on reset; the named updates of the state's parts.
-/

namespace Sys2Proof.Machine

/-- No command of this block stops the machine: the manual gives every event of the table its
outcome in every state. -/
inductive Fault where
  deriving DecidableEq, Repr

/-- Why a command has no meaning. -/
inductive Refusal where
  /-- Raised by `exec`'s arm of a row that has no meaning yet; safe. No arm is left with it. -/
  | notModelled (mnemonic : String)
  deriving DecidableEq, Repr

/-! ### Shared shapes -/

/-- A pair indexed by bay. -/
structure Both (α : Type) where
  a : α
  b : α
  deriving DecidableEq, Repr

/-- The part of bay `i`. -/
def Both.get {α : Type} (p : Both α) : BayId → α
  | .a => p.a
  | .b => p.b

/-- The pair with bay `i`'s part replaced. -/
def Both.set {α : Type} (p : Both α) (i : BayId) (v : α) : Both α :=
  match i with
  | .a => { p with a := v }
  | .b => { p with b := v }

/-- The other bay. -/
def otherBay : BayId → BayId
  | .a => .b
  | .b => .a

/-- A running timer: the period it started with and the time left, ms. -/
structure Timer where
  period : Nat
  left   : Nat
  deriving DecidableEq, Repr

/-- A timer started with its full period. -/
def Timer.start (period : Nat) : Timer := { period := period, left := period }

/-- A value with its update time (uptime in ms). -/
structure Timed (α : Type) where
  value : α
  time  : Nat
  deriving DecidableEq, Repr

/-! ### Lines -/

/-- The levels of the input lines (00_scope, "The outside of the part"). -/
structure Lines where
  /-- RESET_N: high is true. -/
  resetN       : Bool
  pwrReq       : Bool
  parkAck      : Bool
  /-- Adapter sense: present. -/
  adapterSense : Bool
  /-- The adapter's rating pins. -/
  ratingPins   : Fin 4
  contact      : Both Bool
  /-- Release intent: closed is true. -/
  intent       : Both Bool
  lockConfirm  : Both Bool
  deriving DecidableEq, Repr

/-! ### The mode controller (chapter 10) -/

/-- The part mode (R170). -/
inductive PartMode where
  | active | watch | dormant
  deriving DecidableEq, Repr

/-- The five wake events (R173); the bit positions are R195's. -/
inductive WakeKind where
  | packSeated | releaseIntent | adapterChange | drop | powerFail
  deriving DecidableEq, Repr

/-- The mode controller's part mode, wake enables, wake cause set and WAKE line (R170, R173, R174). -/
structure ModeCtl where
  mode    : PartMode
  enables : BitVec 5
  causes  : BitVec 5
  wake    : Bool
  deriving DecidableEq, Repr

/-- The factory trim store (R177). -/
structure TrimStore where
  front : Half
  rear  : Half
  deriving DecidableEq, Repr

/-! ### Sticky flags (R185) -/

/-- The 2-byte sticky flag set of each control space. -/
structure SpaceFlags where
  hub    : Half
  bayA   : Half
  bayB   : Half
  policy : Half
  supply : Half
  light  : Half
  motion : Half
  deriving DecidableEq, Repr

/-! ### Tables and policy settings (PACK_POLICY) -/

/-- A Bay Command Table entry as its eight bytes (R3, R199). -/
structure CommandEntry where
  use       : Byte
  code      : Byte
  access    : Byte
  treatment : Byte
  cls       : Byte
  snoop     : Byte
  bits      : Byte
  length    : Byte
  deriving DecidableEq, Repr

/-- An Admission Table entry as its fields are laid out (R31, R199). -/
structure AdmissionEntry where
  use  : Byte
  cls  : Byte
  vMin : Half
  vMax : Half
  iMax : Half
  dMin : Half
  dMax : Half
  cMin : Half
  cMax : Half
  deriving DecidableEq, Repr

/-- Treatment of a pack command (R3). -/
inductive Treatment where
  | pass | shadow | block
  deriving DecidableEq, Repr

/-- Snoop field of a pack command (R3). -/
inductive SnoopField where
  | none | voltage | current | temperature | chargePct | remaining | full | alarms
  | cls | designMv | designMah | serial
  deriving DecidableEq, Repr

/-- The PACK_POLICY settings, the two tables among them (R4, R6, R21, R31, R64). -/
structure Policy where
  defaultTreatment : Treatment
  lockoutLimit     : Both Nat
  transactionLimit : Nat
  pollPeriod       : Nat
  settleTime       : Nat
  /-- Seconds. -/
  releaseTime      : Nat
  commands         : List CommandEntry
  admission        : List AdmissionEntry
  deriving DecidableEq, Repr

/-! ### Pack records (chapter 2) -/

/-- The admission outcome (R24). -/
inductive AdmissionOutcome where
  | none | cellFault | overTemp | unknownClass | duplicateSerial | voltageOut | tempOut
  | tableIncomplete
  deriving DecidableEq, Repr

/-- The identity part (R24). -/
structure Identity where
  cls       : Nat
  designMv  : Nat
  designMah : Nat
  serial    : Nat
  deriving DecidableEq, Repr

/-- A bay's pack record (R24). The alarm word holds R195's four flags. -/
structure PackRecord where
  identity    : Option Identity
  voltage     : Option (Timed Nat)
  current     : Option (Timed Int)
  temperature : Option (Timed Int)
  chargePct   : Option (Timed Nat)
  remaining   : Option (Timed Nat)
  full        : Option (Timed Nat)
  alarms      : Option (Timed (BitVec 4))
  suspect     : Bool
  depleted    : Bool
  chargeStop  : Bool
  outcome     : AdmissionOutcome
  deriving DecidableEq, Repr

/-! ### The pack traffic unit (chapter 1) -/

/-- A transaction's size on the bus (R1). -/
inductive XferSize where
  | word
  | block (n : Nat)
  deriving DecidableEq, Repr

/-- A host pack request with what it took at arrival (R8). -/
structure HostRequest where
  tag    : Byte
  offset : Half
  write  : Bool
  /-- Bytes asked for or written. -/
  count  : Nat
  data   : List Byte
  cls    : Nat
  shadow : Bool
  snoop  : SnoopField
  deriving DecidableEq, Repr

/-- What becomes of a re-verification's report: written into the record that requested it; discarded
because CLEAR_LOG removed the record (R152); not delivered because the request was withdrawn (R16). -/
inductive ReverifyDest where
  | record | removed | withdrawn
  deriving DecidableEq, Repr

/-- The owner of the transaction on a bus. `orphan`: maintenance work that was discarded while its
read was on the bus. -/
inductive Owner where
  | host (r : HostRequest) (respond : Bool)
  | alert
  | identification (step : Nat)
  | reverify (dest : ReverifyDest)
  | poll
  | orphan
  deriving DecidableEq, Repr

/-- The transaction on a bay bus (R1). -/
structure Transaction where
  owner : Owner
  code  : Byte
  write : Bool
  size  : XferSize
  data  : List Byte
  snoop : SnoopField
  /-- The transaction limit, from the grant. -/
  limit : Timer
  deriving DecidableEq, Repr

/-- An identification in progress: its next step, 0 to 6, and the gathered fields (R15, R25). -/
structure Identification where
  next      : Nat
  cls       : Option Nat
  designMv  : Option Nat
  designMah : Option Nat
  deriving DecidableEq, Repr

/-- The arbiter's last-served mark (R12). -/
inductive Served where
  | host | maintenance
  deriving DecidableEq, Repr

/-- A bay's pack traffic unit. The request on the bus counts among the queue's four (R9). -/
structure Traffic where
  /-- Queued requests not on the bus, oldest first. -/
  waiting    : List HostRequest
  bus        : Option Transaction
  alert      : Bool
  ident      : Option Identification
  reverify   : Option ReverifyDest
  /-- A poll round in progress: the lowest entry number it may still read. -/
  round      : Option Nat
  pollTimer  : Option Timer
  failures   : Nat
  /-- A lockout trip is raised and not withdrawn (R21). -/
  tripRaised : Bool
  lastServed : Served
  deriving DecidableEq, Repr

/-! ### The bay manager (chapter 3) -/

/-- The eight bay states (R39). -/
inductive BayState where
  | empty | seated | identifying | online | releasing | quarantined | silent | inhibited
  deriving DecidableEq, Repr

/-- The five latch states (R60). -/
inductive LatchState where
  | unlocked | engaging | locked | disengaging | lockFailed
  deriving DecidableEq, Repr

/-- A bay's lock-reason set (R59). -/
structure LockReasons where
  guard      : Bool
  lastSupply : Bool
  host       : Bool
  deriving DecidableEq, Repr

/-- A running loss filter: the time since the fall of the line, and its length (R40, R41). -/
structure LossFilter where
  elapsed : Nat
  long    : Bool
  deriving DecidableEq, Repr

/-- Which of the bay manager's two timers a bay runs (R42, R47). -/
inductive BayTimerKind where
  | settle | release
  deriving DecidableEq, Repr

/-- A running or paused settle or release timer (R55). -/
structure BayTimer where
  kind   : BayTimerKind
  timer  : Timer
  paused : Bool
  deriving DecidableEq, Repr

/-- A discharge role (R79, R81). -/
inductive Role where
  | off | candidate | kept
  deriving DecidableEq, Repr

/-- A bay: the bay manager's state, its latch, its record, its gates and its traffic unit. -/
structure Bay where
  state            : BayState
  tripDeferred     : Bool
  decisionDeferred : Bool
  returnPending    : Bool
  /-- Filtered contact state: present. -/
  contact          : Bool
  loss             : Option LossFilter
  /-- Filtered intent state: closed. -/
  intent           : Bool
  intentFilter     : Option Timer
  timer            : Option BayTimer
  record           : PackRecord
  latch            : LatchState
  latchLimit       : Option Timer
  /-- Solenoid drive as computed. -/
  solenoid         : Bool
  /-- Level last driven at the solenoid's pin (R168). -/
  solenoidPin      : Bool
  reasons          : LockReasons
  role             : Role
  charging         : Bool
  traffic          : Traffic
  deriving DecidableEq, Repr

/-! ### The supply controller (chapter 4) -/

/-- The supply state (R68). -/
inductive SupplyState where
  | standby | starting | normal | bridge | save
  deriving DecidableEq, Repr

/-- The stop cause (R74). -/
inductive StopCause where
  | none | hostRequest | supplyLost | bridgeEmpty | saveEnd
  deriving DecidableEq, Repr

/-- The start-up hold setting (R87). -/
inductive HoldSetting where
  | ms16 | ms64 | ms256
  deriving DecidableEq, Repr

/-- The event that a re-evaluation handles, where its own transition depends on it (R78). -/
inductive SupplyEvent where
  | other
  | pwrReqFall
  | holdExpiry
  | runExpiry
  | saveExpiry
  | bridgeSample (mv : Nat)
  deriving DecidableEq, Repr

/-- The supply controller: state, timers, adapter and bridge records, allowance, settings. -/
structure Supply where
  state          : SupplyState
  stopCause      : StopCause
  barrier        : Bool
  hold           : Option Timer
  bridgeRun      : Option Timer
  save           : Option Timer
  /-- The adapter record: the rating code while present (R77). -/
  adapter        : Option (Fin 4)
  presenceFilter : Option Timer
  codeFilter     : Option Timer
  bridgeVoltage  : Option (Timed Nat)
  exhausted      : Bool
  /-- The time to the converter's next bridge sample (R75). -/
  converter      : Timer
  pAvail         : Nat
  pbl            : Nat
  holdSetting    : HoldSetting
  readyThreshold : Nat
  /-- Seconds. -/
  bridgeLimit    : Nat
  /-- Seconds. -/
  saveWindow     : Nat
  bridgePower    : Nat
  normalReserve  : Nat
  bridgeReserve  : Nat
  shareWindow    : Nat
  deriving DecidableEq, Repr

/-! ### The light unit (chapter 5) -/

/-- A light sensor's condition (R94). -/
inductive LightCondition where
  | off | starting | noSample | fresh | stale | faulted
  deriving DecidableEq, Repr

/-- Where a trim came from (R94). -/
inductive TrimSource where
  | factory | default | host
  deriving DecidableEq, Repr

/-- The latest sample with its illuminance (R94). -/
structure LightSample where
  count       : Nat
  gain        : Gain
  integration : Integration
  saturated   : Bool
  arrival     : Nat
  lux         : Nat
  deriving DecidableEq, Repr

/-- A light sensor's record, enable setting and conversion in progress (R94 to R96). -/
structure Sensor where
  enable      : Bool
  condition   : LightCondition
  step        : Nat
  sample      : Option LightSample
  trim        : Nat
  trimSource  : TrimSource
  failures    : Nat
  discardOwed : Bool
  stale       : Option Timer
  /-- The conversion limit of the conversion in progress. -/
  conversion  : Option Timer
  deriving DecidableEq, Repr

/-- The light unit. -/
structure Light where
  front      : Sensor
  rear       : Sensor
  /-- The panel temperature θ, whole °C. -/
  theta      : Option (Timed Int)
  staleLimit : Nat
  weight     : Nat
  deriving DecidableEq, Repr

/-! ### The backlight controller (chapter 6) -/

/-- A point of the working curve: lux, nits. -/
structure CurvePoint where
  lux  : Nat
  nits : Nat
  deriving DecidableEq, Repr

/-- A slot of the staged curve, as the host wrote it (R122). -/
structure CurveSlot where
  lux  : Word
  nits : Half
  deriving DecidableEq, Repr

/-- The stage results of the last full tick (R109). -/
structure Stages where
  n      : Nat
  t      : Nat
  lth    : Nat
  u      : Nat
  target : Nat
  deriving DecidableEq, Repr

/-- The backlight controller (R109) and its settings (R125). -/
structure Backlight where
  on          : Bool
  /-- The filtered illuminance A. -/
  filtered    : Option Nat
  working     : List CurvePoint
  stagedCount : Byte
  staged      : List CurveSlot
  /-- P_bl as last handed. -/
  pbl         : Nat
  lpow        : Nat
  stages      : Option Stages
  lout        : Nat
  drive       : Nat
  lastSent    : Nat
  tick        : Option Timer
  tickPeriod  : Nat
  riseShift   : Nat
  fallShift   : Nat
  bias        : Int
  lMin        : Nat
  lMax        : Nat
  q           : Nat
  rUp         : Nat
  rDn         : Nat
  deriving DecidableEq, Repr

/-! ### The motion unit (chapter 7) -/

/-- The accelerometer's condition (R128). -/
inductive AccelCondition where
  | starting | running | stale
  deriving DecidableEq, Repr

/-- Output data rate of the accelerometer (R128). -/
inductive Odr where
  | hz400 | hz100
  deriving DecidableEq, Repr

/-- An axis (R139). -/
inductive Axis where
  | x | y | z
  deriving DecidableEq, Repr

/-- A sample's counts and its magnitude (R129). -/
structure Accel3 where
  x  : Int
  y  : Int
  z  : Int
  m2 : Nat
  deriving DecidableEq, Repr

/-- The accelerometer record (R128). -/
structure Accelerometer where
  condition  : AccelCondition
  discards   : Nat
  odr        : Odr
  pendingOdr : Option Odr
  latest     : Option (Timed Accel3)
  stale      : Timer
  deriving DecidableEq, Repr

/-- The guard state (R134). -/
inductive GuardState where
  | calm | falling | impact | settling
  deriving DecidableEq, Repr

/-- The kind of an impact (R134). -/
inductive ImpactKind where
  | fallImpact | knock
  deriving DecidableEq, Repr

/-- Severity of an impact (R139). -/
inductive Severity where
  | light | hard | severe
  deriving DecidableEq, Repr

/-- Converted thresholds (counts squared) and sample counts (R132). -/
structure Converted where
  freeFall2 : Nat
  light2    : Nat
  hard2     : Nat
  severe2   : Nat
  freeFallN : Nat
  catchN    : Nat
  windowN   : Nat
  settleN   : Nat
  maxFallN  : Nat
  deriving DecidableEq, Repr

/-- What a drop record keeps of a snapshot (R153). -/
structure RecordSnapshot where
  state  : Both BayState
  role   : Both Role
  supply : SupplyState
  deriving DecidableEq, Repr

/-- The snapshot (R138), and whether PARK and LOCK were in force when it was taken (R147, R148). -/
structure Snapshot where
  record      : RecordSnapshot
  latch       : Both LatchState
  parkMark    : Bool
  priorLock   : Both Bool
  parkInForce : Bool
  lockInForce : Bool
  deriving DecidableEq, Repr

/-- The guard's working record (R134). -/
structure Working where
  converted   : Option Converted
  kind        : Option ImpactKind
  fallCount   : Option Nat
  catchRun    : Option Nat
  windowPeak  : Option Accel3
  recordPeak  : Option Accel3
  windowCount : Option Nat
  severity    : Option Severity
  multiple    : Option Bool
  settleCount : Option Nat
  snapshot    : Option Snapshot
  deriving DecidableEq, Repr

/-- The motion unit and its settings (R133). -/
structure Motion where
  accel        : Accelerometer
  guard        : GuardState
  freeFallRun  : Nat
  work         : Working
  freeFallMg   : Nat
  freeFallTime : Nat
  lightMg      : Nat
  hardMg       : Nat
  severeMg     : Nat
  deriving DecidableEq, Repr

/-! ### The drop log unit (chapter 8) -/

/-- The six triggers (R145). -/
inductive Trigger where
  | freeFall | impactLight | impactHard | impactSevere | knockHard | knockSevere
  deriving DecidableEq, Repr

/-- The kind of a drop record (R153). -/
inductive RecordKind where
  | fallImpact | knock | caught | longFall | sensorLost
  deriving DecidableEq, Repr

/-- A verify outcome (R153). -/
inductive VerifyOutcome where
  | verified | changed | noAnswer | notApplicable | interrupted
  deriving DecidableEq, Repr

/-- A drop record (R153). The flag set and the action set are R195's and R199's bits. -/
structure DropRecord where
  kind     : RecordKind
  isOpen   : Bool
  sequence : Nat
  uptimeS  : Nat
  fallTime : Option Nat
  height   : Option Nat
  peak     : Option Nat
  axis     : Option Axis
  severity : Option Severity
  flags    : BitVec 6
  snapshot : RecordSnapshot
  verify   : Both (Option VerifyOutcome)
  actions  : BitVec 6
  deriving DecidableEq, Repr

/-- The drop log unit. -/
structure DropLog where
  /-- The Drop Action Table, in R198's trigger order. -/
  table         : List (BitVec 6)
  /-- The guard hold class mask setting (R148). -/
  holdClasses   : BitVec 4
  inForce       : BitVec 6
  episode       : BitVec 6
  /-- A record was created in the running episode and is still in the log, as its newest. -/
  episodeRecord : Bool
  /-- PARK line state as computed. -/
  parkLine      : Bool
  /-- Level last driven at the PARK pin (R168). -/
  parkPin       : Bool
  parkMark      : Bool
  priorLock     : Both Bool
  /-- Oldest first. -/
  log           : List DropRecord
  drops         : Nat
  index         : Nat
  deriving DecidableEq, Repr

/-! ### The stream unit (chapter 9) -/

/-- One stream's control, divider count and forward number (R161, R164). -/
structure StreamCtl where
  enabled : Bool
  divider : Nat
  count   : Nat
  forward : Nat
  deriving DecidableEq, Repr

/-- The stream unit: the two streams and the stimulus control (R161, R165). -/
structure Streams where
  accel      : StreamCtl
  light      : StreamCtl
  stimulusOn : Bool
  /-- Bit 0 ACCEL, 1 FRONT, 2 REAR (R198). -/
  sources    : BitVec 3
  drives     : Bool
  deriving DecidableEq, Repr

/-! ### The trunk link interface (chapter 11) -/

/-- A packet as its body gives it: TAG, KIND, DEST, OFFSET and what follows the head (R182). -/
structure Packet where
  tag    : Byte
  kind   : Byte
  dest   : Byte
  offset : Half
  rest   : List Byte
  deriving DecidableEq, Repr

/-- The receiver's framing state (R181). -/
inductive RxState where
  | hunt
  | length
  | body (len : Byte) (kept : List Byte)
  | check (len : Byte) (kept : List Byte)
  deriving DecidableEq, Repr

/-- The outcomes of a response (R188). -/
inductive Answer where
  | ok | shadow | noData | bayAbsent | silent | busy | refused | timeout | nack
  | badDest | badOffset | badKind | badValue | badTable
  deriving DecidableEq, Repr

/-- A completed response (R188). -/
structure Response where
  tag     : Byte
  dest    : Byte
  offset  : Half
  outcome : Answer
  data    : List Byte
  deriving DecidableEq, Repr

/-- An ALERT packet's content (R190). -/
structure AlertPacket where
  bay  : BayId
  word : Half
  deriving DecidableEq, Repr

/-- A forwarded ACCEL item (R163). -/
structure AccelItem where
  number   : Nat
  time     : Nat
  x        : Int
  y        : Int
  z        : Int
  guard    : Bool
  injected : Bool
  deriving DecidableEq, Repr

/-- A forwarded LIGHT item (R163). -/
structure LightItem where
  number : Nat
  time   : Nat
  ef     : Option Nat
  er     : Option Nat
  a      : Option Nat
  lout   : Nat
  deriving DecidableEq, Repr

/-- A packet being sent (R189). -/
inductive UpPacket where
  | response (r : Response)
  | alert (p : AlertPacket)
  | accelSample (i : AccelItem)
  | lightSample (i : LightItem)
  deriving DecidableEq, Repr

/-- One sample of an accepted INJECT (R166). -/
inductive InjectedSample where
  | accel (x y z : Half)
  | front (count : Half) (gain : Gain) (integration : Integration) (theta : Byte)
  | rear (count : Half) (gain : Gain) (integration : Integration)
  deriving DecidableEq, Repr

/-- An accepted INJECT whose samples are still being taken (R167). -/
structure InjectWork where
  tag     : Byte
  dest    : Byte
  offset  : Half
  samples : List InjectedSample
  deriving DecidableEq, Repr

/-- The clear mode (R186). -/
inductive ClearMode where
  | clearOnRead | writeOneClear
  deriving DecidableEq, Repr

/-- The trunk link interface. -/
structure Link where
  rx              : RxState
  interByte       : Option Timer
  /-- The INJECT being handled, if its samples are not all taken. -/
  inject          : Option InjectWork
  /-- Packets completed while a request is being handled (R182). -/
  waiting         : List Packet
  responses       : List Response
  alerts          : List AlertPacket
  accelSlot       : Option AccelItem
  lightSlot       : Option LightItem
  sending         : Option UpPacket
  clearMode       : ClearMode
  attention       : BitVec 7
  alertForwarding : Bool
  deriving DecidableEq, Repr

/-! ### The whole state -/

/-- The state of the IC6260, and the queue of commands that wait for it. -/
structure State where
  /-- The model's queue of commands, first in, first out. -/
  pending  : List Instr
  lines    : Lines
  uptime   : Nat
  ctl      : ModeCtl
  store    : TrimStore
  link     : Link
  flags    : SpaceFlags
  policy   : Policy
  /-- The active hold class mask (R10). -/
  holdMask : BitVec 4
  bays     : Both Bay
  supply   : Supply
  light    : Light
  back     : Backlight
  motion   : Motion
  drop     : DropLog
  streams  : Streams
  /-- The model's own: the re-evaluation that the running event still owes (R78). -/
  due      : Option SupplyEvent
  /-- The model's own: how many open orders have been drawn from `Config`. -/
  choice   : Nat
  deriving DecidableEq, Repr

/-! ### Accessors and named updates -/

/-- Bay `i`. -/
def State.bay (s : State) (i : BayId) : Bay := s.bays.get i

/-- The state with bay `i` changed. -/
def State.onBay (s : State) (i : BayId) (f : Bay → Bay) : State :=
  { s with bays := s.bays.set i (f (s.bays.get i)) }

/-- The state with the traffic unit of bay `i` changed. -/
def State.onTraffic (s : State) (i : BayId) (f : Traffic → Traffic) : State :=
  s.onBay i fun y => { y with traffic := f y.traffic }

/-- The state with the pack record of bay `i` changed. -/
def State.onRecord (s : State) (i : BayId) (f : PackRecord → PackRecord) : State :=
  s.onBay i fun y => { y with record := f y.record }

/-- The state with the lines changed. -/
def State.onLines (s : State) (f : Lines → Lines) : State := { s with lines := f s.lines }
/-- The state with the mode controller changed. -/
def State.onCtl (s : State) (f : ModeCtl → ModeCtl) : State := { s with ctl := f s.ctl }
/-- The state with the trunk link interface changed. -/
def State.onLink (s : State) (f : Link → Link) : State := { s with link := f s.link }
/-- The state with the sticky flags changed. -/
def State.onFlags (s : State) (f : SpaceFlags → SpaceFlags) : State := { s with flags := f s.flags }
/-- The state with the policy changed. -/
def State.onPolicy (s : State) (f : Policy → Policy) : State := { s with policy := f s.policy }
/-- The state with the supply controller changed. -/
def State.onSupply (s : State) (f : Supply → Supply) : State := { s with supply := f s.supply }
/-- The state with the light unit changed. -/
def State.onLight (s : State) (f : Light → Light) : State := { s with light := f s.light }
/-- The state with the backlight controller changed. -/
def State.onBack (s : State) (f : Backlight → Backlight) : State := { s with back := f s.back }
/-- The state with the motion unit changed. -/
def State.onMotion (s : State) (f : Motion → Motion) : State := { s with motion := f s.motion }
/-- The state with the drop log unit changed. -/
def State.onDrop (s : State) (f : DropLog → DropLog) : State := { s with drop := f s.drop }
/-- The state with the stream unit changed. -/
def State.onStreams (s : State) (f : Streams → Streams) : State := { s with streams := f s.streams }
/-- The state with another active hold class mask. -/
def State.withHoldMask (s : State) (m : BitVec 4) : State := { s with holdMask := m }
/-- The state with another uptime. -/
def State.withUptime (s : State) (t : Nat) : State := { s with uptime := t }
/-- The state with one more open order drawn. -/
def State.bumpChoice (s : State) : State := { s with choice := s.choice + 1 }
/-- The state with a re-evaluation owed; a more particular event already owed is kept. -/
def State.owe (s : State) (e : SupplyEvent) : State :=
  { s with due := match s.due with
      | some d => if d = .other then some e else some d
      | none => some e }
/-- The state with no re-evaluation owed. -/
def State.settled (s : State) : State := { s with due := none }

/-! ### Reset values -/

/-- An empty pack record (R38). -/
def PackRecord.absent : PackRecord :=
  { identity := none, voltage := none, current := none, temperature := none, chargePct := none,
    remaining := none, full := none, alarms := none, suspect := false, depleted := false,
    chargeStop := false, outcome := .none }

/-- A pack traffic unit after power-on and full reset (R23). -/
def Traffic.fresh : Traffic :=
  { waiting := [], bus := none, alert := false, ident := none, reverify := none, round := none,
    pollTimer := none, failures := 0, tripRaised := false, lastServed := .host }

/-- No lock reason held. -/
def LockReasons.empty : LockReasons := { guard := false, lastSupply := false, host := false }

/-- A bay at power-on, before contact sensing (R65, R91); `closed`: the release intent line. -/
def Bay.fresh (closed : Bool) : Bay :=
  { state := .empty, tripDeferred := false, decisionDeferred := false, returnPending := false,
    contact := false, loss := none, intent := closed, intentFilter := none, timer := none,
    record := .absent, latch := .unlocked, latchLimit := none, solenoid := false,
    solenoidPin := false, reasons := .empty, role := .off, charging := false, traffic := .fresh }

/-- An unused Bay Command Table entry as the reset leaves it (R6). -/
def CommandEntry.unused : CommandEntry := ⟨0, 0, 0, 0, 0, 0, 0, 0⟩

/-- The default Bay Command Table (R6). Byte 7 of a word entry is 1: DESIGN CHOICE, log 3. -/
def defaultCommands : List CommandEntry :=
  [⟨1, 0x20, 1, 1, 0, 1, 1, 1⟩, ⟨1, 0x21, 1, 1, 0, 2, 1, 1⟩, ⟨1, 0x22, 1, 1, 0, 3, 1, 1⟩,
   ⟨1, 0x23, 1, 1, 0, 4, 1, 1⟩, ⟨1, 0x24, 1, 1, 0, 5, 1, 1⟩, ⟨1, 0x25, 1, 1, 0, 6, 1, 1⟩,
   ⟨1, 0x26, 1, 1, 0, 7, 1, 1⟩, ⟨1, 0x30, 1, 1, 1, 8, 0, 1⟩, ⟨1, 0x31, 1, 1, 1, 9, 0, 1⟩,
   ⟨1, 0x32, 1, 1, 1, 10, 0, 1⟩, ⟨1, 0x33, 1, 1, 1, 11, 0, 1⟩, ⟨1, 0x40, 3, 0, 2, 0, 2, 16⟩,
   ⟨1, 0x50, 2, 2, 3, 0, 0, 1⟩, ⟨1, 0x51, 2, 2, 3, 0, 0, 1⟩]
  ++ List.replicate 18 CommandEntry.unused

/-- The default Admission Table (R32). -/
def defaultAdmission : List AdmissionEntry :=
  { use := 1, cls := 1, vMin := 9000, vMax := 12900, iMax := 6000,
    dMin := BitVec.ofInt 16 (-200), dMax := 600, cMin := 0, cMax := 450 }
  :: List.replicate 7 ⟨0, 0, 0, 0, 0, 0, 0, 0, 0⟩

/-- The PACK_POLICY space after power-on and full reset (R6, R32, R64). -/
def Policy.defaults : Policy :=
  { defaultTreatment := .pass, lockoutLimit := ⟨2, 2⟩, transactionLimit := 35, pollPeriod := 1000,
    settleTime := 200, releaseTime := 10, commands := defaultCommands, admission := defaultAdmission }

/-- The supply controller after power-on reset (R87, R91). -/
def Supply.fresh : Supply :=
  { state := .standby, stopCause := .none, barrier := false, hold := none, bridgeRun := none,
    save := none, adapter := none, presenceFilter := none, codeFilter := none,
    bridgeVoltage := none, exhausted := false, converter := Timer.start Config.bridgeInterval,
    pAvail := 0, pbl := 0, holdSetting := .ms64, readyThreshold := 3750, bridgeLimit := 60,
    saveWindow := 5, bridgePower := 20000, normalReserve := 55000, bridgeReserve := 12000,
    shareWindow := 200 }

/-- The trim that a store entry loads (R99, R177). -/
def storeTrim (entry : Half) : Nat :=
  if 1 ≤ entry.toNat && entry.toNat ≤ 8191 then entry.toNat else Config.blankTrim

/-- The trim source that a store entry gives (R99, R177). -/
def storeSource (entry : Half) : TrimSource :=
  if 1 ≤ entry.toNat && entry.toNat ≤ 8191 then .factory else .default

/-- A light sensor at power-on reset (R108). -/
def Sensor.fresh (entry : Half) : Sensor :=
  { enable := true, condition := .off, step := 2, sample := none, trim := storeTrim entry,
    trimSource := storeSource entry, failures := 0, discardOwed := false, stale := none,
    conversion := none }

/-- The light unit at power-on reset (R107, R108). -/
def Light.fresh (store : TrimStore) : Light :=
  { front := Sensor.fresh store.front, rear := Sensor.fresh store.rear, theta := none,
    staleLimit := 1000, weight := 64 }

/-- The default curve (R113). -/
def defaultCurve : List CurvePoint :=
  [⟨0, 40⟩, ⟨1000, 200⟩, ⟨10000, 600⟩, ⟨50000, 1100⟩, ⟨100000, 1500⟩]

/-- The staged curve after power-on and full reset (R127). -/
def defaultStaged : List CurveSlot :=
  [⟨0, 40⟩, ⟨1000, 200⟩, ⟨10000, 600⟩, ⟨50000, 1100⟩, ⟨100000, 1500⟩]
  ++ List.replicate 11 ⟨0, 0⟩

/-- The backlight controller at power-on reset (R125, R127). -/
def Backlight.fresh : Backlight :=
  { on := false, filtered := none, working := defaultCurve, stagedCount := 5,
    staged := defaultStaged, pbl := 0, lpow := 0, stages := none, lout := 0, drive := 0,
    lastSent := 0, tick := none, tickPeriod := 50, riseShift := 1, fallShift := 4, bias := 0,
    lMin := 5, lMax := 1500, q := 320, rUp := 40, rDn := 120 }

/-- A cleared working record (R142, R144). -/
def Working.clear : Working :=
  { converted := none, kind := none, fallCount := none, catchRun := none, windowPeak := none,
    recordPeak := none, windowCount := none, severity := none, multiple := none,
    settleCount := none, snapshot := none }

/-- The stale limit of a rate: four sample periods, ms (R131). -/
def Odr.staleLimit : Odr → Nat
  | .hz400 => 10
  | .hz100 => 40

/-- The motion unit started at a rate, as power-on and full reset leave it (R133, R144). -/
def Motion.fresh (odr : Odr) : Motion :=
  { accel := { condition := .starting, discards := 4, odr := odr, pendingOdr := none,
               latest := none, stale := Timer.start odr.staleLimit },
    guard := .calm, freeFallRun := 0, work := .clear, freeFallMg := 350, freeFallTime := 50,
    lightMg := 4000, hardMg := 8000, severeMg := 14000 }

/-- The default Drop Action Table (R145): bit 0 PARK, 1 LOCK, 2 FREEZE, 3 HOLD, 4 REVERIFY,
5 SUSPECT. -/
def defaultActions : List (BitVec 6) :=
  [0b001111, 0b010000, 0b010000, 0b110000, 0b010000, 0b110110]

/-- The drop log unit at power-on reset (R160). -/
def DropLog.fresh : DropLog :=
  { table := defaultActions, holdClasses := 0b1100, inForce := 0, episode := 0,
    episodeRecord := false, parkLine := false, parkPin := false, parkMark := false,
    priorLock := ⟨false, false⟩, log := [], drops := 0, index := 0 }

/-- A stream after any reset (R169). -/
def StreamCtl.fresh : StreamCtl := { enabled := false, divider := 1, count := 0, forward := 0 }

/-- The stream unit after any reset (R169). -/
def Streams.fresh : Streams :=
  { accel := .fresh, light := .fresh, stimulusOn := false, sources := 0, drives := false }

/-- The trunk link interface after power-on and full reset (R192). -/
def Link.fresh : Link :=
  { rx := .hunt, interByte := none, inject := none, waiting := [], responses := [], alerts := [],
    accelSlot := none, lightSlot := none, sending := none, clearMode := .clearOnRead,
    attention := 0, alertForwarding := false }

/-- No sticky flag set (R192). -/
def SpaceFlags.clear : SpaceFlags := ⟨0, 0, 0, 0, 0, 0, 0⟩

/-- The state that the rise of the always-on rail leaves before contact sensing (R179): every block
at its power-on values, the lines and the factory trim store as they are, no command waiting. -/
def State.atPowerOn (lines : Lines) (store : TrimStore) : State :=
  { pending := [], lines := lines, uptime := 0,
    ctl := { mode := .dormant, enables := 0b11111, causes := 0, wake := false },
    store := store, link := .fresh, flags := .clear, policy := .defaults, holdMask := 0,
    bays := ⟨Bay.fresh lines.intent.a, Bay.fresh lines.intent.b⟩, supply := .fresh,
    light := .fresh store, back := .fresh, motion := .fresh .hz100, drop := .fresh,
    streams := .fresh, due := none, choice := 0 }

/-- Every line at its idle level: RESET_N high, nothing seated, requested or acknowledged.
DESIGN CHOICE, log 1. -/
def Lines.idle : Lines :=
  { resetN := true, pwrReq := false, parkAck := false, adapterSense := false, ratingPins := 0,
    contact := ⟨false, false⟩, intent := ⟨false, false⟩, lockConfirm := ⟨false, false⟩ }

/-- The machine right after a power-on reset with every line idle (log 1) and a blank factory trim
store (log 2). -/
def State.reset : State := State.atPowerOn Lines.idle { front := 0, rear := 0 }

end Sys2Proof.Machine
end

