-- ==== Sys2Proof/Machine/Operands.lean ====
section
/-!
DEFINITION. The forms in which values stand in packets and spaces: byte order (R193), codes (R195),
the framing check (R180), and the bodies of packets (R194).
-/

namespace Sys2Proof.Machine

/-! ### Numbers and bytes (R193) -/

/-- A number brought to the nearer end of a range. -/
def clampNat (lo hi n : Nat) : Nat := min hi (max lo n)

/-- A signed number brought to the nearer end of a range. -/
def clampInt (lo hi n : Int) : Int := min hi (max lo n)

/-- One byte. -/
def le8 (n : Nat) : List Byte := [BitVec.ofNat 8 n]

/-- Two bytes, least significant first. -/
def le16 (n : Nat) : List Byte := [BitVec.ofNat 8 n, BitVec.ofNat 8 (n / 256)]

/-- Four bytes, least significant first. -/
def le32 (n : Nat) : List Byte := le16 n ++ le16 (n / 65536)

/-- Two bytes of a signed value, two's complement. -/
def le16s (i : Int) : List Byte := le16 (BitVec.ofInt 16 i).toNat

/-- One byte of a signed value, two's complement. -/
def le8s (i : Int) : List Byte := [BitVec.ofInt 8 i]

/-- The number that bytes hold, least significant first. -/
def leNat : List Byte → Nat
  | [] => 0
  | b :: bs => b.toNat + 256 * leNat bs

/-- The 16-bit field that bytes hold. -/
def leHalf (bs : List Byte) : Half := BitVec.ofNat 16 (leNat bs)

/-- The signed 16-bit value of an unsigned one. -/
def signed16 (n : Nat) : Int := (BitVec.ofNat 16 n).toInt

/-- The signed 8-bit value of an unsigned one. -/
def signed8 (n : Nat) : Int := (BitVec.ofNat 8 n).toInt

/-- A list made exactly `n` bytes long: cut, or filled with zeros. -/
def exactly (n : Nat) (bs : List Byte) : List Byte :=
  bs.take n ++ List.replicate (n - bs.length) 0

/-- One byte with bits given from bit 0 upward. -/
def packBits (bits : List Bool) : Nat :=
  bits.foldr (fun b n => 2 * n + b.toNat) 0

/-- A set-or-clear field of one byte (R195). -/
def boolByte (b : Bool) : List Byte := le8 b.toNat

/-! ### Codes (R195) -/

/-- Bay state codes. -/
def BayState.code : BayState → Nat
  | .empty => 0 | .seated => 1 | .identifying => 2 | .online => 3 | .releasing => 4
  | .quarantined => 5 | .silent => 6 | .inhibited => 7

/-- Latch state codes. -/
def LatchState.code : LatchState → Nat
  | .unlocked => 0 | .engaging => 1 | .locked => 2 | .disengaging => 3 | .lockFailed => 4

/-- Supply state codes. -/
def SupplyState.code : SupplyState → Nat
  | .standby => 0 | .starting => 1 | .normal => 2 | .bridge => 3 | .save => 4

/-- Guard state codes. -/
def GuardState.code : GuardState → Nat
  | .calm => 0 | .falling => 1 | .impact => 2 | .settling => 3

/-- Admission outcome codes. -/
def AdmissionOutcome.code : AdmissionOutcome → Nat
  | .none => 0 | .cellFault => 1 | .overTemp => 2 | .unknownClass => 3 | .duplicateSerial => 4
  | .voltageOut => 5 | .tempOut => 6 | .tableIncomplete => 7

/-- Stop cause codes. -/
def StopCause.code : StopCause → Nat
  | .none => 0 | .hostRequest => 1 | .supplyLost => 2 | .bridgeEmpty => 3 | .saveEnd => 4

/-- Role codes (R198). -/
def Role.code : Role → Nat
  | .off => 0 | .candidate => 1 | .kept => 2

/-- Snoop field codes. -/
def SnoopField.code : SnoopField → Nat
  | .none => 0 | .voltage => 1 | .current => 2 | .temperature => 3 | .chargePct => 4
  | .remaining => 5 | .full => 6 | .alarms => 7 | .cls => 8 | .designMv => 9 | .designMah => 10
  | .serial => 11

/-- The snoop field that a code names. -/
def snoopOf (n : Nat) : Option SnoopField :=
  match n with
  | 0 => some .none | 1 => some .voltage | 2 => some .current | 3 => some .temperature
  | 4 => some .chargePct | 5 => some .remaining | 6 => some .full | 7 => some .alarms
  | 8 => some .cls | 9 => some .designMv | 10 => some .designMah | 11 => some .serial
  | _ => none

/-- Treatment codes. -/
def Treatment.code : Treatment → Nat
  | .pass => 0 | .shadow => 1 | .block => 2

/-- The treatment that a code names. -/
def treatmentOf (n : Nat) : Option Treatment :=
  match n with
  | 0 => some .pass | 1 => some .shadow | 2 => some .block
  | _ => none

/-- Part mode codes (R194). -/
def PartMode.code : PartMode → Nat
  | .active => 0 | .watch => 1 | .dormant => 2

/-- The part mode that a code names (R194). -/
def modeOf (n : Nat) : Option PartMode :=
  match n with
  | 0 => some .active | 1 => some .watch | 2 => some .dormant
  | _ => none

/-- Clear mode codes (R198). -/
def ClearMode.code : ClearMode → Nat
  | .clearOnRead => 0 | .writeOneClear => 1

/-- Start-up hold codes (R198). -/
def HoldSetting.code : HoldSetting → Nat
  | .ms16 => 0 | .ms64 => 1 | .ms256 => 2

/-- The start-up hold that a code names (R198). -/
def holdOf (n : Nat) : Option HoldSetting :=
  match n with
  | 0 => some .ms16 | 1 => some .ms64 | 2 => some .ms256
  | _ => none

/-- Record kind codes. -/
def RecordKind.code : RecordKind → Nat
  | .fallImpact => 0 | .knock => 1 | .caught => 2 | .longFall => 3 | .sensorLost => 4

/-- Verify outcome codes. -/
def VerifyOutcome.code : VerifyOutcome → Nat
  | .verified => 0 | .changed => 1 | .noAnswer => 2 | .notApplicable => 3 | .interrupted => 4

/-- Severity codes. -/
def Severity.code : Severity → Nat
  | .light => 0 | .hard => 1 | .severe => 2

/-- Axis codes. -/
def Axis.code : Axis → Nat
  | .x => 0 | .y => 1 | .z => 2

/-- Impact kind codes: those of the record kinds they give. -/
def ImpactKind.code : ImpactKind → Nat
  | .fallImpact => 0 | .knock => 1

/-- Light sensor condition codes. -/
def LightCondition.code : LightCondition → Nat
  | .off => 0 | .starting => 1 | .noSample => 2 | .fresh => 3 | .stale => 4 | .faulted => 5

/-- Trim source codes. -/
def TrimSource.code : TrimSource → Nat
  | .factory => 0 | .default => 1 | .host => 2

/-- Accelerometer condition codes. -/
def AccelCondition.code : AccelCondition → Nat
  | .starting => 0 | .running => 1 | .stale => 2

/-- ODR codes (R198). -/
def Odr.code : Odr → Nat
  | .hz400 => 0 | .hz100 => 1

/-- Gains are carried as their values (R194). -/
def Gain.value : Gain → Nat
  | .g1 => 1 | .g4 => 4 | .g16 => 16 | .g64 => 64

/-- The gain that a value names. -/
def gainOf (n : Nat) : Option Gain :=
  match n with
  | 1 => some .g1 | 4 => some .g4 | 16 => some .g16 | 64 => some .g64
  | _ => none

/-- Integrations are carried as their values (R194). -/
def Integration.value : Integration → Nat
  | .t1 => 1 | .t2 => 2 | .t4 => 4 | .t8 => 8

/-- The integration that a value names. -/
def integrationOf (n : Nat) : Option Integration :=
  match n with
  | 1 => some .t1 | 2 => some .t2 | 4 => some .t4 | 8 => some .t8
  | _ => none

/-- OUTCOME codes (R194). -/
def Answer.code : Answer → Nat
  | .ok => 0x00 | .shadow => 0x01 | .noData => 0x02 | .bayAbsent => 0x03 | .silent => 0x04
  | .busy => 0x05 | .refused => 0x06 | .timeout => 0x07 | .nack => 0x08 | .badDest => 0x10
  | .badOffset => 0x11 | .badKind => 0x12 | .badValue => 0x13 | .badTable => 0x14

/-- Space codes (R183). -/
def spaceCode : Space → Nat
  | .hub => 0x00 | .bayA => 0x01 | .bayB => 0x02 | .policy => 0x03 | .supply => 0x04
  | .light => 0x05 | .motion => 0x06

/-- The control space that a DEST names (R183). -/
def spaceOf (dest : Byte) : Option Space :=
  match dest.toNat with
  | 0x00 => some .hub | 0x01 => some .bayA | 0x02 => some .bayB | 0x03 => some .policy
  | 0x04 => some .supply | 0x05 => some .light | 0x06 => some .motion
  | _ => none

/-- The bay that a pass DEST names (R183). -/
def passBay (dest : Byte) : Option BayId :=
  match dest.toNat with
  | 0x11 => some .a | 0x12 => some .b
  | _ => none

/-- The DEST of a control space. -/
def spaceDest (sp : Space) : Byte := BitVec.ofNat 8 (spaceCode sp)

/-- The DEST of a bay's pass space. -/
def passDest : BayId → Byte
  | .a => 0x11
  | .b => 0x12

/-- A bay's control space. -/
def baySpace : BayId → Space
  | .a => .bayA
  | .b => .bayB

/-- A bay's code (R194). -/
def bayCode : BayId → Nat
  | .a => 0
  | .b => 1

/-- Action codes (R195). -/
inductive Action where
  | readmit | clearInhibit | clearSuspect | lock | unlock
  | backlightOn | backlightOff | applyCurve
  | clearLog
  | wakeAck | clearAllFlags
  deriving DecidableEq, Repr

/-- The code of an action (R195). -/
def Action.code : Action → Byte
  | .readmit => 0x01 | .clearInhibit => 0x02 | .clearSuspect => 0x03 | .lock => 0x04
  | .unlock => 0x05 | .backlightOn => 0x10 | .backlightOff => 0x11 | .applyCurve => 0x12
  | .clearLog => 0x20 | .wakeAck => 0x30 | .clearAllFlags => 0x31

/-- The action that a code names in a space's action cell (R195); none: BAD_VALUE (R184). -/
def actionOf (sp : Space) (code : Byte) : Option Action :=
  match sp, code.toNat with
  | .bayA, 0x01 | .bayB, 0x01 => some .readmit
  | .bayA, 0x02 | .bayB, 0x02 => some .clearInhibit
  | .bayA, 0x03 | .bayB, 0x03 => some .clearSuspect
  | .bayA, 0x04 | .bayB, 0x04 => some .lock
  | .bayA, 0x05 | .bayB, 0x05 => some .unlock
  | .light, 0x10 => some .backlightOn
  | .light, 0x11 => some .backlightOff
  | .light, 0x12 => some .applyCurve
  | .motion, 0x20 => some .clearLog
  | .hub, 0x30 => some .wakeAck
  | .hub, 0x31 => some .clearAllFlags
  | _, _ => none

/-! ### The framing check (R180) -/

/-- One bit of the CRC-8 of x^8 + x^2 + x + 1. -/
def crcBit (c : Byte) : Byte :=
  if c.msb then (c <<< 1) ^^^ 0x07 else c <<< 1

/-- One byte taken into the CRC, most significant bit first. -/
def crcByte (c b : Byte) : Byte :=
  crcBit (crcBit (crcBit (crcBit (crcBit (crcBit (crcBit (crcBit (c ^^^ b))))))))

/-- CHECK over bytes: starts from 0, no reflection, no final inversion (R180). -/
def crc8 (bs : List Byte) : Byte := bs.foldl crcByte 0

/-! ### Packets (R194) -/

/-- A packet's LEN: the bytes from TAG through the last. -/
def Packet.len (p : Packet) : Nat := 5 + p.rest.length

/-- The packet that a body of at least five bytes spells. -/
def packetOf (body : List Byte) : Packet :=
  match body with
  | tag :: kind :: dest :: lo :: hi :: rest =>
      { tag := tag, kind := kind, dest := dest, offset := leHalf [lo, hi], rest := rest }
  | _ => { tag := 0, kind := 0, dest := 0, offset := 0, rest := [] }

/-- The body of a packet. -/
def Packet.body (p : Packet) : List Byte :=
  [p.tag, p.kind, p.dest] ++ le16 p.offset.toNat ++ p.rest

/-- A READ packet. -/
def readPacket (tag dest : Byte) (offset : Half) (count : Byte) : Packet :=
  { tag := tag, kind := 1, dest := dest, offset := offset, rest := [count] }

/-- A WRITE packet. -/
def writePacket (tag dest : Byte) (offset : Half) (data : List Byte) : Packet :=
  { tag := tag, kind := 2, dest := dest, offset := offset, rest := data }

/-- A WRITE of an action code to the action cell of a space (offset 4 in every space that has one,
R198). -/
def actionPacket (tag : Byte) (sp : Space) (x : Action) : Packet :=
  writePacket tag (spaceDest sp) 4 [x.code]

/-- An optional number as it is laid out: an absent value reads as zeros (R193). -/
def orZero (v : Option Nat) : Nat := v.getD 0

/-- The body of a packet of the hub (R194). -/
def UpPacket.body : UpPacket → List Byte
  | .response r =>
      [r.tag, 0x81, r.dest] ++ le16 r.offset.toNat ++ le8 r.outcome.code ++ r.data
  | .alert p => [0, 0x82] ++ le8 (bayCode p.bay) ++ le16 p.word.toNat
  | .accelSample i =>
      [0, 0x83, 0] ++ le16 i.number ++ le32 i.time ++ le16s i.x ++ le16s i.y ++ le16s i.z
        ++ le8 (packBits [i.guard, i.injected])
  | .lightSample i =>
      [0, 0x83, 1] ++ le16 i.number ++ le32 i.time ++ le32 (orZero i.ef) ++ le32 (orZero i.er)
        ++ le32 (orZero i.a) ++ le16 i.lout
        ++ le8 (packBits [i.ef.isSome, i.er.isSome, i.a.isSome])

/-- The bytes of a packet of the hub on the wire: SYNC, LEN, body, CHECK (R180). -/
def UpPacket.wire (p : UpPacket) : List Byte :=
  let lenBody := le8 p.body.length ++ p.body
  [0xC3] ++ lenBody ++ [crc8 lenBody]

/-! ### INJECT samples (R166, R194) -/

/-- The three sources of an INJECT, as OFFSET names them (R194). -/
inductive Source where
  | accel | front | rear
  deriving DecidableEq, Repr

/-- The source that an INJECT's OFFSET names. -/
def sourceOf (code : Half) : Option Source :=
  match code.toNat with
  | 0 => some .accel | 1 => some .front | 2 => some .rear
  | _ => none

/-- The bytes of one sample of a source (R194). -/
def Source.size : Source → Nat
  | .accel => 6 | .front => 5 | .rear => 4

/-- The bit of a source in the source set (R198). -/
def Source.bit : Source → Nat
  | .accel => 0 | .front => 1 | .rear => 2

/-- One sample of a source, from its bytes; none where a gain or an integration is not one of the
four (R166). -/
def sampleOf (src : Source) (bs : List Byte) : Option InjectedSample :=
  match src, bs with
  | .accel, [x0, x1, y0, y1, z0, z1] =>
      some (.accel (leHalf [x0, x1]) (leHalf [y0, y1]) (leHalf [z0, z1]))
  | .front, [c0, c1, g, t, th] =>
      match gainOf g.toNat, integrationOf t.toNat with
      | some g, some t => some (.front (leHalf [c0, c1]) g t th)
      | _, _ => none
  | .rear, [c0, c1, g, t] =>
      match gainOf g.toNat, integrationOf t.toNat with
      | some g, some t => some (.rear (leHalf [c0, c1]) g t)
      | _, _ => none
  | _, _ => none

/-- `n` samples of a source, from their bytes in packet order. -/
def samplesOf (src : Source) : Nat → List Byte → Option (List InjectedSample)
  | 0, _ => some []
  | n + 1, bs =>
      match sampleOf src (bs.take src.size), samplesOf src n (bs.drop src.size) with
      | some x, some xs => some (x :: xs)
      | _, _ => none

end Sys2Proof.Machine
end

