-- ==== Sys2Proof/Machine/Flags.lean ====
section
/-!
DEFINITION. The sticky flags of the seven control spaces, the summary and ATTN (R185 to R187).
-/

namespace Sys2Proof.Machine

/-- The flags of R185: the four common ones and the event flags. -/
inductive Flag where
  | badOffset | badValue | refusedWrite | errorSent
  | badFrame | truncated | badDest | badKind | overrun | trafficWake
  | stateChanged | unannounced | releaseDenied | latchFault | supplyUnmonitored
  | powerFail | restored | platformStopped | adapterChanged
  | sensorFault | lightStale
  | motionStale | dropRecorded
  deriving DecidableEq, Repr

/-- The bit of a flag in its space's 2-byte set: the common flags at bits 0 to 3, the event flags
from bit 4 in the order of R185's table (R195). -/
def Flag.bit : Flag → Nat
  | .badOffset => 0 | .badValue => 1 | .refusedWrite => 2 | .errorSent => 3
  | .badFrame => 4 | .truncated => 5 | .badDest => 6 | .badKind => 7 | .overrun => 8
  | .trafficWake => 9
  | .stateChanged => 4 | .unannounced => 5 | .releaseDenied => 6 | .latchFault => 7
  | .supplyUnmonitored => 8
  | .powerFail => 4 | .restored => 5 | .platformStopped => 6 | .adapterChanged => 7
  | .sensorFault => 4 | .lightStale => 5
  | .motionStale => 4 | .dropRecorded => 5

/-- A flag's mask. -/
def Flag.mask (f : Flag) : Half := BitVec.ofNat 16 (2 ^ f.bit)

/-- A space's flags. -/
def SpaceFlags.get (fs : SpaceFlags) : Space → Half
  | .hub => fs.hub | .bayA => fs.bayA | .bayB => fs.bayB | .policy => fs.policy
  | .supply => fs.supply | .light => fs.light | .motion => fs.motion

/-- The flags with one space's replaced. -/
def SpaceFlags.set (fs : SpaceFlags) (sp : Space) (v : Half) : SpaceFlags :=
  match sp with
  | .hub => { fs with hub := v } | .bayA => { fs with bayA := v } | .bayB => { fs with bayB := v }
  | .policy => { fs with policy := v } | .supply => { fs with supply := v }
  | .light => { fs with light := v } | .motion => { fs with motion := v }

/-- Set a flag of a space; a flag already set stays set (R185). -/
def State.raise (s : State) (sp : Space) (f : Flag) : State :=
  s.onFlags fun fs => fs.set sp (fs.get sp ||| f.mask)

/-- Whether a flag of a space is set. -/
def State.flagSet (s : State) (sp : Space) (f : Flag) : Bool :=
  s.flags.get sp &&& f.mask != 0

/-- Clear the flags of a space that a mask names (R186). -/
def State.clearFlags (s : State) (sp : Space) (mask : Half) : State :=
  s.onFlags fun fs => fs.set sp (fs.get sp &&& ~~~ mask)

/-- Clear every sticky flag of every space (R186, R192). -/
def State.clearAllFlags (s : State) : State := s.onFlags fun _ => .clear

/-- The summary: one bit per space, set while any sticky flag of the space is set (R187). -/
def State.summary (s : State) : BitVec 7 :=
  BitVec.ofNat 7 (packBits [s.flags.hub != 0, s.flags.bayA != 0, s.flags.bayB != 0,
    s.flags.policy != 0, s.flags.supply != 0, s.flags.light != 0, s.flags.motion != 0])

/-- ATTN: asserted while a summary flag that is in the attention enable is set (R187). -/
def State.attn (s : State) : Bool := s.summary &&& s.link.attention != 0

end Sys2Proof.Machine
end

