-- ==== Sys2Proof/Machine/Ops.lean ====
section
/-!
DEFINITION. Operations that several blocks share: timers, the guard as other blocks read it, wake
events, outputs at pins, and the upstream side of the trunk link.
-/

namespace Sys2Proof.Machine

/-! ### Timers -/

/-- The time a timer has run. -/
def Timer.elapsed (t : Timer) : Nat := t.period - t.left

/-- One millisecond off a timer. At 0 the timer waits for its expiry, which is a command of its own
(log 4). -/
def Timer.tick (t : Timer) : Timer := { t with left := t.left - 1 }

/-- One millisecond off a timer that may not run. -/
def tickOpt (t : Option Timer) : Option Timer := t.map Timer.tick

/-- A timer runs and has run down: the limits whose expiry "finds nothing to end" after a restart or
an ending (R1, R96, R131) end only then (log 4). -/
def ranDown (t : Option Timer) : Bool :=
  match t with
  | some t => t.left == 0
  | none => false

/-- The time left of a timer, 0 where it does not run. -/
def leftOf (t : Option Timer) : Nat := (t.map Timer.left).getD 0

/-! ### The guard and the mode as other blocks read them -/

/-- The guard is active in FALLING, IMPACT and SETTLING (R134). -/
def guardActive (s : State) : Bool := s.motion.guard != .calm

/-- The set of actions: bit positions of R195. -/
inductive DropAction where
  | park | lock | freeze | hold | reverify | suspect
  deriving DecidableEq, Repr

/-- The bit of an action. -/
def DropAction.mask : DropAction → BitVec 6
  | .park => 1 | .lock => 2 | .freeze => 4 | .hold => 8 | .reverify => 16 | .suspect => 32

/-- Whether an action set holds an action. -/
def hasAction (set : BitVec 6) (x : DropAction) : Bool := set &&& x.mask != 0

/-- FREEZE is in force (R55). -/
def frozen (s : State) : Bool := hasAction s.drop.inForce .freeze

/-! ### Wake events (R174) -/

/-- The bit of a wake event (R195). -/
def WakeKind.mask : WakeKind → BitVec 5
  | .packSeated => 1 | .releaseIntent => 2 | .adapterChange => 4 | .drop => 8 | .powerFail => 16

/-- A wake event taken by the mode controller: in WATCH or DORMANT an enabled event joins the cause
set and asserts WAKE; otherwise it has no effect (R174). -/
def ModeCtl.wakeEvent (k : WakeKind) (c : ModeCtl) : ModeCtl :=
  if c.mode != .active && c.enables &&& k.mask != 0 then
    { c with causes := c.causes ||| k.mask, wake := true }
  else c

/-- A wake event handed to the mode controller. -/
def State.wakeEvent (s : State) (k : WakeKind) : State := s.onCtl (ModeCtl.wakeEvent k)

/-! ### Outputs at pins (R168) -/

/-- Stimulus is on and drives outputs is clear: three outputs are computed but not driven. -/
def undriven (s : State) : Bool := s.streams.stimulusOn && !s.streams.drives

/-- PARK and solenoid pins take their computed levels, unless the outputs are undriven. -/
def State.syncPins (s : State) : State :=
  if undriven s then s
  else
    ((s.onDrop fun d => { d with parkPin := d.parkLine }).onBay .a
      fun y => { y with solenoidPin := y.solenoid }).onBay .b
      fun y => { y with solenoidPin := y.solenoid }

/-! ### The upstream transmitter (R188 to R190) -/

/-- The upstream arbiter's choice with the transmitter IDLE: the oldest response, otherwise the
oldest ALERT packet, otherwise the ACCEL slot, otherwise the LIGHT slot. The chosen packet leaves
its list or slot (R189). -/
def Link.choose (l : Link) : Link :=
  match l.responses, l.alerts, l.accelSlot, l.lightSlot with
  | r :: rs, _, _, _ => { l with responses := rs, sending := some (.response r) }
  | [], p :: ps, _, _ => { l with alerts := ps, sending := some (.alert p) }
  | [], [], some i, _ => { l with accelSlot := none, sending := some (.accelSample i) }
  | [], [], none, some i => { l with lightSlot := none, sending := some (.lightSample i) }
  | [], [], none, none => l

/-- The arbiter's look: it chooses only with the transmitter IDLE, and begins no packet while
RESET_N is low (R189, R191). -/
def State.transmit (s : State) : State :=
  if s.lines.resetN && s.link.sending.isNone then s.onLink Link.choose else s

/-- A completed response is handed to the transmitter: it joins the response list at the back, or is
dropped with OVERRUN while the list holds 8 (R188). -/
def State.respond (s : State) (r : Response) : State :=
  if Config.responseCapacity ≤ s.link.responses.length then s.raise .hub .overrun
  else (s.onLink fun l => { l with responses := l.responses ++ [r] }).transmit

/-- A pending ALERT packet's word is replaced in its place, or the packet joins at the back: at most
one per bay (R190). -/
def placeAlert (p : AlertPacket) : List AlertPacket → List AlertPacket
  | [] => [p]
  | q :: qs => if q.bay = p.bay then p :: qs else q :: placeAlert p qs

/-- An ALERT packet is handed to the transmitter (R190). -/
def State.handAlert (s : State) (p : AlertPacket) : State :=
  (s.onLink fun l => { l with alerts := placeAlert p l.alerts }).transmit

/-! ### Bay states and what they allow -/

/-- States in which transactions are made on the bay bus (R7, R11). -/
def BayState.traffic : BayState → Bool
  | .identifying | .online | .quarantined | .inhibited | .releasing => true
  | .empty | .seated | .silent => false

/-- States in which the poll timer runs (R17). -/
def BayState.polls : BayState → Bool
  | .online | .quarantined | .inhibited => true
  | .empty | .seated | .identifying | .releasing | .silent => false

/-- The poll period that a mode calls for; none in DORMANT (R17). -/
def pollPeriod (p : Policy) : PartMode → Option Nat
  | .active => some p.pollPeriod
  | .watch => some Config.watchPollPeriod
  | .dormant => none

/-! ### Tables -/

/-- A Bay Command Table entry is used (R3). -/
def CommandEntry.used (e : CommandEntry) : Bool := e.use == 1

/-- An entry's snoop field; NONE for a byte that is no code, which only an unused entry may hold. -/
def CommandEntry.snoopField (e : CommandEntry) : SnoopField := (snoopOf e.snoop.toNat).getD .none

/-- The entry allows reads (R3). -/
def CommandEntry.reads (e : CommandEntry) : Bool := e.access == 1 || e.access == 3

/-- The entry allows writes (R3). -/
def CommandEntry.writes (e : CommandEntry) : Bool := e.access == 2 || e.access == 3

/-- A poll round reads the entry (R3). -/
def CommandEntry.polled (e : CommandEntry) : Bool := e.bits &&& 1 != 0

/-- The entry's size (R3). -/
def CommandEntry.size (e : CommandEntry) : XferSize :=
  if e.bits &&& 2 != 0 then .block e.length.toNat else .word

/-- The used entry that holds a code (R4). -/
def Policy.entryFor (p : Policy) (code : Byte) : Option CommandEntry :=
  p.commands.find? fun e => e.used && e.code == code

/-- The entry for one of the hub's own reads of a field: the lowest-numbered used entry that names
the field and allows reads (R5). -/
def Policy.ownEntry (p : Policy) (f : SnoopField) : Option CommandEntry :=
  p.commands.find? fun e => e.used && e.snoopField == f && e.reads

/-- The next entry of a poll round: the first used entry with the poll flag whose number is at least
`n`, with its number (R18). -/
def nextPoll (n : Nat) (es : List CommandEntry) : Option (Nat × CommandEntry) :=
  (es.zipIdx.map fun x => (x.2, x.1)).find? fun x => n ≤ x.1 && x.2.used && x.2.polled

/-- An Admission Table entry is used (R31). -/
def AdmissionEntry.used (e : AdmissionEntry) : Bool := e.use == 1

/-- The used entry that holds a class code (R32). -/
def Policy.classEntry (p : Policy) (cls : Nat) : Option AdmissionEntry :=
  p.admission.find? fun e => e.used && e.cls.toNat == cls

/-- A bay's class limits: while its identity part is present and a used entry holds its class
(R32). -/
def classLimits (p : Policy) (r : PackRecord) : Option AdmissionEntry :=
  match r.identity with
  | some i => p.classEntry i.cls
  | none => none

/-! ### The drop log unit's report path (R152) -/

/-- A record closes when its last absent verify outcome is written (R152). -/
def DropRecord.closeIfVerified (r : DropRecord) : DropRecord :=
  if r.verify.a.isSome && r.verify.b.isSome then { r with isOpen := false } else r

/-- A verify outcome written into a record, where it is still absent (R152). -/
def DropRecord.writeVerify (i : BayId) (o : VerifyOutcome) (r : DropRecord) : DropRecord :=
  if r.isOpen && (r.verify.get i).isNone then
    DropRecord.closeIfVerified { r with verify := r.verify.set i (some o) }
  else r

/-- The newest record of the log changed (R156). -/
def onNewest (f : DropRecord → DropRecord) : List DropRecord → List DropRecord
  | [] => []
  | [r] => [f r]
  | r :: rs => r :: onNewest f rs

/-- A re-verification report: written into the record that requested it, unless that record was
removed or the request withdrawn (R152). The record that may still take one is the newest. -/
def State.report (s : State) (i : BayId) (dest : ReverifyDest) (o : VerifyOutcome) : State :=
  match dest with
  | .record => s.onDrop fun d => { d with log := onNewest (DropRecord.writeVerify i o) d.log }
  | .removed | .withdrawn => s

end Sys2Proof.Machine
end

