-- ==== Sys2Proof/Machine/Latch.lean ====
section
/-!
DEFINITION. The latch lock controller of one bay (R59 to R62), as functions of the bay: it follows
whether the lock-reason set is empty, and LOCK_CONFIRM.
-/

namespace Sys2Proof.Machine

/-- The lock-reason set is not empty. -/
def LockReasons.held (r : LockReasons) : Bool := r.guard || r.lastSupply || r.host

/-- Entering ENGAGING: the solenoid is driven and the confirm limit starts; with LOCK_CONFIRM
already present the latch is LOCKED at once (R60). -/
def Bay.engage (confirm : Bool) (y : Bay) : Bay :=
  if confirm then { y with latch := .locked, latchLimit := none, solenoid := true }
  else { y with latch := .engaging, latchLimit := some (Timer.start Config.confirmLimit),
                solenoid := true }

/-- Entering DISENGAGING: the solenoid is released and the confirm limit starts; with LOCK_CONFIRM
already absent the latch is UNLOCKED at once (R61). -/
def Bay.disengage (confirm : Bool) (y : Bay) : Bay :=
  if confirm then
    { y with latch := .disengaging, latchLimit := some (Timer.start Config.confirmLimit),
             solenoid := false }
  else { y with latch := .unlocked, latchLimit := none, solenoid := false }

/-- The set became non-empty: UNLOCKED engages, unless the bay is RELEASING (R62); DISENGAGING
engages again (R60). -/
def Bay.setFilled (confirm : Bool) (y : Bay) : Bay :=
  match y.latch with
  | .unlocked => if y.state = .releasing then y else y.engage confirm
  | .disengaging => y.engage confirm
  | .engaging | .locked | .lockFailed => y

/-- The set became empty: ENGAGING and LOCKED disengage, LOCK_FAILED is UNLOCKED (R60). -/
def Bay.setEmptied (confirm : Bool) (y : Bay) : Bay :=
  match y.latch with
  | .engaging | .locked => y.disengage confirm
  | .lockFailed => { y with latch := .unlocked }
  | .unlocked | .disengaging => y

/-- The lock-reason set takes a new value, and the latch follows where the set changed between
empty and non-empty (R59, R60). -/
def Bay.setReasons (confirm : Bool) (r : LockReasons) (y : Bay) : Bay :=
  let z := { y with reasons := r }
  if r.held && !y.reasons.held then z.setFilled confirm
  else if !r.held && y.reasons.held then z.setEmptied confirm
  else z

/-- The latch when its bay leaves RELEASING: with a reason held and the latch UNLOCKED it engages
(R62). -/
def Bay.afterReleasing (confirm : Bool) (y : Bay) : Bay :=
  if y.reasons.held && y.latch = .unlocked then y.engage confirm else y

/-- LOCK_CONFIRM rose: an ENGAGING latch is LOCKED, the solenoid staying driven (R60). -/
def Bay.confirmRose (y : Bay) : Bay :=
  match y.latch with
  | .engaging => { y with latch := .locked, latchLimit := none }
  | .unlocked | .locked | .disengaging | .lockFailed => y

/-- LOCK_CONFIRM fell: a DISENGAGING latch is UNLOCKED (R61); a LOCKED one with a reason held goes
back to ENGAGING with a fresh limit (R60). -/
def Bay.confirmFell (y : Bay) : Bay :=
  match y.latch with
  | .disengaging => { y with latch := .unlocked, latchLimit := none, solenoid := false }
  | .locked => if y.reasons.held then y.engage false else y
  | .unlocked | .engaging | .lockFailed => y

/-- The reasons of a bay's set replaced in the state; the pins follow. -/
def State.setReasons (s : State) (i : BayId) (f : LockReasons → LockReasons) : State :=
  (s.onBay i fun y => y.setReasons (s.lines.lockConfirm.get i) (f y.reasons)).syncPins

end Sys2Proof.Machine
end

