-- ==== Sys2Proof/Machine/Panel.lean ====
section
/-!
DEFINITION. The backlight controller's computations (chapter 6): the pipeline's stages, the power
ceiling, the clamp, the slew and the drive word, and what a change of its inputs does at once.
-/

namespace Sys2Proof.Machine

/-! ### The stages -/

/-- Stage 1: the filtered illuminance moves one step toward E_eff (R112). -/
def filterStep (rise fall a e : Nat) : Nat :=
  if a < e then a + max 1 ((e - a) / 2 ^ rise)
  else if e < a then a - max 1 ((a - e) / 2 ^ fall)
  else a

/-- Stage 1 with absences: seeded by the first E_eff, held without one (R112). -/
def filterStage (rise fall : Nat) (a e : Option Nat) : Option Nat :=
  match a, e with
  | none, e => e
  | some a, none => some a
  | some a, some e => some (filterStep rise fall a e)

/-- The value between two points of the curve, the quotient rounded toward minus infinity (R113). -/
def interpolate (p q : CurvePoint) (a : Nat) : Nat :=
  ((p.nits : Int) + ((a : Int) - p.lux) * ((q.nits : Int) - p.nits) / ((q.lux : Int) - p.lux)).toNat

/-- Stage 2 from a point on: the segment that holds `a`, or the last point (R113). -/
def curveFrom (a : Nat) (p : CurvePoint) : List CurvePoint → Nat
  | [] => p.nits
  | q :: qs => if a < q.lux then interpolate p q a else curveFrom a q qs

/-- Stage 2: the luminance N that a curve gives at A (R113). -/
def curveAt (c : List CurvePoint) (a : Nat) : Nat :=
  match c with
  | [] => 0
  | p :: ps => if a ≤ p.lux then p.nits else curveFrom a p ps

/-- Stage 3: the bias, capped at L_max (R114). -/
def biased (lMax : Nat) (bias : Int) (n : Nat) : Nat :=
  min lMax (((n : Int) * (100 + bias)) / 100).toNat

/-- Stage 4: the thermal ceiling (R115). -/
def thermalCeiling (lMax : Nat) (theta : Int) : Nat :=
  let lf := min 300 lMax
  if theta ≤ 60 then lMax
  else if 85 ≤ theta then lf
  else lMax - (theta - 60).toNat * (lMax - lf) / 25

/-- The power ceiling L_pow (R116). -/
def powerCeiling (lMax q pbl : Nat) : Nat := min lMax (pbl * 64 / q)

/-- The drive word D (R119). -/
def driveWord (lMax lout : Nat) : Nat := lout * Config.driveFullScale / lMax

/-- Stage 8 after the clamp: one slew step toward the target (R118). -/
def slew (rUp rDn target lout : Nat) : Nat :=
  if lout < target then min target (lout + rUp)
  else max target (lout - rDn)

/-! ### What acts at once -/

/-- D is sent when it differs from the last drive word sent, unless the outputs are undriven (R119,
R168). -/
def Backlight.send (undriven : Bool) (k : Backlight) : Backlight :=
  if undriven then k else { k with lastSent := k.drive }

/-- D computed from L_out and sent if it changed (R119). -/
def Backlight.redrive (undriven : Bool) (k : Backlight) : Backlight :=
  Backlight.send undriven { k with drive := driveWord k.lMax k.lout }

/-- L_pow computed, and the clamp; a clamp that lowers L_out is followed by stage 9 (R116, R117). -/
def Backlight.reclamp (undriven : Bool) (k : Backlight) : Backlight :=
  let lpow := powerCeiling k.lMax k.q k.pbl
  let k' := { k with lpow := lpow }
  if lpow < k.lout then Backlight.redrive undriven { k' with lout := lpow } else k'

/-- The supply controller hands a new P_bl (R86, R116). -/
def Backlight.handPbl (undriven : Bool) (pbl : Nat) (k : Backlight) : Backlight :=
  Backlight.reclamp undriven { k with pbl := pbl }

/-- L_out and D go to 0: BACKLIGHT_OFF (R120) and leaving ACTIVE (R121). -/
def Backlight.dark (undriven : Bool) (k : Backlight) : Backlight :=
  Backlight.send undriven { k with lout := 0, drive := 0 }

/-- Leaving ACTIVE: the tick timer stops, the output is dark, A and the stage results become absent
(R110, R121). -/
def Backlight.leaveActive (undriven : Bool) (k : Backlight) : Backlight :=
  Backlight.dark undriven { k with tick := none, filtered := none, stages := none }

/-- Entry to ACTIVE: the tick timer starts (R110). -/
def Backlight.enterActive (k : Backlight) : Backlight :=
  { k with tick := some (Timer.start k.tickPeriod) }

/-- Stages 2 to 9 at a filtered illuminance `a` and a panel temperature `theta` (R113 to R119). -/
def Backlight.pipeline (undriven : Bool) (a : Nat) (theta : Int) (k : Backlight) : Backlight :=
  let n := curveAt k.working a
  let t := biased k.lMax k.bias n
  let lth := thermalCeiling k.lMax theta
  let u := max k.lMin (min t lth)
  let lpow := powerCeiling k.lMax k.q k.pbl
  let target := min u lpow
  let lout := slew k.rUp k.rDn target (min k.lout lpow)
  Backlight.redrive undriven
    { k with lpow := lpow, stages := some ⟨n, t, lth, u, target⟩, lout := lout }

/-- A brightness tick's stages: stage 1, and the rest unless OFF or A is absent; the timer restarts
with the period in force (R110, R111). -/
def Backlight.tickStages (undriven : Bool) (e : Option Nat) (theta : Int) (k : Backlight) :
    Backlight :=
  let a := filterStage k.riseShift k.fallShift k.filtered e
  let k' := { k with filtered := a, tick := some (Timer.start k.tickPeriod) }
  match a with
  | some a => if k.on then Backlight.pipeline undriven a theta k' else k'
  | none => k'

/-! ### The staged curve (R122, R123) -/

/-- The first points of the staged curve, as many as its count. -/
def Backlight.stagedPoints (k : Backlight) : List CurvePoint :=
  (k.staged.take k.stagedCount.toNat).map fun s => ⟨s.lux.toNat, s.nits.toNat⟩

/-- l strictly increasing across a curve. -/
def increasing : List CurvePoint → Bool
  | [] => true
  | [_] => true
  | p :: q :: ps => p.lux < q.lux && increasing (q :: ps)

/-- The staged curve is valid (R123). -/
def Backlight.stagedValid (k : Backlight) : Bool :=
  2 ≤ k.stagedCount.toNat && k.stagedCount.toNat ≤ 16
    && k.stagedPoints.all (fun p => p.lux ≤ Config.luxMax && p.nits ≤ k.lMax)
    && increasing k.stagedPoints

end Sys2Proof.Machine
end

