-- ==== Sys2Proof/Machine/StreamUnit.lean ====
section
/-!
DEFINITION. The stream unit (chapter 9): items taken and forwarded, the stream controls, and which
sources stimulus replaces.
-/

namespace Sys2Proof.Machine

/-! ### Items (R162, R164) -/

/-- The next forward number: it wraps from 65,535 to 1 (R164). -/
def nextForward (n : Nat) : Nat := if 65535 ≤ n then 1 else n + 1

/-- A taken item is forwarded: the count with it reaches the divider (R162). -/
def StreamCtl.forwards (c : StreamCtl) : Bool := c.divider ≤ c.count + 1

/-- The control after an item is taken (R162, R164). -/
def StreamCtl.take (c : StreamCtl) : StreamCtl :=
  if c.forwards then { c with count := 0, forward := nextForward c.forward }
  else { c with count := c.count + 1 }

/-- A stream takes items while it is enabled and the mode is ACTIVE or WATCH (R162). -/
def StreamCtl.takes (m : PartMode) (c : StreamCtl) : Bool := c.enabled && m != .dormant

/-- An ACCEL item handed by the motion unit (R162 to R164). -/
def State.offerAccel (s : State) (x y z : Int) (guard injected : Bool) : State :=
  let c := s.streams.accel
  if c.takes s.ctl.mode then
    let s1 := s.onStreams fun u => { u with accel := c.take }
    if c.forwards then
      let item : AccelItem :=
        { number := c.take.forward, time := s.uptime, x := x, y := y, z := z, guard := guard,
          injected := injected }
      (s1.onLink fun l => { l with accelSlot := some item }).transmit
    else s1
  else s

/-- A LIGHT item handed by the backlight controller (R162 to R164). -/
def State.offerLight (s : State) (ef er a : Option Nat) (lout : Nat) : State :=
  let c := s.streams.light
  if c.takes s.ctl.mode then
    let s1 := s.onStreams fun u => { u with light := c.take }
    if c.forwards then
      let item : LightItem :=
        { number := c.take.forward, time := s.uptime, ef := ef, er := er, a := a, lout := lout }
      (s1.onLink fun l => { l with lightSlot := some item }).transmit
    else s1
  else s

/-! ### Controls (R161) -/

/-- A stream control after a write (R161). -/
def StreamCtl.write (enable : Bool) (divider : Nat) (c : StreamCtl) : StreamCtl :=
  if enable then
    if c.enabled then c
    else { enabled := true, divider := clampNat 1 255 divider, count := 0, forward := 0 }
  else { c with enabled := false }

/-- A stream's pending sample is discarded (R161, R164). -/
def Link.discardSlot (st : StreamId) (l : Link) : Link :=
  match st with
  | .accel => { l with accelSlot := none }
  | .light => { l with lightSlot := none }

/-- A write of a stream control (R161). -/
def State.writeStream (s : State) (st : StreamId) (enable : Bool) (divider : Nat) : State :=
  let before := match st with
    | .accel => s.streams.accel.enabled
    | .light => s.streams.light.enabled
  let s1 := s.onStreams fun u =>
    match st with
    | .accel => { u with accel := u.accel.write enable divider }
    | .light => { u with light := u.light.write enable divider }
  if before && !enable then s1.onLink (Link.discardSlot st) else s1

/-- Entry to DORMANT: pending samples are discarded and the divider counts return to 0 (R162). -/
def State.streamsDormant (s : State) : State :=
  (s.onStreams fun u =>
    { u with accel := { u.accel with count := 0 }, light := { u.light with count := 0 } }).onLink
    fun l => { l with accelSlot := none, lightSlot := none }

/-! ### Replacement (R165) -/

/-- A source is replaced while stimulus is on and the source set names it (R165). -/
def Streams.replaces (u : Streams) (src : Source) : Bool :=
  u.stimulusOn && u.sources.getLsbD src.bit

/-- The source that a light sensor is. -/
def sensorSource : SensorId → Source
  | .front => .front
  | .rear => .rear

end Sys2Proof.Machine
end

