-- ==== Sys2Proof/Machine/LightUnit.lean ====
section
/-!
DEFINITION. The light unit (chapter 5): enable and condition, conversions, the range ladder,
illuminance, staleness, fusion; and the brightness tick that asks it (R104, R111).
-/

namespace Sys2Proof.Machine

/-! ### The range ladder (R96, R98) -/

/-- Conversion time of a range step, ms (R96). -/
def conversionMs (step : Nat) : Nat :=
  match step with
  | 0 => 25
  | 1 | 2 | 3 | 4 => 100
  | _ => 200

/-- The gain that a range step sends the sensor (R96). -/
def stepGain (step : Nat) : Gain :=
  match step with
  | 0 | 1 => .g1
  | 2 => .g4
  | 3 => .g16
  | _ => .g64

/-- The integration that a range step sends the sensor (R96). -/
def stepIntegration (step : Nat) : Integration :=
  match step with
  | 0 => .t1
  | 1 | 2 | 3 | 4 => .t4
  | _ => .t8

/-- The step after an accepted sample: down above 60,000, up below 2,000, held at the ends (R98). -/
def nextStep (count step : Nat) : Nat :=
  if 60000 < count then step - 1
  else if count < 2000 then min 5 (step + 1)
  else step

/-- A conversion started at the step held, with its limit (R96). -/
def Sensor.startConversion (r : Sensor) : Sensor :=
  { r with conversion := some (Timer.start (conversionMs r.step + Config.conversionMargin)) }

/-! ### Enable (R95) -/

/-- The sensor becomes enabled; no conversion where stimulus replaces it (R95, R106). -/
def Sensor.enabled (replaced : Bool) (r : Sensor) : Sensor :=
  let r1 := { r with condition := .starting, failures := 0, discardOwed := true }
  if replaced then r1 else r1.startConversion

/-- The sensor stops being enabled (R95). -/
def Sensor.disabled (r : Sensor) : Sensor :=
  { r with condition := .off, conversion := none, sample := none, stale := none, failures := 0 }

/-- The evaluation of R95, at a change of part mode and at a write of an enable setting. -/
def Sensor.evaluate (active replaced : Bool) (r : Sensor) : Sensor :=
  if active && r.enable then
    if r.condition = .off then r.enabled replaced else r
  else if r.condition = .off then r
  else r.disabled

/-! ### Illuminance (R100) -/

/-- E of a sample (R100). -/
def illuminance (count trim : Nat) (g : Gain) (t : Integration) : Nat :=
  if count = 65535 && g = .g1 && t = .t1 then Config.luxMax
  else min Config.luxMax (count * trim / (1024 * Gain.value g * Integration.value t))

/-! ### Samples (R97, R98, R103, R106) -/

/-- A discarded conversion (R97). -/
def Sensor.discard (r : Sensor) : Sensor :=
  let r1 := { r with failures := 0, discardOwed := false }
  if r.condition = .starting || r.condition = .faulted then
    { r1 with condition := .noSample, stale := none }
  else r1

/-- An accepted sample at its record (R98). -/
def Sensor.accept (now limit count : Nat) (g : Gain) (t : Integration) (r : Sensor) : Sensor :=
  { r with
    sample := some { count := count, gain := g, integration := t, saturated := count == 65535,
                     arrival := now, lux := illuminance count r.trim g t },
    step := nextStep count r.step,
    failures := 0, stale := some (Timer.start limit), condition := .fresh }

/-- θ taken from an accepted FRONT sample (R103). -/
def Light.takeTheta (now : Nat) (theta : Byte) (u : Light) : Light :=
  { u with theta := some ⟨clampInt (-40) 125 theta.toInt, now⟩ }

/-- One sensor of the light unit. -/
def Light.sensor (u : Light) : SensorId → Sensor
  | .front => u.front
  | .rear => u.rear

/-- The light unit with one sensor changed. -/
def Light.onSensor (i : SensorId) (f : Sensor → Sensor) (u : Light) : Light :=
  match i with
  | .front => { u with front := f u.front }
  | .rear => { u with rear := f u.rear }

/-- An accepted sample at the light unit; θ only with FRONT (R98, R103). -/
def Light.accept (now : Nat) (i : SensorId) (count : Nat) (g : Gain) (t : Integration)
    (theta : Byte) (u : Light) : Light :=
  let u1 := u.onSensor i (Sensor.accept now u.staleLimit count g t)
  match i with
  | .front => u1.takeTheta now theta
  | .rear => u1

/-- A sample arrives. The late sample of a conversion that has ended or was abandoned is discarded
without effect, and so is any with no conversion in progress; the sample of the conversion in
progress ends it in success, is discarded as owed or accepted, and the next conversion starts
(R95, R96, R97, R106; log 8). -/
def Light.arrival (now : Nat) (i : SensorId) (c : Arrival Half) (g : Gain) (t : Integration)
    (theta : Byte) (u : Light) : Light :=
  match c, (u.sensor i).conversion with
  | .own count, some _ =>
      let u1 := if (u.sensor i).discardOwed then u.onSensor i Sensor.discard
        else u.accept now i count.toNat g t theta
      u1.onSensor i Sensor.startConversion
  | .own _, none | .late _, _ => u

/-- An injected sample: discarded in OFF, otherwise accepted, with no discard owed (R106). -/
def Light.injected (now : Nat) (i : SensorId) (count : Nat) (g : Gain) (t : Integration)
    (theta : Byte) (u : Light) : Light :=
  if (u.sensor i).condition = .off then u
  else (u.accept now i count g t theta).onSensor i fun r => { r with discardOwed := false }

/-! ### Failures (R102) -/

/-- A failed conversion at its record: the third in a row makes the sensor FAULTED (R96, R102). -/
def Sensor.fail (r : Sensor) : Sensor :=
  let n := min 3 (r.failures + 1)
  Sensor.startConversion
    { r with failures := n, condition := if 3 ≤ n then .faulted else r.condition }

/-- The conversion in progress fails: SENSOR_FAULT is set at each entry to FAULTED (R102). -/
def State.conversionFails (s : State) (i : SensorId) : State :=
  let r := s.light.sensor i
  let s1 := s.onLight (Light.onSensor i Sensor.fail)
  if r.condition ≠ .faulted && r.fail.condition = .faulted then s1.raise .light .sensorFault
  else s1

/-! ### Staleness (R101) -/

/-- A stale timer expires: a FRESH sensor becomes STALE. -/
def Sensor.expireStale (r : Sensor) : Sensor :=
  { r with stale := none, condition := if r.condition = .fresh then .stale else r.condition }

/-- The stale timer's expiry, where it runs. -/
def Sensor.staleExpiry (r : Sensor) : Sensor := if r.stale.isSome then r.expireStale else r

/-- A write of the stale limit re-arms a running timer by the age of the latest sample, and expires
it at once where that age has reached the new limit. -/
def Sensor.rearm (limit : Nat) (r : Sensor) : Sensor :=
  match r.stale with
  | some t =>
      if limit ≤ t.elapsed then r.expireStale
      else { r with stale := some ⟨limit, limit - t.elapsed⟩ }
  | none => r

/-- The stale limit written (R101, R107). -/
def Light.setStaleLimit (limit : Nat) (u : Light) : Light :=
  { u with staleLimit := limit, front := u.front.rearm limit, rear := u.rear.rearm limit }

/-! ### Replacement (R106) -/

/-- A replacement begins: a conversion in progress is abandoned. -/
def Sensor.replacementBegins (r : Sensor) : Sensor :=
  { r with conversion := none }

/-- A replacement ends: an enabled sensor's conversions resume as at an enable, its discard owed;
FRESH and STALE keep their condition (R106; log 24). -/
def Sensor.replacementEnds (r : Sensor) : Sensor :=
  if r.condition = .off then r
  else
    let keeps := r.condition = .fresh || r.condition = .stale
    Sensor.startConversion
      { r with discardOwed := true, failures := 0,
               condition := if keeps then r.condition else .starting,
               stale := if keeps then r.stale else none }

/-! ### Fusion (R104, R105) -/

/-- A sensor's illuminance while it is usable, that is, FRESH (R94, R104). -/
def Sensor.usable (r : Sensor) : Option Nat :=
  if r.condition = .fresh then r.sample.map LightSample.lux else none

/-- E_eff from the usable illuminances and the rear weight (R104). -/
def fuse (weight : Nat) : Option Nat → Option Nat → Option Nat
  | some f, some r => some (max f (r * weight / 256))
  | some f, none => some f
  | none, some r => some (r * weight / 256)
  | none, none => none

/-- θ as a tick takes it: 25 °C while absent (R103). -/
def Light.tickTheta (u : Light) : Int :=
  match u.theta with
  | some t => t.value
  | none => 25

/-- A brightness tick: fusion, LIGHT_STALE where both sensors are excluded, the pipeline, and one
item for the LIGHT stream (R104, R105, R111). -/
def State.brightnessTick (s : State) : State :=
  let ef := s.light.front.usable
  let er := s.light.rear.usable
  let e := fuse s.light.weight ef er
  let s1 := if e.isNone then s.raise .light .lightStale else s
  let s2 := s1.onBack (Backlight.tickStages (undriven s) e s.light.tickTheta)
  s2.offerLight ef er s2.back.filtered s2.back.lout

end Sys2Proof.Machine
end

