-- ==== Sys2Proof/Machine/BayManager.lean ====
section
/-!
DEFINITION. The bay manager's operations (chapters 2 and 3): moving a bay from state to state with
what each entry does to its record, timers, latch and traffic; shadow answers; the admission check;
lockout trips and their deferral.
-/

namespace Sys2Proof.Machine

/-! ### Shadow answers (R28) -/

/-- The 16-bit value that a pack record holds for a snoop field, where the field is present. -/
def PackRecord.fieldValue (r : PackRecord) : SnoopField → Option Nat
  | .none => none
  | .voltage => r.voltage.map Timed.value
  | .current => r.current.map fun v => (BitVec.ofInt 16 v.value).toNat
  | .temperature => r.temperature.map fun v => (BitVec.ofInt 16 v.value).toNat
  | .chargePct => r.chargePct.map Timed.value
  | .remaining => r.remaining.map Timed.value
  | .full => r.full.map Timed.value
  | .alarms => r.alarms.map fun v => v.value.toNat
  | .cls => r.identity.map Identity.cls
  | .designMv => r.identity.map Identity.designMv
  | .designMah => r.identity.map Identity.designMah
  | .serial => r.identity.map Identity.serial

/-- A value placed in the width of an entry; word width where the entry is gone (R28). -/
def shadowBytes (size : XferSize) (v : Nat) : List Byte :=
  match size with
  | .word => le16 v
  | .block n => exactly n (le16 v)

/-- The outcome and data of a shadow answer (R28). -/
def shadowAnswer (p : Policy) (r : PackRecord) (code : Byte) (f : SnoopField) :
    Answer × List Byte :=
  match r.fieldValue f with
  | some v => (.shadow, shadowBytes (((p.entryFor code).map CommandEntry.size).getD .word) v)
  | none => (.noData, [])

/-- The response to a host pack request. -/
def hostResponse (i : BayId) (r : HostRequest) (o : Answer) (data : List Byte) : Response :=
  { tag := r.tag, dest := passDest i, offset := r.offset, outcome := o, data := data }

/-- A request's pack command code: its offset's low byte (R4). -/
def HostRequest.code (r : HostRequest) : Byte := r.offset.setWidth 8

/-- A request answered without a transaction: a SHADOW read from the record, any other with `other`
(R7, R22). -/
def State.answerFromRecord (s : State) (i : BayId) (other : Answer) (r : HostRequest) : State :=
  if r.shadow && !r.write then
    let a := shadowAnswer s.policy (s.bay i).record r.code r.snoop
    s.respond (hostResponse i r a.1 a.2)
  else s.respond (hostResponse i r other [])

/-- Requests answered without a transaction, in queue order (R22). -/
def State.answerQueue (s : State) (i : BayId) (other : Answer) : List HostRequest → State
  | [] => s
  | r :: rs => (s.answerFromRecord i other r).answerQueue i other rs

/-! ### Settling a traffic unit (R22) -/

/-- The owner left to a transaction on the bus when maintenance work is discarded: its read runs to
completion with no work behind it (log 20). -/
def Owner.discarded : Owner → Owner
  | .host r b => .host r b
  | .alert => .orphan
  | .identification _ => .orphan
  | .reverify _ => .reverify .withdrawn
  | .poll => .orphan
  | .orphan => .orphan

/-- A traffic unit with its maintenance work discarded and its queue emptied. -/
def Traffic.settled (t : Traffic) : Traffic :=
  { t with waiting := [], alert := false, ident := none, reverify := none, round := none,
           pollTimer := none,
           bus := t.bus.map fun x => { x with owner := x.owner.discarded } }

/-- Reports of a bay's re-verifications, the one on the bus before the one pending: NO_ANSWER
(R22). -/
def State.reportLost (s : State) (i : BayId) (t : Traffic) : State :=
  let s1 := match t.bus with
    | some x => match x.owner with
        | .reverify d => s.report i d .noAnswer
        | .host _ _ | .alert | .identification _ | .poll | .orphan => s
    | none => s
  match t.reverify with
  | some d => s1.report i d .noAnswer
  | none => s1

/-- Entry to SILENT at the traffic unit: queued requests are answered SILENT or from the record, the
maintenance work is discarded (R22). A transaction on the bus runs on (log 20). -/
def State.settleSilent (s : State) (i : BayId) : State :=
  let t := (s.bay i).traffic
  ((s.onTraffic i Traffic.settled).reportLost i t).answerQueue i .silent t.waiting

/-- Entry to EMPTY at the traffic unit: the transaction on the bus ends BAY_ABSENT, queued requests
are answered, the work is discarded and the failure count returns to 0 (R2, R20, R22). -/
def State.settleEmpty (s : State) (i : BayId) : State :=
  let t := (s.bay i).traffic
  let s1 := (s.onTraffic i fun t =>
    { t.settled with bus := none, failures := 0, tripRaised := false }).reportLost i t
  let s2 := match t.bus with
    | some x => match x.owner with
        | .host r true => s1.respond (hostResponse i r .bayAbsent [])
        | .host _ false | .alert | .identification _ | .reverify _ | .poll | .orphan => s1
    | none => s1
  s2.answerQueue i .bayAbsent t.waiting

/-! ### Moving a bay -/

/-- The traffic unit's part of a change of bay state: the poll timer and round by R17; an
identification ends when its bay leaves IDENTIFYING (R11). -/
def Traffic.onMove (p : Policy) (m : PartMode) (old new : BayState) (t : Traffic) : Traffic :=
  let t1 := if new = .identifying then t else { t with ident := none }
  if !new.polls then { t1 with pollTimer := none, round := none }
  else if old.polls then t1
  else { t1 with pollTimer := (pollPeriod p m).map Timer.start }

/-- A bay as it enters a state: a settle timer belongs to SEATED, a release timer and RETURN_PENDING
to RELEASING, DECISION_DEFERRED to IDENTIFYING; the latch acts when the bay leaves RELEASING (R39,
R43, R48, R62). -/
def Bay.enter (p : Policy) (m : PartMode) (confirm : Bool) (new : BayState) (y : Bay) : Bay :=
  let z := { y with
    state := new,
    timer := if y.state = new then y.timer else none,
    returnPending := y.returnPending && new = .releasing,
    decisionDeferred := y.decisionDeferred && new = .identifying,
    traffic := y.traffic.onMove p m y.state new }
  if y.state = .releasing && new ≠ .releasing then z.afterReleasing confirm else z

/-- A change of a bay's state: STATE_CHANGED is set where the state differs, and the change is handed
to the supply controller (R58). -/
def State.moveBay (s : State) (i : BayId) (new : BayState) : State :=
  let old := (s.bay i).state
  let s1 := ((s.onBay i
    (Bay.enter s.policy s.ctl.mode (s.lines.lockConfirm.get i) new)).syncPins).owe .other
  if old = new then s1 else s1.raise (baySpace i) .stateChanged

/-- A bay's status indications changed (R39); they are handed to the supply controller (R78). -/
def State.onIndications (s : State) (i : BayId) (f : Bay → Bay) : State :=
  (s.onBay i f).owe .other

/-- The record at entry to IDENTIFYING: identity part and live values absent, DEPLETED and
CHARGE_STOP clear, IMPACT_SUSPECT and the outcome kept (R27). -/
def PackRecord.reidentify (r : PackRecord) : PackRecord :=
  { PackRecord.absent with suspect := r.suspect, outcome := r.outcome }

/-- An identification at its first step (R15). -/
def Identification.first : Identification :=
  { next := 0, cls := none, designMv := none, designMah := none }

/-- Entry to IDENTIFYING: the record is cleared by R27, identification becomes pending with its
first step, any release timer, RETURN_PENDING and DECISION_DEFERRED are gone (R44, R45). -/
def State.enterIdentifying (s : State) (i : BayId) : State :=
  (s.moveBay i .identifying).onBay i fun y =>
    { y with decisionDeferred := false, timer := none, record := y.record.reidentify,
             traffic := { y.traffic with ident := some .first } }

/-- The settle timer starts, paused while FREEZE is in force (R42, R55). -/
def State.startSettle (s : State) (i : BayId) : State :=
  s.onBay i fun y =>
    { y with timer := some ⟨.settle, Timer.start s.policy.settleTime, frozen s⟩ }

/-- The release timer starts with the release time in force, paused while FREEZE is in force (R47,
R55). -/
def State.startRelease (s : State) (i : BayId) : State :=
  s.onBay i fun y =>
    { y with timer := some ⟨.release, Timer.start (1000 * s.policy.releaseTime), frozen s⟩ }

/-- A contact arrival: the filtered state becomes present; an EMPTY bay moves to SEATED, starts its
settle timer and hands a pack-seated event (R40, R42). -/
def State.contactArrival (s : State) (i : BayId) : State :=
  let s1 := s.onBay i fun y => { y with contact := true, loss := none }
  if (s.bay i).state = .empty then
    ((s1.moveBay i .seated).startSettle i).wakeEvent .packSeated
  else s1

/-- A contact loss taken: the bay goes to EMPTY, UNANNOUNCED outside RELEASING; its timers,
indications and record are cleared and its traffic settled (R22, R27, R43). -/
def State.contactLoss (s : State) (i : BayId) : State :=
  let s1 := s.onBay i fun y =>
    { y with contact := false, loss := none, tripDeferred := false, record := .absent }
  if (s.bay i).state = .empty then s1
  else
    let s2 := if (s.bay i).state = .releasing then s1
      else s1.raise (baySpace i) .unannounced
    (s2.moveBay i .empty).settleEmpty i

/-! ### Admission (R33 to R35) -/

/-- The alarm word's flags (R195). -/
def alarmOverTemp (w : BitVec 4) : Bool := w &&& 1 != 0
/-- END_OF_DISCHARGE (R195). -/
def alarmEndOfDischarge (w : BitVec 4) : Bool := w &&& 2 != 0
/-- OVER_CHARGE (R195). -/
def alarmOverCharge (w : BitVec 4) : Bool := w &&& 4 != 0
/-- CELL_FAULT (R195). -/
def alarmCellFault (w : BitVec 4) : Bool := w &&& 8 != 0

/-- The alarm word of a record; an absent word counts as the empty set (R33). -/
def PackRecord.alarmWord (r : PackRecord) : BitVec 4 :=
  (r.alarms.map Timed.value).getD 0

/-- A value present and within a range, ends included. -/
def presentWithinNat (v : Option (Timed Nat)) (lo hi : Nat) : Bool :=
  match v with
  | some x => lo ≤ x.value && x.value ≤ hi
  | none => false

/-- A signed value present and within a range, ends included. -/
def presentWithinInt (v : Option (Timed Int)) (lo hi : Int) : Bool :=
  match v with
  | some x => lo ≤ x.value && x.value ≤ hi
  | none => false

/-- The admission check: the bay state it gives and its cause, tested in R33's order. `other`: the
other bay's identity part. -/
def admissionCheck (p : Policy) (other : Option Identity) (r : PackRecord) :
    BayState × AdmissionOutcome :=
  if alarmCellFault r.alarmWord then (.inhibited, .cellFault)
  else if alarmOverTemp r.alarmWord then (.inhibited, .overTemp)
  else
    match classLimits p r with
    | none => (.quarantined, .unknownClass)
    | some e =>
        if (other.map Identity.serial) = (r.identity.map Identity.serial) then
          (.quarantined, .duplicateSerial)
        else if !presentWithinNat r.voltage e.vMin.toNat e.vMax.toNat then
          (.quarantined, .voltageOut)
        else if !presentWithinInt r.temperature e.dMin.toInt e.dMax.toInt then
          (.quarantined, .tempOut)
        else (.online, .none)

/-- The bay manager takes the admission check: the bay follows its result, and the outcome takes the
cause (R35, R44). -/
def State.takeCheck (s : State) (i : BayId) : State :=
  let r := admissionCheck s.policy (s.bay (otherBay i)).record.identity (s.bay i).record
  (s.onRecord i fun x => { x with outcome := r.2 }).moveBay i r.1

/-- The re-admission test on the record as it stands (R36). -/
def readmissionPasses (p : Policy) (r : PackRecord) : Bool :=
  match classLimits p r with
  | some e => presentWithinInt r.temperature (e.dMin.toInt + Config.readmitBand)
      (e.dMax.toInt - Config.readmitBand)
  | none => false

/-- The re-admission test of a QUARANTINED bay with TEMP_OUT, and the check where it passes (R36,
R37). -/
def State.readmissionTest (s : State) (i : BayId) : State :=
  let y := s.bay i
  if y.state = .quarantined && y.record.outcome = .tempOut && readmissionPasses s.policy y.record
  then s.takeCheck i
  else s

/-- Identification's seventh read is complete: the check is taken at once with the guard CALM, and
deferred while it is active (R44, R54). -/
def State.identificationDone (s : State) (i : BayId) : State :=
  if guardActive s then s.onIndications i fun y => { y with decisionDeferred := true }
  else s.takeCheck i

/-- Identification found no entry: QUARANTINED with TABLE_INCOMPLETE at once (R44). -/
def State.tableIncomplete (s : State) (i : BayId) : State :=
  (s.onRecord i fun x => { x with outcome := .tableIncomplete }).moveBay i .quarantined

/-- The bay manager examines an alarm word written into the record: CELL_FAULT or OVER_TEMP moves an
ONLINE, QUARANTINED or RELEASING bay to INHIBITED (R35, R49). -/
def State.alarmWritten (s : State) (i : BayId) : State :=
  let y := s.bay i
  let w := y.record.alarmWord
  if (alarmCellFault w || alarmOverTemp w)
      && (y.state = .online || y.state = .quarantined || y.state = .releasing) then
    (s.onBay i fun y =>
      { y with tripDeferred := false,
               record := { y.record with
                 outcome := if alarmCellFault w then .cellFault else .overTemp } }).moveBay i
      .inhibited
  else s

/-! ### The bridge and the sole-supply condition, as the bay manager reads them -/

/-- The bridge is available: its voltage is present and at or above the ready threshold, and
EXHAUSTED is clear (R76). -/
def Supply.available (u : Supply) : Bool :=
  match u.bridgeVoltage with
  | some v => u.readyThreshold ≤ v.value && !u.exhausted
  | none => false

/-- The sole-supply condition of a bay: the condition of LAST_SUPPLY (R84). -/
def soleSupply (s : State) (i : BayId) : Bool :=
  (s.bay i).role != .off && (s.bay (otherBay i)).role == .off && s.supply.adapter.isNone
    && !s.supply.available && s.supply.state == .normal

/-! ### Lockout trips (R51 to R53) -/

/-- Taking a lockout trip: the bay moves to SILENT, its indications cleared, its record and outcome
kept (R52). -/
def State.takeTrip (s : State) (i : BayId) : State :=
  ((s.onBay i fun y => { y with tripDeferred := false }).moveBay i .silent).settleSilent i

/-- A lockout trip reaches the bay manager: deferred with SUPPLY_UNMONITORED on the sole supply, and
otherwise taken in the states where traffic runs (R51, R53). -/
def State.tripRaised (s : State) (i : BayId) : State :=
  let y := s.bay i
  if !y.state.traffic then s
  else if (y.state = .online || (y.state = .identifying && y.role = .kept)) && soleSupply s i then
    (s.onIndications i fun y => { y with tripDeferred := true }).raise (baySpace i)
      .supplyUnmonitored
  else s.takeTrip i

/-- The pack traffic unit raises a trip, unless one is already raised and not withdrawn: R21 says so at
a write of the limit. DESIGN CHOICE (log 38): R21 does not say whether a failure that reaches the limit
plus one raises a trip again, with SUPPLY_UNMONITORED, while an earlier one is still deferred after the
limit was raised; here it raises none. Unsafe. -/
def State.raiseTrip (s : State) (i : BayId) : State :=
  if (s.bay i).traffic.tripRaised then s
  else (s.onTraffic i fun t => { t with tripRaised := true }).tripRaised i

/-- A failure counted: the count rises to at most the limit plus one, and reaching it raises a trip
(R20, R21), but where an earlier one is still raised (log 38). -/
def State.countFailure (s : State) (i : BayId) : State :=
  let top := s.policy.lockoutLimit.get i + 1
  let n := (s.bay i).traffic.failures
  let s1 := s.onTraffic i fun t => { t with failures := if n < top then n + 1 else n }
  if n < top && n + 1 = top then s1.raiseTrip i else s1

/-- An acknowledgment counted: the count returns to 0 and a deferred trip is withdrawn (R20, R21,
R53). -/
def State.countAck (s : State) (i : BayId) : State :=
  let s1 := s.onTraffic i fun t => { t with failures := 0, tripRaised := false }
  if (s.bay i).tripDeferred then s1.onIndications i fun y => { y with tripDeferred := false }
  else s1

/-- A write of a lockout limit: a count at or above the new limit plus one becomes that, and a trip
is raised unless one is already raised (R21). -/
def State.lockoutLimitWritten (s : State) (i : BayId) : State :=
  let top := s.policy.lockoutLimit.get i + 1
  if top ≤ (s.bay i).traffic.failures then
    (s.onTraffic i fun t => { t with failures := top }).raiseTrip i
  else s

/-- A deferred trip whose condition has ended is taken, if the bay's bus is free (R53). -/
def State.endDeferral (s : State) (i : BayId) : State :=
  if (s.bay i).tripDeferred && !soleSupply s i && (s.bay i).traffic.bus.isNone then s.takeTrip i
  else s

end Sys2Proof.Machine
end

