-- ==== Sys2Proof/Machine/SupplyControl.lean ====
section
/-!
DEFINITION. The supply controller (chapter 4): the supply state, the discharge and charge roles,
LAST_SUPPLY, the power allowance, and the one re-evaluation of each event (R78).
-/

namespace Sys2Proof.Machine

/-! ### Supply existence (R68) -/

/-- An eligible bay: ONLINE and not DEPLETED. -/
def Bay.eligible (y : Bay) : Bool := y.state == .online && !y.record.depleted

/-- A bay that holds a kept path: its role is kept and it is still IDENTIFYING (R81). -/
def Bay.keepsPath (y : Bay) : Bool := y.role == .kept && y.state == .identifying

/-- Supply exists: the adapter is present, or a bay is eligible, or a bay holds a kept path (R68). -/
def supplyExists (s : State) : Bool :=
  s.supply.adapter.isSome || s.bays.a.eligible || s.bays.b.eligible || s.bays.a.keepsPath
    || s.bays.b.keepsPath

/-- PLATFORM_EN follows the supply state (R68). -/
def platformEn (s : State) : Bool :=
  match s.supply.state with
  | .normal | .bridge | .save => true
  | .standby | .starting => false

/-! ### The supply state (R69 to R74) -/

/-- The start-up hold's period, ms (R70, R87). -/
def HoldSetting.ms : HoldSetting → Nat
  | .ms16 => 16
  | .ms64 => 64
  | .ms256 => 256

/-- The start-up hold starts with its full period (R70). -/
def Supply.startHold (u : Supply) : Supply :=
  { u with hold := some (Timer.start u.holdSetting.ms) }

/-- Entry to STARTING (R70). -/
def Supply.enterStarting (u : Supply) : Supply :=
  Supply.startHold { u with state := .starting }

/-- Entry to NORMAL: no supply timer runs there. -/
def Supply.enterNormal (u : Supply) : Supply :=
  { u with state := .normal, hold := none, bridgeRun := none, save := none }

/-- Entry to BRIDGE: the bridge-run timer starts with the bridge limit in force (R71). -/
def Supply.enterBridge (u : Supply) : Supply :=
  { u with state := .bridge, bridgeRun := some (Timer.start (1000 * u.bridgeLimit)) }

/-- Entry to STANDBY: every supply timer stops, the cause is recorded, and the barrier is set for a
cause other than HOST_REQUEST unless PWR_REQ is low (R69, R74). -/
def Supply.enterStandby (pwrReq : Bool) (cause : StopCause) (u : Supply) : Supply :=
  { u with state := .standby, stopCause := cause, hold := none, bridgeRun := none, save := none,
           barrier := cause != .hostRequest && pwrReq }

/-- Entry to STANDBY in the state: PLATFORM_STOPPED is set for a cause other than HOST_REQUEST
(R74). -/
def State.enterStandby (s : State) (cause : StopCause) : State :=
  let s1 := s.onSupply (Supply.enterStandby s.lines.pwrReq cause)
  if cause = .hostRequest then s1 else s1.raise .supply .platformStopped

/-- Entry to SAVE: POWER_FAIL, EXHAUSTED, a power-fail event, and the save timer (R73). -/
def State.enterSave (s : State) : State :=
  ((s.onSupply fun u =>
      { u with state := .save, exhausted := true, bridgeRun := none,
               save := some (Timer.start (1000 * u.saveWindow)) }).raise .supply .powerFail).wakeEvent
    .powerFail

/-- A bridge sample below the cutoff (R75). -/
def SupplyEvent.belowCutoff : SupplyEvent → Bool
  | .bridgeSample mv => mv < Config.bridgeCutoff
  | .other | .pwrReqFall | .holdExpiry | .runExpiry | .saveExpiry => false

/-- Step 2 of the re-evaluation: the transition, if any, that R69 to R74 give for the event. -/
def State.supplyTransition (ev : SupplyEvent) (s : State) : State :=
  match s.supply.state with
  | .standby =>
      if s.lines.pwrReq && supplyExists s && !s.supply.barrier then s.onSupply Supply.enterStarting
      else s
  | .starting =>
      if ev = .pwrReqFall then s.enterStandby .hostRequest
      else if !supplyExists s then s.onSupply fun u => { u with hold := none }
      else if ev = .holdExpiry then s.onSupply Supply.enterNormal
      else if s.supply.hold.isNone then s.onSupply Supply.startHold
      else s
  | .normal =>
      if ev = .pwrReqFall then s.enterStandby .hostRequest
      else if supplyExists s then s
      else if s.supply.available then s.onSupply Supply.enterBridge
      else s.enterStandby .supplyLost
  | .bridge =>
      if ev = .pwrReqFall then s.enterStandby .hostRequest
      else if supplyExists s then s.onSupply Supply.enterNormal
      else if ev = .runExpiry || ev.belowCutoff then s.enterSave
      else s
  | .save =>
      if ev = .pwrReqFall then s.enterStandby .hostRequest
      else if ev.belowCutoff then s.enterStandby .bridgeEmpty
      else if ev = .saveExpiry then
        if supplyExists s then (s.onSupply Supply.enterNormal).raise .supply .restored
        else s.enterStandby .saveEnd
      else s

/-! ### Discharge selection (R79 to R81) -/

/-- A bay's voltage for selection and allowance: measured if present, otherwise design (R79, R85). -/
def Bay.selectionVoltage (y : Bay) : Nat :=
  match y.record.voltage with
  | some v => v.value
  | none => (y.record.identity.map Identity.designMv).getD 0

/-- V_hi: the highest selection voltage among the candidates (R79). -/
def highestVoltage (b : Both Bay) : Nat :=
  max (if b.a.eligible then b.a.selectionVoltage else 0)
    (if b.b.eligible then b.b.selectionVoltage else 0)

/-- A bay's role after selection in NORMAL with the adapter absent (R80, R81). -/
def Bay.selectRole (window vHi : Nat) (y : Bay) : Role :=
  if y.eligible then
    let w := if y.role = .off then window else window + Config.shareHysteresis
    if vHi ≤ y.selectionVoltage + w then .candidate else .off
  else if y.keepsPath then .kept
  else .off

/-- Step 3: discharge roles. Outside NORMAL, and with the adapter present, every role is off. -/
def State.selectDischarge (s : State) : State :=
  if s.supply.state = .normal && s.supply.adapter.isNone then
    let v := highestVoltage s.bays
    (s.onBay .a fun y => { y with role := y.selectRole s.supply.shareWindow v }).onBay .b
      fun y => { y with role := y.selectRole s.supply.shareWindow v }
  else (s.onBay .a fun y => { y with role := .off }).onBay .b fun y => { y with role := .off }

/-! ### Charge selection (R82, R83) -/

/-- Supply states that have charge candidates (R82). -/
def SupplyState.charges : SupplyState → Bool
  | .standby | .starting | .normal => true
  | .bridge | .save => false

/-- A charge candidate's charge percent; none for a bay that is not a candidate (R82). -/
def chargeCandidate (p : Policy) (u : Supply) (y : Bay) : Option Nat :=
  if u.adapter.isSome && u.state.charges && y.state == .online && !y.record.suspect
      && !y.record.chargeStop then
    match classLimits p y.record, y.record.chargePct with
    | some e, some c =>
        if c.value < 100 && presentWithinInt y.record.temperature e.cMin.toInt e.cMax.toInt then
          some c.value
        else none
    | _, _ => none
  else none

/-- The choice with no bay charging: the lowest charge percent, on equal percent bay A (R83). -/
def chargeAnew : Option Nat → Option Nat → Option BayId
  | some a, some b => if b < a then some .b else some .a
  | some _, none => some .a
  | none, some _ => some .b
  | none, none => none

/-- The charge role of two candidates' percents after the role before (R83). -/
def chargeChoice (a b : Option Nat) (before : Option BayId) : Option BayId :=
  match before, a, b with
  | some .a, some x, some y => if y + Config.chargeMargin ≤ x then some .b else some .a
  | some .a, some _, none => some .a
  | some .b, some x, some y => if x + Config.chargeMargin ≤ y then some .a else some .b
  | some .b, none, some _ => some .b
  | _, a, b => chargeAnew a b

/-- The bay that is charging. -/
def chargingBay (b : Both Bay) : Option BayId :=
  if b.a.charging then some .a else if b.b.charging then some .b else none

/-- Step 4: the charge role. -/
def State.selectCharge (s : State) : State :=
  let c := chargeChoice (chargeCandidate s.policy s.supply s.bays.a)
    (chargeCandidate s.policy s.supply s.bays.b) (chargingBay s.bays)
  (s.onBay .a fun y => { y with charging := c == some .a }).onBay .b
    fun y => { y with charging := c == some .b }

/-! ### LAST_SUPPLY (R84) -/

/-- Step 5: LAST_SUPPLY is held exactly where its condition holds; `base` is what happens to the
other reasons in the same event (nothing, but at a full reset). -/
def State.setLastSupply (base : LockReasons → LockReasons) (s : State) : State :=
  let a := soleSupply s .a
  let b := soleSupply s .b
  (s.setReasons .a fun r => { base r with lastSupply := a }).setReasons .b
    fun r => { base r with lastSupply := b }

/-! ### The power allowance (R85, R86) -/

/-- The rated power of a rating code, mW (R77). -/
def ratedPower (code : Fin 4) : Nat :=
  match code with
  | 0 => 45000
  | 1 => 45000
  | 2 => 65000
  | 3 => 90000

/-- What a discharging bay contributes, mW (R85): without class limits I_max counts as 0 (R32). -/
def Bay.contribution (p : Policy) (y : Bay) : Nat :=
  if y.role = .off then 0
  else y.selectionVoltage
    * ((classLimits p y.record).map fun e => e.iMax.toNat).getD 0 / 1000

/-- P_avail (R85). -/
def availablePower (s : State) : Nat :=
  match s.supply.state with
  | .normal =>
      match s.supply.adapter with
      | some c => ratedPower c
      | none => s.bays.a.contribution s.policy + s.bays.b.contribution s.policy
  | .bridge => s.supply.bridgePower
  | .standby | .starting | .save => 0

/-- The reserve R of a supply state (R86). -/
def Supply.reserve (u : Supply) : Nat :=
  if u.state = .bridge then u.bridgeReserve else u.normalReserve

/-- P_bl from P_avail, the reserve and the panel's settings (R86). -/
def powerAllowance (pAvail reserve lMax q : Nat) : Nat :=
  min (lMax * q / 64) (pAvail - reserve - Config.margin)

/-- Step 6: P_avail and P_bl; step 7: a P_bl that differs from the value last handed goes to the
backlight controller. -/
def State.allowPower (s : State) : State :=
  let pAvail := availablePower s
  let pbl := powerAllowance pAvail s.supply.reserve s.back.lMax s.back.q
  let s1 := s.onSupply fun u => { u with pAvail := pAvail, pbl := pbl }
  if pbl = s.back.pbl then s1 else s1.onBack (Backlight.handPbl (undriven s) pbl)

/-! ### The re-evaluation (R78) -/

/-- Steps 2 to 7 for an event whose own change has been applied. -/
def State.reevaluate (ev : SupplyEvent) (s : State) : State :=
  ((((s.supplyTransition ev).selectDischarge).selectCharge).setLastSupply id).allowPower

/-- The end of an event: the re-evaluation it owes; then the deferred trips whose condition ended
(R53), whose bay changes owe another. Two deferred trips at most make three re-evaluations
(log 9). -/
def State.closeEventIn : Nat → State → State
  | 0, s => s.settled
  | n + 1, s =>
      match s.due with
      | none => s
      | some ev =>
          ((((s.settled).reevaluate ev).endDeferral .a).endDeferral .b).closeEventIn n

/-- The end of every event that may have reached the supply controller. -/
def State.closeEvent (s : State) : State := s.closeEventIn 3

end Sys2Proof.Machine
end

