-- ==== Sys2Proof/Machine/TrafficUnit.lean ====
section
/-!
DEFINITION. The pack traffic unit (chapter 1): the arbiter and its grants, snooping with the marks,
the completion of a transaction, and host pack requests at arrival.
-/

namespace Sys2Proof.Machine

/-! ### The arbiter (R12) -/

/-- A queued request is held while its class is in the active hold class mask (R10). -/
def HostRequest.held (mask : BitVec 4) (r : HostRequest) : Bool := mask.getLsbD r.cls

/-- The oldest request that is not held, and the queue without it (R12). -/
def takeEligible (mask : BitVec 4) : List HostRequest → Option (HostRequest × List HostRequest)
  | [] => none
  | r :: rs =>
      if r.held mask then (takeEligible mask rs).map fun x => (x.1, r :: x.2) else some (r, rs)

/-- A count's size on the bus: 2 is a word, any other a block (R4). -/
def countSize (n : Nat) : XferSize := if n = 2 then .word else .block n

/-- A size in bytes (R1). -/
def XferSize.bytes : XferSize → Nat
  | .word => 2
  | .block n => n

/-- The transaction of a host request (R8), with the limit in force at the grant (R1). -/
def hostTransaction (p : Policy) (r : HostRequest) : Transaction :=
  { owner := .host r true, code := r.code, write := r.write, size := countSize r.count,
    data := r.data, snoop := r.snoop, limit := Timer.start p.transactionLimit }

/-- The transaction of one of the hub's own reads (R5, R18). -/
def ownTransaction (p : Policy) (o : Owner) (e : CommandEntry) (f : SnoopField) : Transaction :=
  { owner := o, code := e.code, write := false, size := e.size, data := [], snoop := f,
    limit := Timer.start p.transactionLimit }

/-- The field that a step of identification reads (R15). -/
def identField : Nat → SnoopField
  | 0 => .cls
  | 1 => .designMv
  | 2 => .designMah
  | 3 => .serial
  | 4 => .voltage
  | 5 => .temperature
  | _ => .alarms

/-- A transaction granted the bus. -/
def State.grant (s : State) (i : BayId) (x : Transaction) (f : Traffic → Traffic) : State :=
  s.onTraffic i fun t => { f t with bus := some x }

/-- Maintenance other than the alert read is pending (R11). -/
def Traffic.maintains (t : Traffic) : Bool := t.ident.isSome || t.reverify.isSome || t.round.isSome

/-- What one look of the arbiter at the preferred maintenance kind does: `true` with the state where
it granted, `false` where the kind ended without a read (R5, R11, R12). DESIGN CHOICE (log 37): R12 does
not say whether the mark becomes MAINTENANCE where the kind chosen finds no entry, or the round no
further one; it stays as it was, and moves with a grant of the bus only. Unsafe. -/
def State.serveMaintenance (s : State) (i : BayId) : State × Bool :=
  let t := (s.bay i).traffic
  match t.ident, t.reverify, t.round with
  | some d, _, _ =>
      match s.policy.ownEntry (identField d.next) with
      | some e =>
          (s.grant i (ownTransaction s.policy (.identification d.next) e (identField d.next))
            fun t => { t with lastServed := .maintenance }, true)
      | none => (s.tableIncomplete i, false)
  | none, some dest, _ =>
      match s.policy.ownEntry .serial with
      | some e =>
          (s.grant i (ownTransaction s.policy (.reverify dest) e .serial)
            fun t => { t with reverify := none, lastServed := .maintenance }, true)
      | none => ((s.onTraffic i fun t => { t with reverify := none }).report i dest .noAnswer, false)
  | none, none, some n =>
      match nextPoll n s.policy.commands with
      | some (k, e) =>
          (s.grant i (ownTransaction s.policy .poll e e.snoopField)
            fun t => { t with round := some (k + 1), lastServed := .maintenance }, true)
      | none => (s.onTraffic i fun t => { t with round := none }, false)
  | none, none, none => (s, true)

/-- The arbiter makes no grant on this bay: its bus is busy, its traffic does not run, or a deferred
trip waits whose condition has ended (R1, R11, R53). -/
def arbiterBlocked (s : State) (i : BayId) : Bool :=
  (s.bay i).traffic.bus.isSome || !(s.bay i).state.traffic
    || ((s.bay i).tripDeferred && !soleSupply s i)

/-- One look of the arbiter: the state, and whether the rule has been applied to its end (R12). -/
def State.arbitrateOnce (s : State) (i : BayId) : State × Bool :=
  let t := (s.bay i).traffic
  if arbiterBlocked s i then (s, true)
  else if t.alert then
    match s.policy.ownEntry .alarms with
    | some e =>
        (s.grant i (ownTransaction s.policy .alert e .alarms) fun t => { t with alert := false },
          true)
    | none => (s.onTraffic i fun t => { t with alert := false }, false)
  else
    match takeEligible s.holdMask t.waiting with
    | some (r, rest) =>
        if t.maintains && t.lastServed == .host then s.serveMaintenance i
        else
          (s.grant i (hostTransaction s.policy r)
            fun t => { t with waiting := rest, lastServed := .host }, true)
    | none => s.serveMaintenance i

/-- The arbiter's looks at one event: a kind that ended without a read makes it look again; the four
kinds bound how often (R12). -/
def State.arbitrateIn (i : BayId) : Nat → State → State
  | 0, s => s
  | n + 1, s =>
      let r := s.arbitrateOnce i
      if r.2 then r.1 else r.1.arbitrateIn i n

/-- The arbiter of bay `i` looks (R12). -/
def State.arbitrate (s : State) (i : BayId) : State := s.arbitrateIn i 8

/-- Both arbiters look, as when the hold mask is emptied (R10, R12). -/
def State.arbitrateBoth (s : State) : State := (s.arbitrate .a).arbitrate .b

/-! ### Re-verification requests (R16) -/

/-- The drop log unit requests a re-verification: one SERIAL read becomes pending, or NO_ANSWER at
once where maintenance does not run. -/
def State.requestReverify (s : State) (i : BayId) : State :=
  if (s.bay i).state.traffic then
    (s.onTraffic i fun t => { t with reverify := some .record }).arbitrate i
  else s.report i .record .noAnswer

/-- The owner of a transaction whose re-verification request takes another destination. -/
def Owner.redirect (dest : ReverifyDest) : Owner → Owner
  | .reverify .record => .reverify dest
  | .reverify .removed => .reverify .removed
  | .reverify .withdrawn => .reverify .withdrawn
  | .host r b => .host r b
  | .alert => .alert
  | .identification n => .identification n
  | .poll => .poll
  | .orphan => .orphan

/-- Withdrawn requests: pending ones are discarded without a read, one on the bus runs on
undelivered (R16). -/
def Traffic.withdrawReverify (t : Traffic) : Traffic :=
  { t with
    reverify := if t.reverify = some .record then none else t.reverify,
    bus := t.bus.map fun x => { x with owner := x.owner.redirect .withdrawn } }

/-- CLEAR_LOG removed the requesting record: the reads go on, their reports are discarded (R158). -/
def Traffic.recordRemoved (t : Traffic) : Traffic :=
  { t with
    reverify := t.reverify.map fun d => if d = .record then .removed else d,
    bus := t.bus.map fun x => { x with owner := x.owner.redirect .removed } }

/-! ### Snooping (R19, R29) -/

/-- The value of a read's data: its first two bytes, little-endian (R19). -/
def snoopValue (data : List Byte) : Nat := leNat (data.take 2)

/-- A class code brought within its range (R19). -/
def snoopClass (v : Nat) : Nat := clampNat 1 255 v

/-- The record with an identity field written, where the identity part is present (R25). -/
def PackRecord.onIdentity (r : PackRecord) (f : Identity → Identity) : PackRecord :=
  { r with identity := r.identity.map f }

/-- The alarm word written, with the marks it sets and clears (R29). -/
def PackRecord.writeAlarms (now : Nat) (w : BitVec 4) (r : PackRecord) : PackRecord :=
  { r with alarms := some ⟨w, now⟩,
           depleted := r.depleted || alarmEndOfDischarge w,
           chargeStop := alarmOverCharge w }

/-- Charge percent written; at 10 or more without END_OF_DISCHARGE it clears DEPLETED (R29). -/
def PackRecord.writePct (now v : Nat) (r : PackRecord) : PackRecord :=
  { r with chargePct := some ⟨v, now⟩,
           depleted := r.depleted && !(10 ≤ v && !alarmEndOfDischarge r.alarmWord) }

/-- A field written by a snoop, within its range and with its update time (R19). -/
def PackRecord.writeField (now v : Nat) (f : SnoopField) (r : PackRecord) : PackRecord :=
  match f with
  | .none => r
  | .voltage => { r with voltage := some ⟨min v 20000, now⟩ }
  | .current => { r with current := some ⟨signed16 v, now⟩ }
  | .temperature => { r with temperature := some ⟨clampInt (-400) 1250 (signed16 v), now⟩ }
  | .chargePct => r.writePct now (min v 100)
  | .remaining => { r with remaining := some ⟨v, now⟩ }
  | .full => { r with full := some ⟨v, now⟩ }
  | .alarms => r.writeAlarms now (BitVec.ofNat 4 v)
  | .cls => r.onIdentity fun i => { i with cls := snoopClass v }
  | .designMv => r.onIdentity fun i => { i with designMv := v }
  | .designMah => r.onIdentity fun i => { i with designMah := v }
  | .serial => r.onIdentity fun i => { i with serial := v }

/-- The writes that reach the supply controller whatever they change (R78). -/
def SnoopField.owes : SnoopField → Bool
  | .voltage | .temperature | .chargePct | .cls | .designMv | .designMah | .serial => true
  | .none | .current | .remaining | .full | .alarms => false

/-- A record's marks changed between two records (R78). -/
def marksDiffer (r r' : PackRecord) : Bool :=
  r.depleted != r'.depleted || r.chargeStop != r'.chargeStop || r.suspect != r'.suspect

/-- A record write handed to the supply controller where R78 says so. -/
def State.writeRecord (s : State) (i : BayId) (f : SnoopField) (v : Nat) : State :=
  let r := (s.bay i).record
  let r' := r.writeField s.uptime v f
  let s1 := s.onRecord i fun _ => r'
  if f.owes || marksDiffer r r' then s1.owe .other else s1

/-- A snoop outside the gathering of an identity: with the identity part present the field is
written, and an alarm word is examined by the bay manager (R19, R26, R49). -/
def State.snoop (s : State) (i : BayId) (f : SnoopField) (data : List Byte) : State :=
  if f = .none || (s.bay i).record.identity.isNone then s
  else
    let s1 := s.writeRecord i f (snoopValue data)
    if f = .alarms then s1.alarmWritten i else s1

/-! ### Identification (R15, R25) -/

/-- A gathered field of the identification in progress (R25). -/
def Identification.gather (n v : Nat) (d : Identification) : Identification :=
  match n with
  | 0 => { d with next := 1, cls := some (snoopClass v) }
  | 1 => { d with next := 2, designMv := some v }
  | 2 => { d with next := 3, designMah := some v }
  | n => { d with next := n + 1 }

/-- The identity part that the SERIAL read completes (R25). -/
def Identification.identity (v : Nat) (d : Identification) : Option Identity :=
  match d.cls, d.designMv, d.designMah with
  | some c, some mv, some mah => some { cls := c, designMv := mv, designMah := mah, serial := v }
  | _, _, _ => none

/-- An identification read completed ACK (R15, R25). -/
def State.identificationRead (s : State) (i : BayId) (n : Nat) (data : List Byte) : State :=
  match (s.bay i).traffic.ident with
  | none => s
  | some d =>
      let v := snoopValue data
      let s1 := s.onTraffic i fun t => { t with ident := some (d.gather n v) }
      if n < 3 then s1
      else if n = 3 then
        match d.identity v with
        | some id => (s1.onRecord i fun r => { r with identity := some id }).owe .other
        | none => s1
      else if n < 6 then s1.snoop i (identField n) data
      else
        ((s1.onTraffic i fun t => { t with ident := none }).snoop i .alarms data).identificationDone i

/-! ### Completion (R1, R8, R14 to R18) -/

/-- The end of a transaction by the pack or by its limit (R1). -/
inductive Ending where
  | ack (data : List Byte)
  | nack
  | timeout
  deriving DecidableEq, Repr

/-- The answer of a failed host request (R8). -/
def Ending.failure : Ending → Answer
  | .nack => .nack
  | .timeout => .timeout
  | .ack _ => .ok

/-- A host request's response, unless a control reset discarded it (R2, R8). -/
def State.respondHost (s : State) (i : BayId) (r : HostRequest) (deliver : Bool) (o : Answer)
    (data : List Byte) : State :=
  if deliver then s.respond (hostResponse i r o data) else s

/-- The round ends when the read of its last poll-flagged entry completes (R18). -/
def State.endRound (s : State) (i : BayId) : State :=
  match (s.bay i).traffic.round with
  | some n =>
      if (nextPoll n s.policy.commands).isNone then s.onTraffic i fun t => { t with round := none }
      else s
  | none => s

/-- A re-verification's value against the serial held before its snoop (R16). -/
def serialMatches (r : PackRecord) (v : Nat) : Bool :=
  (r.identity.map Identity.serial) == some v

/-- A re-verification read completed ACK (R16, R45). -/
def State.reverifyRead (s : State) (i : BayId) (dest : ReverifyDest) (data : List Byte) : State :=
  let same := serialMatches (s.bay i).record (snoopValue data)
  let s1 := (s.snoop i .serial data).report i dest (if same then .verified else .changed)
  if !same && dest ≠ .withdrawn && (s.bay i).state.traffic then s1.enterIdentifying i else s1

/-- A poll read completed ACK: its snoop, and the re-admission test where it wrote the temperature
with the guard CALM (R18, R36, R37). -/
def State.pollRead (s : State) (i : BayId) (f : SnoopField) (data : List Byte) : State :=
  let s1 := s.snoop i f data
  let s2 :=
    if f = .temperature && (s.bay i).record.identity.isSome && !guardActive s then
      s1.readmissionTest i
    else s1
  s2.endRound i

/-- An alert read completed ACK: the snoop, then the ALERT packet with the word as read, while
forwarding is on (R14; log 25). -/
def State.alertRead (s : State) (i : BayId) (data : List Byte) : State :=
  let s1 := s.snoop i .alarms data
  if s.link.alertForwarding then
    s1.handAlert { bay := i, word := BitVec.ofNat 16 (snoopValue data) }
  else s1

/-- An acknowledged transaction at its owner (R8, R14 to R18). -/
def State.acknowledged (s : State) (i : BayId) (x : Transaction) (data : List Byte) : State :=
  match x.owner with
  | .host r deliver =>
      let s1 := if x.write then s else s.snoop i x.snoop data
      s1.respondHost i r deliver .ok (if x.write then [] else data)
  | .alert => s.alertRead i data
  | .identification n => s.identificationRead i n data
  | .reverify dest => s.reverifyRead i dest data
  | .poll => s.pollRead i x.snoop data
  | .orphan => s.snoop i x.snoop data

/-- A failed transaction at its owner (R8, R14 to R18). -/
def State.failed (s : State) (i : BayId) (x : Transaction) (o : Answer) : State :=
  match x.owner with
  | .host r deliver => s.respondHost i r deliver o []
  | .reverify dest => s.report i dest .noAnswer
  | .poll => s.endRound i
  | .alert | .identification _ | .orphan => s

/-- The completion of the transaction on a bus: counted, given to its owner and snooped; a deferred
trip still raised is then taken where its condition has ended; the arbiter looks (R1, R12, R20,
R53). Nothing on the bus: the answer or the expiry finds nothing to end. -/
def State.complete (s : State) (i : BayId) (e : Ending) : State :=
  match (s.bay i).traffic.bus with
  | none => s
  | some x =>
      let s1 := s.onTraffic i fun t => { t with bus := none }
      let s2 :=
        match e with
        | .ack data =>
            (s1.countAck i).acknowledged i x (if x.write then [] else exactly x.size.bytes data)
        | .nack | .timeout => (s1.failed i x e.failure).countFailure i
      ((s2.endDeferral i).arbitrate i)

/-! ### Host pack requests at arrival (R4, R7) -/

/-- What the lookup of a code gives a request: the direction allowed, treatment, class, snoop field
(R4). -/
structure Lookup where
  allowed   : Bool
  treatment : Treatment
  cls       : Nat
  snoop     : SnoopField
  deriving DecidableEq, Repr

/-- The lookup of R4 for a direction. -/
def Policy.lookup (p : Policy) (code : Byte) (write : Bool) : Lookup :=
  match p.entryFor code with
  | some e =>
      { allowed := if write then e.writes else e.reads,
        treatment := (treatmentOf e.treatment.toNat).getD .pass, cls := e.cls.toNat,
        snoop := e.snoopField }
  | none => { allowed := true, treatment := p.defaultTreatment, cls := 3, snoop := .none }

/-- The host requests on a bus: one or none. -/
def hostsOnBus : Option Transaction → Nat
  | some x =>
      match x.owner with
      | .host _ _ => 1
      | .alert | .identification _ | .reverify _ | .poll | .orphan => 0
  | none => 0

/-- The host requests in a bay's queue, the one on the bus among them (R9). -/
def Traffic.queueLength (t : Traffic) : Nat := t.waiting.length + hostsOnBus t.bus

/-- The answer that a bay without traffic gives (R7). -/
def BayState.absentAnswer : BayState → Answer
  | .silent => .silent
  | .empty | .seated | .identifying | .online | .releasing | .quarantined | .inhibited => .bayAbsent

/-- The flags that an answer sets in its space (R185). -/
def State.answerFlags (s : State) (sp : Space) (o : Answer) : State :=
  match o with
  | .badOffset => (s.raise sp .badOffset).raise sp .errorSent
  | .badValue => (s.raise sp .badValue).raise sp .errorSent
  | .refused | .badTable => s.raise sp .errorSent
  | .badDest => (s.raise .hub .badDest).raise .hub .errorSent
  | .badKind => (s.raise .hub .badKind).raise .hub .errorSent
  | .ok | .shadow | .noData | .bayAbsent | .silent | .busy | .timeout | .nack => s

/-- A host pack request whose offset is a pack command code, past its lookup (R7). -/
def State.admitRequest (s : State) (i : BayId) (k : Lookup) (r : HostRequest) : State :=
  if k.treatment = .block || !k.allowed then
    (s.answerFlags (baySpace i) .refused).respond (hostResponse i r .refused [])
  else if !(s.bay i).state.traffic then s.answerFromRecord i (s.bay i).state.absentAnswer r
  else if Config.queueCapacity ≤ (s.bay i).traffic.queueLength then
    s.respond (hostResponse i r .busy [])
  else (s.onTraffic i fun t => { t with waiting := t.waiting ++ [r] }).arbitrate i

/-- A host READ or WRITE of a bay's pass space at its arrival (R4, R7). -/
def State.packRequest (s : State) (i : BayId) (tag : Byte) (offset : Half) (write : Bool)
    (count : Nat) (data : List Byte) : State :=
  let k := s.policy.lookup (offset.setWidth 8) write
  let r : HostRequest :=
    { tag := tag, offset := offset, write := write, count := count, data := data, cls := k.cls,
      shadow := k.treatment == .shadow, snoop := k.snoop }
  if 255 < offset.toNat then
    (s.answerFlags (baySpace i) .badOffset).respond (hostResponse i r .badOffset [])
  else s.admitRequest i k r

/-! ### Control reset (R23) -/

/-- A traffic unit at a control reset: waiting requests are discarded; a host request on the bus
runs on without a response; all else is kept. -/
def Traffic.controlReset (t : Traffic) : Traffic :=
  { t with
    waiting := [],
    bus := t.bus.map fun x => { x with
      owner := match x.owner with
        | .host r _ => .host r false
        | .alert => .alert
        | .identification n => .identification n
        | .reverify d => .reverify d
        | .poll => .poll
        | .orphan => .orphan } }

end Sys2Proof.Machine
end

