-- ==== Sys2Proof/Machine/DropUnit.lean ====
section
/-!
DEFINITION. The drop log unit (chapter 8): triggers and their actions, the drop record and its
arithmetic, the log, and the withdrawal and re-verification at the guard's return; with the bay
manager's part of that return (R57).
-/

namespace Sys2Proof.Machine

/-! ### The Drop Action Table (R145) -/

/-- A trigger's entry number, in R198's order. -/
def Trigger.index : Trigger → Nat
  | .freeFall => 0
  | .impactLight => 1
  | .impactHard => 2
  | .impactSevere => 3
  | .knockHard => 4
  | .knockSevere => 5

/-- A trigger's action set as the table stands. -/
def DropLog.entry (d : DropLog) (t : Trigger) : BitVec 6 := (d.table[t.index]?).getD 0

/-- The four lasting actions (R146). -/
def lastingActions : BitVec 6 := 0b001111

/-! ### Actions taken (R147 to R149) -/

/-- PARK taken: the line is asserted and the mark follows PARK_ACK as it is (R147). -/
def DropLog.park (ack : Bool) (d : DropLog) : DropLog := { d with parkLine := true, parkMark := ack }

/-- LOCK taken: the prior-lock marks, then GUARD in both sets (R148). -/
def State.takeLock (s : State) : State :=
  ((s.onDrop fun d => { d with priorLock :=
      ⟨s.bays.a.latch == .locked, s.bays.b.latch == .locked⟩ }).setReasons .a
    fun r => { r with guard := true }).setReasons .b fun r => { r with guard := true }

/-- A bay's settle or release timer paused or resumed (R55). -/
def Bay.pauseTimer (p : Bool) (y : Bay) : Bay :=
  { y with timer := y.timer.map fun t => { t with paused := p } }

/-- FREEZE taken: every running settle and release timer pauses (R55). -/
def State.takeFreeze (s : State) : State :=
  (s.onBay .a (Bay.pauseTimer true)).onBay .b (Bay.pauseTimer true)

/-- IMPACT_SUSPECT set on a bay with contact (R30, R149). -/
def Bay.markSuspect (y : Bay) : Bay :=
  if y.contact then { y with record := { y.record with suspect := true } } else y

/-- SUSPECT taken; a mark that changes reaches the supply controller (R78, R149). -/
def State.takeSuspect (s : State) : State :=
  let s1 := (s.onBay .a Bay.markSuspect).onBay .b Bay.markSuspect
  if s1.bays.a.record.suspect != s.bays.a.record.suspect
      || s1.bays.b.record.suspect != s.bays.b.record.suspect then s1.owe .other
  else s1

/-- Actions that join a record; REVERIFY joining a closed record opens it again (R156). -/
def DropRecord.join (acts : BitVec 6) (r : DropRecord) : DropRecord :=
  { r with actions := r.actions ||| acts,
           isOpen := r.isOpen || (hasAction acts .reverify && !hasAction r.actions .reverify) }

/-- The actions of a trigger's entry that it takes: PARK is left out in DORMANT (R146). -/
def triggerTakes (m : PartMode) (entry : BitVec 6) : BitVec 6 :=
  if m = .dormant then entry &&& ~~~DropAction.park.mask else entry

/-- A trigger taken by the drop log unit (R146, R156). -/
def State.takeTrigger (s : State) (t : Trigger) : State :=
  let entry := s.drop.entry t
  let takes := triggerTakes s.ctl.mode entry
  let fresh := takes &&& lastingActions &&& ~~~s.drop.inForce
  let joins := takes ||| (entry &&& s.drop.inForce)
  let s1 := s.onDrop fun d =>
    { d with inForce := d.inForce ||| fresh, episode := d.episode ||| joins,
             log := if d.episodeRecord then onNewest (DropRecord.join joins) d.log else d.log }
  let s2 := if hasAction fresh .park then (s1.onDrop (DropLog.park s.lines.parkAck)).syncPins else s1
  let s3 := if hasAction fresh .lock then s2.takeLock else s2
  let s4 := if hasAction fresh .freeze then s3.takeFreeze else s3
  let s5 := if hasAction fresh .hold then s4.withHoldMask s.drop.holdClasses else s4
  if hasAction takes .suspect then s5.takeSuspect else s5

/-! ### The record's figures (R154) -/

/-- The integer square root of a number below 2^(2·bits), bit by bit. -/
def isqrtFrom : Nat → Nat → Nat → Nat
  | 0, _, r => r
  | k + 1, m, r => isqrtFrom k m (if (r + 2 ^ k) * (r + 2 ^ k) ≤ m then r + 2 ^ k else r)

/-- isqrt of a magnitude: the largest integer whose square does not exceed it (R154). -/
def isqrt (m : Nat) : Nat := isqrtFrom 16 m 0

/-- Fall time, ms (R154). -/
def fallTimeMs (samples periodUs : Nat) : Nat := samples * periodUs / 1000

/-- Height, mm (R154). -/
def heightMm (samples periodUs : Nat) : Nat :=
  9807 * (samples * periodUs * (samples * periodUs)) / 2000000000000

/-- Peak, mg (R154). -/
def peakMg (m2 : Nat) : Nat := isqrt m2 * 1000 / 2048

/-- The peak axis: the greatest absolute component, X before Y before Z (R139). -/
def peakAxis (p : Accel3) : Axis :=
  if p.y.natAbs ≤ p.x.natAbs && p.z.natAbs ≤ p.x.natAbs then .x
  else if p.z.natAbs ≤ p.y.natAbs then .y
  else .z

/-! ### The record (R153, R155, R156) -/

/-- A record report of the motion unit (R139, R142). -/
structure DropReport where
  kind        : RecordKind
  fallSamples : Option Nat
  periodUs    : Nat
  peak        : Option Accel3
  severity    : Option Severity
  snapshot    : Snapshot
  deriving DecidableEq, Repr

/-- The flags of a record at its creation (R147, R148, R153). -/
def recordFlags (p : Snapshot) (stimulus dormant : Bool) : BitVec 6 :=
  BitVec.ofNat 6 (packBits
    [p.parkInForce && p.parkMark,
     p.lockInForce && p.latch.a == .locked && !p.priorLock.a,
     p.lockInForce && p.latch.b == .locked && !p.priorLock.b,
     false, stimulus, dormant])

/-- The MULTIPLE flag of a record (R199). -/
def multipleFlag : BitVec 6 := 0b001000

/-- The record that a report builds (R153 to R155). -/
def buildRecord (r : DropReport) (sequence uptime : Nat) (stimulus dormant : Bool)
    (actions : BitVec 6) : DropRecord :=
  { kind := r.kind, isOpen := hasAction actions .reverify, sequence := sequence,
    uptimeS := uptime / 1000,
    fallTime := if r.kind = .knock then none
      else r.fallSamples.map fun n => fallTimeMs n r.periodUs,
    height := if r.kind = .fallImpact then r.fallSamples.map fun n => heightMm n r.periodUs
      else none,
    peak := r.peak.map fun p => peakMg p.m2,
    axis := r.peak.map peakAxis,
    severity := r.severity,
    flags := recordFlags r.snapshot stimulus dormant,
    snapshot := r.snapshot.record,
    verify := ⟨none, none⟩, actions := actions }

/-- A record closed as INTERRUPTED (R156). -/
def DropRecord.interrupt (r : DropRecord) : DropRecord :=
  if r.isOpen then
    { r with isOpen := false,
             verify := ⟨some (r.verify.a.getD .interrupted), some (r.verify.b.getD .interrupted)⟩ }
  else r

/-- The log holds an OPEN record, which is its newest (R157). -/
def DropLog.holdsOpen (d : DropLog) : Bool :=
  match d.log.getLast? with
  | some r => r.isOpen
  | none => false

/-- The INTERRUPTED close of the newest record, if it is OPEN: absent outcomes are written and its
re-verifications withdrawn (R156). -/
def State.interruptedClose (s : State) : State :=
  if s.drop.holdsOpen then
    ((s.onDrop fun d => { d with log := onNewest DropRecord.interrupt d.log }).onTraffic .a
      Traffic.withdrawReverify).onTraffic .b Traffic.withdrawReverify
  else s

/-- A record joins the log at its newest end; the oldest of sixteen leaves (R155, R157). -/
def joinLog (r : DropRecord) (l : List DropRecord) : List DropRecord :=
  (if Config.logCapacity ≤ l.length then l.drop (l.length + 1 - Config.logCapacity) else l) ++ [r]

/-- HARD or SEVERE (R155). -/
def severeEnough : Option Severity → Bool
  | some .hard | some .severe => true
  | some .light | none => false

/-- A record report creates a record (R155). -/
def State.createRecord (s : State) (r : DropReport) : State :=
  let s1 := s.interruptedClose
  let n := min 65535 (s1.drop.drops + 1)
  let rec' := buildRecord r n s1.uptime s1.streams.stimulusOn (s1.ctl.mode == .dormant)
    s1.drop.episode
  let s2 := (s1.onDrop fun d =>
    { d with drops := n, log := joinLog rec' d.log, episodeRecord := true }).raise .motion
      .dropRecorded
  if severeEnough r.severity then s2.wakeEvent .drop else s2

/-- What a record update writes (R156). -/
def DropRecord.update (peak : Accel3) (sev : Severity) (multiple : Bool) (r : DropRecord) :
    DropRecord :=
  { r with peak := some (peakMg peak.m2), axis := some (peakAxis peak), severity := some sev,
           flags := if multiple then r.flags ||| multipleFlag else r.flags }

/-- The severity of the newest record. -/
def DropLog.newestSeverity (d : DropLog) : Option Severity := d.log.getLast?.bind DropRecord.severity

/-- A record update of the motion unit: discarded when CLEAR_LOG removed the episode's record;
a severity that rises to HARD or SEVERE sets DROP_RECORDED, and from LIGHT hands a drop event
(R156, R159). -/
def State.updateRecord (s : State) (peak : Accel3) (sev : Severity) (multiple : Bool) : State :=
  if s.drop.episodeRecord then
    let before := (s.drop.newestSeverity.map Severity.code).getD 0
    let s1 := s.onDrop fun d => { d with log := onNewest (DropRecord.update peak sev multiple) d.log }
    if before < sev.code then
      let s2 := s1.raise .motion .dropRecorded
      if before = 0 then s2.wakeEvent .drop else s2
    else s1
  else s

/-- A record-ended notice (R156). -/
def State.recordEnded (s : State) : State :=
  s.interruptedClose.onDrop fun d => { d with episode := 0, episodeRecord := false }

/-! ### CLEAR_LOG (R158) -/

/-- CLEAR_LOG: the log is emptied; re-verifications go on with their reports discarded. -/
def State.clearLog (s : State) : State :=
  ((s.onDrop fun d => { d with log := [], episodeRecord := false }).onTraffic .a
    Traffic.recordRemoved).onTraffic .b Traffic.recordRemoved

/-! ### The loss filters and the guard (R41) -/

/-- The guard leaves CALM: a running loss filter is lengthened (R41). -/
def State.guardLeavesCalm (s : State) : State :=
  (s.onBay .a fun y => { y with loss := y.loss.map fun f => { f with long := true } }).onBay .b
    fun y => { y with loss := y.loss.map fun f => { f with long := true } }

/-- A running loss filter that ends at the guard's return: 5 ms or more have passed (R41). -/
def Bay.lossEndsAtReturn (y : Bay) : Bool :=
  match y.loss with
  | some f => f.long && Config.lossShort ≤ f.elapsed
  | none => false

/-! ### The guard's return: the drop log unit's part (R150, R151) -/

/-- The GUARD reason removed from both sets, where LOCK is in force (R59, R150). -/
def State.withdrawLock (s : State) : State :=
  if hasAction s.drop.inForce .lock then
    (s.setReasons .a fun r => { r with guard := false }).setReasons .b
      fun r => { r with guard := false }
  else s

/-- The hold mask is emptied and the arbiters look, where HOLD is in force (R10, R150). -/
def State.withdrawHold (s : State) : State :=
  if hasAction s.drop.inForce .hold then (s.withHoldMask 0).arbitrateBoth else s

/-- PARK, FREEZE and HOLD withdrawn; the actions in force and the episode's set are empty. The
paused timers themselves resume in the bay manager's part (R57). -/
def State.withdrawRest (s : State) : State :=
  (s.withdrawHold.onDrop fun d => { d with parkLine := false, inForce := 0, episode := 0 }).syncPins

/-- The verification of one bay at the return (R151). -/
def State.verifyBay (s : State) (i : BayId) (atSnapshot : BayState) : State :=
  if atSnapshot = .online && (s.bay i).contact then s.requestReverify i
  else s.report i .record .notApplicable

/-- The re-verification of the episode's record, where it is still held and names REVERIFY
(R151). -/
def State.startReverify (s : State) : State :=
  let held := s.drop.episodeRecord
  let s1 := s.onDrop fun d => { d with episodeRecord := false }
  match s.drop.log.getLast? with
  | some r =>
      if held && hasAction r.actions .reverify then
        (s1.verifyBay .a r.snapshot.state.a).verifyBay .b r.snapshot.state.b
      else s1
  | none => s1

/-- The drop log unit's part of the return, but for the removal of GUARD. -/
def State.dropReturn (s : State) : State := s.withdrawRest.startReverify

/-! ### The guard's return: the bay manager's part (R57) -/

/-- Steps 1 and 2 of R57: a loss filter that R41 ends is taken as a loss, one younger than 5 ms is
shortened; paused timers resume. -/
def State.returnFilters (s : State) (i : BayId) : State :=
  let s1 :=
    if (s.bay i).lossEndsAtReturn then s.contactLoss i
    else s.onBay i fun y => { y with loss := y.loss.map fun f => { f with long := false } }
  s1.onBay i (Bay.pauseTimer false)

/-- Step 3: a deferred decision is taken. -/
def State.returnDecision (s : State) (i : BayId) : State :=
  if (s.bay i).decisionDeferred then s.takeCheck i else s

/-- Step 4: a pending return is made. -/
def State.returnOnline (s : State) (i : BayId) : State :=
  let y := s.bay i
  if y.state = .releasing && y.returnPending && y.contact then s.moveBay i .online else s

/-- Step 5: the re-admission test on a temperature already held (R37). -/
def State.returnReadmission (s : State) (i : BayId) : State :=
  if (s.bay i).record.temperature.isSome then s.readmissionTest i else s

/-- The bay manager's part for one bay. -/
def State.bayReturn (s : State) (i : BayId) : State :=
  (((s.returnFilters i).returnDecision i).returnOnline i).returnReadmission i

/-- The bay manager's part for both bays, A first (log 16). -/
def State.baysReturn (s : State) : State := (s.bayReturn .a).bayReturn .b

/-- The return to CALM at the two blocks. The removal of GUARD comes first (R57). Which part is
taken first is open where a contact loss is taken at the return (R151, log 14). -/
def State.returnAtBlocks (s : State) : State :=
  let s1 := s.withdrawLock
  if s.bays.a.lossEndsAtReturn || s.bays.b.lossEndsAtReturn then
    let s2 := s1.bumpChoice
    if Config.dropLogTakesFirst s.choice then s2.dropReturn.baysReturn else s2.baysReturn.dropReturn
  else s1.dropReturn.baysReturn

end Sys2Proof.Machine
end

