-- ==== Sys2Proof/Machine/MotionUnit.lean ====
section
/-!
DEFINITION. The motion unit and the drop guard (chapter 7): samples, rates, thresholds, and the
guard's handling of each accepted sample and of a loss of the sensor.
-/

namespace Sys2Proof.Machine

/-! ### Rates and thresholds (R128, R132) -/

/-- The sample period, µs (R128). -/
def Odr.periodUs : Odr → Nat
  | .hz400 => 2500
  | .hz100 => 10000

/-- The rate, Hz. -/
def Odr.hz : Odr → Nat
  | .hz400 => 400
  | .hz100 => 100

/-- A threshold in mg, as counts squared (R132). -/
def squaredCounts (mg : Nat) : Nat := (mg * 2048 / 1000) * (mg * 2048 / 1000)

/-- A time in ms, as samples, rounded up (R132). -/
def samplesFor (o : Odr) (ms : Nat) : Nat := (ms * o.hz + 999) / 1000

/-- The conversion of every threshold and time with the settings in force (R132). -/
def Motion.convert (m : Motion) : Converted :=
  let o := m.accel.odr
  { freeFall2 := squaredCounts m.freeFallMg, light2 := squaredCounts m.lightMg,
    hard2 := squaredCounts m.hardMg, severe2 := squaredCounts m.severeMg,
    freeFallN := samplesFor o m.freeFallTime, catchN := samplesFor o 30,
    windowN := samplesFor o 20, settleN := samplesFor o 500, maxFallN := samplesFor o 2000 }

/-- The converted values that the guard uses: the held ones, from entry until the return (R132). -/
def Motion.conv (m : Motion) : Converted := m.work.converted.getD m.convert

/-! ### The sensor (R129 to R131) -/

/-- The sensor started at a rate: 4 discards owed, the stale timer at the rate's limit (R130). -/
def Accelerometer.start (o : Odr) (c : Accelerometer) : Accelerometer :=
  { c with condition := .starting, discards := 4, odr := o, stale := Timer.start o.staleLimit }

/-- The rate that a mode calls for (R130). -/
def modeOdr : PartMode → Odr
  | .active => .hz400
  | .watch | .dormant => .hz100

/-- A change to a rate with the guard CALM (R130). -/
def Accelerometer.setRate (o : Odr) (c : Accelerometer) : Accelerometer :=
  if c.odr = o then c else c.start o

/-- A change of part mode at the motion unit: deferred while the guard is active (R130). -/
def Motion.modeChanged (m : PartMode) (u : Motion) : Motion :=
  if u.guard = .calm then { u with accel := u.accel.setRate (modeOdr m) }
  else { u with accel := { u.accel with pendingOdr := some (modeOdr m) } }

/-- A pending rate taken at the end of the guard's return (R130, R142). -/
def Motion.applyPending (u : Motion) : Motion :=
  match u.accel.pendingOdr with
  | some o => { u with accel := Accelerometer.setRate o { u.accel with pendingOdr := none } }
  | none => u

/-! ### Samples -/

/-- A sample with its magnitude (R129). -/
def accelOf (x y z : Int) : Accel3 :=
  { x := x, y := y, z := z,
    m2 := x.natAbs * x.natAbs + y.natAbs * y.natAbs + z.natAbs * z.natAbs }

/-- The free-fall run after an accepted sample: consecutive samples below the free-fall threshold,
at most the free-fall time in samples (R134; log 17). Where a lowered free-fall time or a change of
rate has brought that below the run already counted, the run, and the fall count that starts from it
(R135), take the new bound: the model's choice (log 17). -/
def nextRun (c : Converted) (m2 run : Nat) : Nat :=
  if m2 < c.freeFall2 then min c.freeFallN (run + 1) else 0

/-- The run has reached the free-fall time (R135, R140). -/
def fallBegins (c : Converted) (m2 run : Nat) : Bool := m2 < c.freeFall2 && c.freeFallN ≤ run + 1

/-- The snapshot as the blocks stand (R138). -/
def takeSnapshot (s : State) : Snapshot :=
  { record := { state := ⟨s.bays.a.state, s.bays.b.state⟩, role := ⟨s.bays.a.role, s.bays.b.role⟩,
                supply := s.supply.state },
    latch := ⟨s.bays.a.latch, s.bays.b.latch⟩,
    parkMark := s.drop.parkMark, priorLock := s.drop.priorLock,
    parkInForce := hasAction s.drop.inForce .park,
    lockInForce := hasAction s.drop.inForce .lock }

/-! ### The return to CALM (R142) -/

/-- The guard returns to CALM, after any report of the same event: the working record is cleared but
for the free-fall run, the two blocks take the return, a pending rate is applied. -/
def State.returnToCalm (s : State) : State :=
  ((s.onMotion fun m => { m with guard := .calm, work := .clear }).returnAtBlocks).onMotion
    Motion.applyPending

/-! ### Severity and triggers (R139) -/

/-- Severity from a peak (R139). -/
def classify (c : Converted) (m2 : Nat) : Severity :=
  if c.severe2 ≤ m2 then .severe else if c.hard2 ≤ m2 then .hard else .light

/-- The trigger of a severity for a record's kind (R139). -/
def severityTrigger : ImpactKind → Severity → Trigger
  | .fallImpact, .light => .impactLight
  | .fallImpact, .hard => .impactHard
  | .fallImpact, .severe => .impactSevere
  | .knock, .severe => .knockSevere
  | .knock, .light | .knock, .hard => .knockHard

/-- The record kind of an impact. -/
def ImpactKind.record : ImpactKind → RecordKind
  | .fallImpact => .fallImpact
  | .knock => .knock

/-! ### Entries -/

/-- The record peak from the first impact sample until the first window's end: present (R134), its
value free (log 36). -/
def openRecordPeak (a : Accel3) : Accel3 :=
  let p := Config.firstWindowRecordPeak a.x a.y a.z
  accelOf p.1.toInt p.2.1.toInt p.2.2.toInt

/-- Entry to FALLING: from CALM the values are converted, out of SETTLING they are kept (R135,
R140). -/
def Motion.enterFalling (c : Converted) (run : Nat) (m : Motion) : Motion :=
  { m with guard := .falling, freeFallRun := run,
           work := { Working.clear with converted := some c, fallCount := some run,
                                        catchRun := some 0 } }

/-- A knock in CALM (R135). -/
def Motion.enterKnock (c : Converted) (a : Accel3) (p : Snapshot) (m : Motion) : Motion :=
  { m with guard := .impact, freeFallRun := 0,
           work := { Working.clear with converted := some c, kind := some .knock,
                                        windowPeak := some a,
                                        recordPeak := some (openRecordPeak a),
                                        windowCount := some 1, snapshot := some p } }

/-- The impact that ends a fall (R136). -/
def Motion.enterImpact (a : Accel3) (p : Snapshot) (m : Motion) : Motion :=
  { m with guard := .impact, freeFallRun := 0,
           work := { m.work with kind := some .fallImpact, windowPeak := some a,
                                 recordPeak := some (openRecordPeak a), windowCount := some 1,
                                 snapshot := some p } }

/-- A second impact in SETTLING (R140). -/
def Motion.enterSecond (a : Accel3) (m : Motion) : Motion :=
  { m with guard := .impact, freeFallRun := 0,
           work := { m.work with windowPeak := some a, windowCount := some 1, settleCount := none,
                                 multiple := some true } }

/-- Entry to SETTLING at a window's end (R139, R140). -/
def Motion.enterSettling (m : Motion) : Motion :=
  { m with guard := .settling,
           work := { m.work with windowCount := none, settleCount := some 0 } }

/-! ### The window's end (R139, R140) -/

/-- After a window: SETTLING, or CALM after a loss of the sensor (R141). -/
def State.afterWindow (s : State) (lost : Bool) : State :=
  if lost then s.returnToCalm else s.onMotion Motion.enterSettling

/-- The end of the first window of a record (R139). -/
def State.firstWindowEnd (s : State) (lost : Bool) (kind : ImpactKind) (peak : Accel3) : State :=
  let w := s.motion.work
  let sev := classify s.motion.conv peak.m2
  let s1 := s.onMotion fun m =>
    { m with work := { m.work with recordPeak := some peak, severity := some sev,
                                   multiple := some false } }
  let s2 := s1.takeTrigger (severityTrigger kind sev)
  let s3 := s2.createRecord
    { kind := kind.record,
      fallSamples := if kind = .knock then none else w.fallCount,
      periodUs := s.motion.accel.odr.periodUs, peak := some peak, severity := some sev,
      snapshot := w.snapshot.getD (takeSnapshot s) }
  s3.afterWindow lost

/-- The end of a later window of a record whose severity so far is `was` (R140). -/
def State.laterWindowEnd (s : State) (lost : Bool) (kind : ImpactKind) (was : Severity)
    (old peak : Accel3) : State :=
  let best := if old.m2 < peak.m2 then peak else old
  let sev := if old.m2 < peak.m2 then classify s.motion.conv peak.m2 else was
  let multiple := s.motion.work.multiple.getD false
  let s1 := s.onMotion fun m =>
    { m with work := { m.work with recordPeak := some best, severity := some sev } }
  let s2 := if was.code < sev.code then s1.takeTrigger (severityTrigger kind sev) else s1
  (s2.updateRecord best sev multiple).afterWindow lost

/-- The end of an impact window: the first of its record while the severity is absent (R134, R139,
R140). -/
def State.windowEnd (s : State) (lost : Bool) : State :=
  let w := s.motion.work
  let kind := w.kind.getD .fallImpact
  match w.windowPeak, w.severity with
  | some peak, none => s.firstWindowEnd lost kind peak
  | some peak, some was => s.laterWindowEnd lost kind was (w.recordPeak.getD peak) peak
  | none, _ => s.afterWindow lost

/-! ### Ends of a fall without an impact (R137, R141) -/

/-- A record report of a fall without an impact, with the snapshot taken now. -/
def State.reportFall (s : State) (kind : RecordKind) (samples : Nat) : State :=
  s.createRecord
    { kind := kind, fallSamples := some samples, periodUs := s.motion.accel.odr.periodUs,
      peak := none, severity := none, snapshot := takeSnapshot s }

/-- A caught fall: logged from 100 ms upward (R137). -/
def State.caught (s : State) (samples : Nat) : State :=
  if 100 ≤ fallTimeMs samples s.motion.accel.odr.periodUs then
    (s.reportFall .caught samples).returnToCalm
  else s.returnToCalm

/-! ### The guard takes a sample (R135 to R140) -/

/-- In CALM (R135). -/
def State.calmSample (s : State) (a : Accel3) : State :=
  let c := s.motion.convert
  if c.hard2 ≤ a.m2 then
    (s.onMotion (Motion.enterKnock c a (takeSnapshot s))).guardLeavesCalm
  else
    let run := nextRun c a.m2 s.motion.freeFallRun
    if fallBegins c a.m2 s.motion.freeFallRun then
      ((s.onMotion (Motion.enterFalling c run)).guardLeavesCalm).takeTrigger .freeFall
    else s.onMotion fun m => { m with freeFallRun := run }

/-- In FALLING (R136, R137). -/
def State.fallingSample (s : State) (a : Accel3) : State :=
  let c := s.motion.conv
  if c.light2 ≤ a.m2 then s.onMotion (Motion.enterImpact a (takeSnapshot s))
  else
    let count := s.motion.work.fallCount.getD 0 + 1
    let catches := if c.freeFall2 ≤ a.m2 then s.motion.work.catchRun.getD 0 + 1 else 0
    let s1 := s.onMotion fun m =>
      { m with freeFallRun := nextRun c a.m2 m.freeFallRun,
               work := { m.work with fallCount := some count, catchRun := some catches } }
    if c.catchN ≤ catches then s1.caught (count - catches)
    else if c.maxFallN ≤ count then (s1.reportFall .longFall count).returnToCalm
    else s1

/-- The greater peak; an equal one leaves the earlier sample (R139). -/
def greaterPeak (old : Option Accel3) (a : Accel3) : Accel3 :=
  match old with
  | some p => if p.m2 < a.m2 then a else p
  | none => a

/-- In IMPACT (R139). -/
def State.impactSample (s : State) (a : Accel3) : State :=
  let c := s.motion.conv
  let count := s.motion.work.windowCount.getD 0 + 1
  let s1 := s.onMotion fun m =>
    { m with freeFallRun := nextRun c a.m2 m.freeFallRun,
             work := { m.work with windowCount := some count,
                                   windowPeak := some (greaterPeak m.work.windowPeak a) } }
  if c.windowN ≤ count then s1.windowEnd false else s1

/-- In SETTLING (R140). -/
def State.settlingSample (s : State) (a : Accel3) : State :=
  let c := s.motion.conv
  if c.light2 ≤ a.m2 then s.onMotion (Motion.enterSecond a)
  else
    let run := nextRun c a.m2 s.motion.freeFallRun
    if fallBegins c a.m2 s.motion.freeFallRun then
      ((s.recordEnded).onMotion (Motion.enterFalling c run)).takeTrigger .freeFall
    else
      let count := s.motion.work.settleCount.getD 0 + 1
      let s1 := s.onMotion fun m =>
        { m with freeFallRun := run, work := { m.work with settleCount := some count } }
      if c.settleN ≤ count then s1.returnToCalm else s1

/-- The guard takes an accepted sample. -/
def State.guardSample (s : State) (a : Accel3) : State :=
  match s.motion.guard with
  | .calm => s.calmSample a
  | .falling => s.fallingSample a
  | .impact => s.impactSample a
  | .settling => s.settlingSample a

/-! ### Arrivals (R129, R143) -/

/-- An accepted sample (R129). -/
def State.acceptAccel (s : State) (x y z : Int) (injected : Bool) : State :=
  let a := accelOf x y z
  let s1 := s.onMotion fun m => { m with accel := { m.accel with latest := some ⟨a, s.uptime⟩ } }
  let s2 := s1.guardSample a
  s2.offerAccel x y z (guardActive s2) injected

/-- The stale timer restarted at an arrival (R131). -/
def Accelerometer.restartStale (c : Accelerometer) : Accelerometer :=
  { c with stale := Timer.start c.odr.staleLimit }

/-- A discarded sample of a STARTING sensor (R129). -/
def Accelerometer.discard (c : Accelerometer) : Accelerometer :=
  let n := c.discards - 1
  { c with discards := n, condition := if n = 0 then .running else .starting }

/-- A sensor sample arrives (R129, R143). -/
def State.accelArrival (s : State) (x y z : Int) : State :=
  if s.streams.replaces .accel then s
  else
    let s1 := s.onMotion fun m => { m with accel := m.accel.restartStale }
    match s.motion.accel.condition with
    | .starting => s1.onMotion fun m => { m with accel := m.accel.discard }
    | .stale => s1.onMotion fun m =>
        { m with accel := { m.accel with condition := .starting, discards := 3 } }
    | .running => s1.acceptAccel x y z false

/-- An injected accelerometer sample (R143). -/
def State.accelInjected (s : State) (x y z : Int) : State :=
  (s.onMotion fun m => { m with accel :=
    { m.accel.restartStale with condition := .running, discards := 0 } }).acceptAccel x y z true

/-! ### Loss of the sensor (R131, R141) -/

/-- The guard takes a loss of the sensor (R141). -/
def State.guardLoss (s : State) : State :=
  match s.motion.guard with
  | .calm => s.onMotion fun m => { m with freeFallRun := 0 }
  | .falling => (s.reportFall .sensorLost (s.motion.work.fallCount.getD 0)).returnToCalm
  | .impact => s.windowEnd true
  | .settling => s.returnToCalm

/-- The stale timer expires (R131). -/
def State.accelStale (s : State) : State :=
  (((s.onMotion fun m => { m with accel :=
      { m.accel.start m.accel.odr with condition := .stale } }).raise .motion
    .motionStale).guardLoss)

/-- The end of a replacement of the accelerometer (R143). -/
def State.accelReplacementEnds (s : State) : State :=
  s.onMotion fun m => { m with accel := m.accel.start m.accel.odr }

end Sys2Proof.Machine
end

