-- ==== Sys2Proof/Machine/ModeControl.lean ====
section
/-!
DEFINITION. The mode controller (chapter 10): a change of part mode handed to every block that
depends on it, wake by traffic, and WAKE.
-/

namespace Sys2Proof.Machine

/-- A bay's poll timer and round at a change of mode (R17). -/
def Bay.modeChanged (p : Policy) (old new : PartMode) (y : Bay) : Bay :=
  let t := y.traffic
  let t' : Traffic :=
    match new with
    | .dormant => { t with pollTimer := none, round := none }
    | .active | .watch =>
        if old ≠ new && y.state.polls then
          { t with pollTimer := (pollPeriod p new).map Timer.start }
        else t
  { y with traffic := t' }

/-- The light unit at a change of mode (R95). -/
def State.lightMode (s : State) : State :=
  let active := s.ctl.mode == .active
  s.onLight fun u =>
    { u with front := u.front.evaluate active (s.streams.replaces .front),
             rear := u.rear.evaluate active (s.streams.replaces .rear) }

/-- The backlight controller at a change of mode (R110, R121). -/
def State.backMode (s : State) (old new : PartMode) : State :=
  if new = .active then s.onBack Backlight.enterActive
  else if old = .active then s.onBack (Backlight.leaveActive (undriven s))
  else s

/-- WAKE is deasserted on entry to ACTIVE; the cause set is kept (R175). -/
def ModeCtl.enter (m : PartMode) (c : ModeCtl) : ModeCtl :=
  { c with mode := m, wake := if m = .active then false else c.wake }

/-- A change of part mode, handed in the event to every block that depends on it (R170, R171). -/
def State.setMode (s : State) (m : PartMode) : State :=
  let old := s.ctl.mode
  if old = m then s
  else
    let s1 := s.onCtl (ModeCtl.enter m)
    let s2 := (s1.onBay .a (Bay.modeChanged s.policy old m)).onBay .b (Bay.modeChanged s.policy old m)
    let s3 := (s2.lightMode.backMode old m).onMotion (Motion.modeChanged m)
    if m = .dormant then s3.streamsDormant else s3

/-- An accepted request in DORMANT wakes the part (R172). -/
def State.wakeByTraffic (s : State) : State :=
  if s.ctl.mode = .dormant then (s.setMode .active).raise .hub .trafficWake else s

/-- WAKE_ACK (R175). -/
def ModeCtl.acknowledge (c : ModeCtl) : ModeCtl := { c with wake := false, causes := 0 }

end Sys2Proof.Machine
end

