-- ==== Sys2Proof/Machine/Settings.lean ====
section
/-!
DEFINITION. The writable locations of the control spaces (R198): what each reads as, which written
values are refused (R184 step 5, R196), and what a write stores, clamped (R184 step 4), with what it
does at once at its owner.
-/

namespace Sys2Proof.Machine

/-- The RW and ST locations of the seven spaces (R198). -/
inductive Setting where
  -- HUB
  | clearMode | alertForwarding | attention | wakeEnables
  -- PACK_POLICY
  | defaultTreatment | lockoutLimit (i : BayId) | transactionLimit | pollPeriod | settleTime
  | releaseTime | command (n : Nat) | admission (n : Nat)
  -- SUPPLY
  | hold | readyThreshold | bridgeLimit | saveWindow | bridgePower | normalReserve | bridgeReserve
  | shareWindow
  -- LIGHT
  | enable (i : SensorId) | trim (i : SensorId) | staleLimit | weight | tickPeriod | riseShift
  | fallShift | bias | lMin | lMax | q | rUp | rDn | stagedCount | stagedLux (n : Nat)
  | stagedNits (n : Nat)
  -- MOTION
  | freeFallMg | freeFallTime | lightMg | hardMg | severeMg | holdClasses | action (n : Nat)
  | stream (st : StreamId) | stimulus | logIndex
  deriving DecidableEq, Repr

/-! ### Table entries (R3, R31, R199) -/

/-- A Bay Command Table entry's bytes. -/
def CommandEntry.bytes (e : CommandEntry) : List Byte :=
  [e.use, e.code, e.access, e.treatment, e.cls, e.snoop, e.bits, e.length]

/-- A Bay Command Table entry from its bytes. -/
def commandOf (bs : List Byte) : CommandEntry :=
  match bs with
  | [u, c, a, t, k, f, b, l] => ⟨u, c, a, t, k, f, b, l⟩
  | _ => CommandEntry.unused

/-- A number brought within a range, as a byte. -/
def clampByte (lo hi : Nat) (b : Byte) : Byte := BitVec.ofNat 8 (clampNat lo hi b.toNat)

/-- The clamping of R3: an entry written unused keeps its bytes. -/
def CommandEntry.clamp (e : CommandEntry) : CommandEntry :=
  if e.used then { e with cls := clampByte 0 3 e.cls, length := clampByte 1 32 e.length } else e

/-- The refusals of R3 that look at one entry: an unknown use; in a used entry an unknown access,
treatment, snoop field or flag bit, or a poll flag without a snoop field to read (log 19). -/
def CommandEntry.sound (e : CommandEntry) : Bool :=
  e.use == 0 ||
    (e.use == 1 && 1 ≤ e.access.toNat && e.access.toNat ≤ 3 && e.treatment.toNat ≤ 2
      && e.snoop.toNat ≤ 11 && e.bits.toNat ≤ 3
      && !(e.polled && (e.snoop == 0 || e.access == 2)))

/-- No two used entries hold one code (R3). -/
def codesUnique : List CommandEntry → Bool
  | [] => true
  | e :: es => !(e.used && es.any fun f => f.used && f.code == e.code) && codesUnique es

/-- An Admission Table entry's bytes. -/
def AdmissionEntry.bytes (e : AdmissionEntry) : List Byte :=
  [e.use, e.cls] ++ le16 e.vMin.toNat ++ le16 e.vMax.toNat ++ le16 e.iMax.toNat
    ++ le16 e.dMin.toNat ++ le16 e.dMax.toNat ++ le16 e.cMin.toNat ++ le16 e.cMax.toNat

/-- An Admission Table entry from its bytes. -/
def admissionOf (bs : List Byte) : AdmissionEntry :=
  match bs with
  | u :: c :: rest =>
      { use := u, cls := c, vMin := leHalf (rest.take 2), vMax := leHalf ((rest.drop 2).take 2),
        iMax := leHalf ((rest.drop 4).take 2), dMin := leHalf ((rest.drop 6).take 2),
        dMax := leHalf ((rest.drop 8).take 2), cMin := leHalf ((rest.drop 10).take 2),
        cMax := leHalf ((rest.drop 12).take 2) }
  | _ => ⟨0, 0, 0, 0, 0, 0, 0, 0, 0⟩

/-- A 16-bit field brought within a range. -/
def clampHalf (lo hi : Nat) (h : Half) : Half := BitVec.ofNat 16 (clampNat lo hi h.toNat)

/-- A temperature limit brought within −400 to 1,250 (R31). -/
def clampTemp (h : Half) : Half := BitVec.ofInt 16 (clampInt (-400) 1250 h.toInt)

/-- The clamping of R31: an entry written unused keeps its bytes. -/
def AdmissionEntry.clamp (e : AdmissionEntry) : AdmissionEntry :=
  if e.used then
    { e with vMin := clampHalf 0 20000 e.vMin, vMax := clampHalf 0 20000 e.vMax,
             iMax := clampHalf 0 32767 e.iMax, dMin := clampTemp e.dMin, dMax := clampTemp e.dMax,
             cMin := clampTemp e.cMin, cMax := clampTemp e.cMax }
  else e

/-- The refusals of R31 that look at one clamped entry. -/
def AdmissionEntry.sound (e : AdmissionEntry) : Bool :=
  e.use == 0 ||
    (e.use == 1 && e.cls != 0 && e.vMin.toNat ≤ e.vMax.toNat && e.dMin.toInt ≤ e.dMax.toInt
      && e.cMin.toInt ≤ e.cMax.toInt)

/-- No two used entries hold one class (R31). -/
def classesUnique : List AdmissionEntry → Bool
  | [] => true
  | e :: es => !(e.used && es.any fun f => f.used && f.cls == e.cls) && classesUnique es

/-! ### Refused values (R196) -/

/-- The byte of a one-byte value at a position. -/
def byteAt (bs : List Byte) (n : Nat) : Nat := ((bs[n]?).map BitVec.toNat).getD 0

/-- A written value that names no unknown code and no unknown member of a set (R196), and an entry
that its own rule does not refuse. -/
def Setting.accepts (bs : List Byte) : Setting → Bool
  | .clearMode | .alertForwarding | .enable _ => leNat bs ≤ 1
  | .attention => leNat bs < 128
  | .wakeEnables => leNat bs < 32
  | .defaultTreatment => leNat bs == 0 || leNat bs == 2
  | .hold => (holdOf (leNat bs)).isSome
  | .holdClasses => leNat bs < 16
  | .action _ => leNat bs < 64
  | .stream _ => byteAt bs 0 ≤ 1
  | .stimulus => byteAt bs 0 ≤ 1 && byteAt bs 1 < 8 && byteAt bs 2 ≤ 1
  | .command _ => (commandOf bs).sound
  | .admission _ => (admissionOf bs).clamp.sound
  | .lockoutLimit _ | .transactionLimit | .pollPeriod | .settleTime | .releaseTime
  | .readyThreshold | .bridgeLimit | .saveWindow | .bridgePower | .normalReserve | .bridgeReserve
  | .shareWindow | .trim _ | .staleLimit | .weight | .tickPeriod | .riseShift | .fallShift | .bias
  | .lMin | .lMax | .q | .rUp | .rDn | .stagedCount | .stagedLux _ | .stagedNits _ | .freeFallMg
  | .freeFallTime | .lightMg | .hardMg | .severeMg | .logIndex => true

/-- The structural checks that look at several fields as they stand after the whole WRITE (R3, R31,
R133, R184), where a field of theirs is written. -/
def structureOk (xs : List Setting) (p : Policy) (m : Motion) : Bool :=
  (!(xs.any fun x => match x with | .command _ => true | _ => false) || codesUnique p.commands)
  && (!(xs.any fun x => match x with | .admission _ => true | _ => false)
      || classesUnique p.admission)
  && (!(xs.contains .lightMg || xs.contains .hardMg || xs.contains .severeMg)
      || (m.lightMg < m.hardMg && m.hardMg < m.severeMg))

/-! ### Stimulus (R165, R168) -/

/-- A light source's replacement begins or ends. -/
def Sensor.replacement (before after : Bool) (r : Sensor) : Sensor :=
  if !before && after then r.replacementBegins
  else if before && !after then r.replacementEnds
  else r

/-- The stream unit's stimulus takes new values: replacements begin and end source by source, and
outputs that are driven again take their computed levels (R165, R168). -/
def State.setStimulus (s : State) (u : Streams) : State :=
  let s1 := (s.onStreams fun _ => u).onLight fun l =>
    { l with
      front := l.front.replacement (s.streams.replaces .front) (u.replaces .front),
      rear := l.rear.replacement (s.streams.replaces .rear) (u.replaces .rear) }
  let s2 := if s.streams.replaces .accel && !u.replaces .accel then s1.accelReplacementEnds else s1
  (s2.syncPins).onBack (Backlight.send (undriven s2))

/-- A write of the stimulus control (R165). -/
def State.writeStimulus (s : State) (on : Bool) (sources : BitVec 3) (drives : Bool) : State :=
  s.setStimulus { s.streams with stimulusOn := on, sources := sources, drives := drives }

/-! ### What a write does -/

/-- An enable setting written: evaluated at the write (R95). -/
def State.writeEnable (s : State) (i : SensorId) (on : Bool) : State :=
  s.onLight (Light.onSensor i fun r =>
    Sensor.evaluate (s.ctl.mode == .active) (s.streams.replaces (sensorSource i))
      { r with enable := on })

/-- Alert forwarding written: off discards the pending ALERT packets (R190). -/
def Link.setForwarding (on : Bool) (l : Link) : Link :=
  if on then { l with alertForwarding := true } else { l with alertForwarding := false, alerts := [] }

/-- A SUPPLY setting written: clamped, an event of the re-evaluation (R87). -/
def State.writeSupply (s : State) (f : Supply → Supply) : State := (s.onSupply f).owe .other

/-- A setting takes a written value, clamped to its range, with what the write does at once at its
owner. L_max and Q are only stored here: `State.panelWritten` follows the whole WRITE. -/
def Setting.put (bs : List Byte) (s : State) : Setting → State
  | .clearMode =>
      s.onLink fun l => { l with clearMode := if leNat bs = 0 then .clearOnRead else .writeOneClear }
  | .alertForwarding => s.onLink (Link.setForwarding (leNat bs != 0))
  | .attention => s.onLink fun l => { l with attention := BitVec.ofNat 7 (leNat bs) }
  | .wakeEnables => s.onCtl fun c => { c with enables := BitVec.ofNat 5 (leNat bs) }
  | .defaultTreatment =>
      s.onPolicy fun p => { p with defaultTreatment := if leNat bs = 0 then .pass else .block }
  | .lockoutLimit i =>
      (s.onPolicy fun p =>
        { p with lockoutLimit := p.lockoutLimit.set i (min 15 (leNat bs)) }).lockoutLimitWritten i
  | .transactionLimit =>
      s.onPolicy fun p => { p with transactionLimit := clampNat 10 100 (leNat bs) }
  | .pollPeriod => s.onPolicy fun p => { p with pollPeriod := clampNat 250 5000 (leNat bs) }
  | .settleTime => s.onPolicy fun p => { p with settleTime := clampNat 50 1000 (leNat bs) }
  | .releaseTime => s.onPolicy fun p => { p with releaseTime := clampNat 2 60 (leNat bs) }
  | .command n =>
      s.onPolicy fun p => { p with commands := p.commands.set n (commandOf bs).clamp }
  | .admission n =>
      (s.onPolicy fun p => { p with admission := p.admission.set n (admissionOf bs).clamp }).owe .other
  | .hold => s.writeSupply fun u => { u with holdSetting := (holdOf (leNat bs)).getD u.holdSetting }
  | .readyThreshold => s.writeSupply fun u => { u with readyThreshold := clampNat 3400 4100 (leNat bs) }
  | .bridgeLimit => s.writeSupply fun u => { u with bridgeLimit := clampNat 10 120 (leNat bs) }
  | .saveWindow => s.writeSupply fun u => { u with saveWindow := clampNat 1 30 (leNat bs) }
  | .bridgePower => s.writeSupply fun u => { u with bridgePower := clampNat 5000 40000 (leNat bs) }
  | .normalReserve => s.writeSupply fun u => { u with normalReserve := min 200000 (leNat bs) }
  | .bridgeReserve => s.writeSupply fun u => { u with bridgeReserve := min 200000 (leNat bs) }
  | .shareWindow => s.writeSupply fun u => { u with shareWindow := clampNat 50 1000 (leNat bs) }
  | .enable i => s.writeEnable i (leNat bs != 0)
  | .trim i => s.onLight (Light.onSensor i fun r =>
      { r with trim := clampNat 1 8191 (leNat bs), trimSource := .host })
  | .staleLimit => s.onLight (Light.setStaleLimit (clampNat 200 5000 (leNat bs)))
  | .weight => s.onLight fun u => { u with weight := min 256 (leNat bs) }
  | .tickPeriod => s.onBack fun k => { k with tickPeriod := clampNat 20 200 (leNat bs) }
  | .riseShift => s.onBack fun k => { k with riseShift := min 7 (leNat bs) }
  | .fallShift => s.onBack fun k => { k with fallShift := min 7 (leNat bs) }
  | .bias => s.onBack fun k => { k with bias := clampInt (-50) 50 (signed8 (leNat bs)) }
  | .lMin => s.onBack fun k => { k with lMin := min 100 (leNat bs) }
  | .lMax => s.onBack fun k => { k with lMax := clampNat 100 2000 (leNat bs) }
  | .q => s.onBack fun k => { k with q := clampNat 1 4095 (leNat bs) }
  | .rUp => s.onBack fun k => { k with rUp := clampNat 1 2000 (leNat bs) }
  | .rDn => s.onBack fun k => { k with rDn := clampNat 1 2000 (leNat bs) }
  | .stagedCount => s.onBack fun k => { k with stagedCount := BitVec.ofNat 8 (leNat bs) }
  | .stagedLux n =>
      s.onBack fun k => { k with staged := k.staged.modify n fun c =>
        { c with lux := BitVec.ofNat 32 (leNat bs) } }
  | .stagedNits n =>
      s.onBack fun k => { k with staged := k.staged.modify n fun c =>
        { c with nits := BitVec.ofNat 16 (leNat bs) } }
  | .freeFallMg => s.onMotion fun m => { m with freeFallMg := clampNat 100 800 (leNat bs) }
  | .freeFallTime => s.onMotion fun m => { m with freeFallTime := clampNat 10 200 (leNat bs) }
  | .lightMg => s.onMotion fun m => { m with lightMg := clampNat 1000 16000 (leNat bs) }
  | .hardMg => s.onMotion fun m => { m with hardMg := clampNat 1000 16000 (leNat bs) }
  | .severeMg => s.onMotion fun m => { m with severeMg := clampNat 1000 16000 (leNat bs) }
  | .holdClasses => s.onDrop fun d => { d with holdClasses := BitVec.ofNat 4 (leNat bs) }
  | .action n => s.onDrop fun d => { d with table := d.table.set n (BitVec.ofNat 6 (leNat bs)) }
  | .stream st => s.writeStream st (byteAt bs 0 != 0) (byteAt bs 1)
  | .stimulus => s.writeStimulus (byteAt bs 0 != 0) (BitVec.ofNat 3 (byteAt bs 1)) (byteAt bs 2 != 0)
  | .logIndex => s.onDrop fun d => { d with index := min 15 (leNat bs) }

/-- What a setting reads as (R196, R198). -/
def Setting.get (s : State) : Setting → List Byte
  | .clearMode => le8 s.link.clearMode.code
  | .alertForwarding => boolByte s.link.alertForwarding
  | .attention => le8 s.link.attention.toNat
  | .wakeEnables => le8 s.ctl.enables.toNat
  | .defaultTreatment => le8 s.policy.defaultTreatment.code
  | .lockoutLimit i => le8 (s.policy.lockoutLimit.get i)
  | .transactionLimit => le16 s.policy.transactionLimit
  | .pollPeriod => le16 s.policy.pollPeriod
  | .settleTime => le16 s.policy.settleTime
  | .releaseTime => le16 s.policy.releaseTime
  | .command n => ((s.policy.commands[n]?).getD CommandEntry.unused).bytes
  | .admission n => ((s.policy.admission[n]?).getD ⟨0, 0, 0, 0, 0, 0, 0, 0, 0⟩).bytes
  | .hold => le8 s.supply.holdSetting.code
  | .readyThreshold => le16 s.supply.readyThreshold
  | .bridgeLimit => le8 s.supply.bridgeLimit
  | .saveWindow => le8 s.supply.saveWindow
  | .bridgePower => le16 s.supply.bridgePower
  | .normalReserve => le32 s.supply.normalReserve
  | .bridgeReserve => le32 s.supply.bridgeReserve
  | .shareWindow => le16 s.supply.shareWindow
  | .enable i => boolByte (s.light.sensor i).enable
  | .trim i => le16 (s.light.sensor i).trim
  | .staleLimit => le16 s.light.staleLimit
  | .weight => le16 s.light.weight
  | .tickPeriod => le8 s.back.tickPeriod
  | .riseShift => le8 s.back.riseShift
  | .fallShift => le8 s.back.fallShift
  | .bias => le8s s.back.bias
  | .lMin => le8 s.back.lMin
  | .lMax => le16 s.back.lMax
  | .q => le16 s.back.q
  | .rUp => le16 s.back.rUp
  | .rDn => le16 s.back.rDn
  | .stagedCount => [s.back.stagedCount]
  | .stagedLux n => le32 (((s.back.staged[n]?).map fun c => c.lux.toNat).getD 0)
  | .stagedNits n => le16 (((s.back.staged[n]?).map fun c => c.nits.toNat).getD 0)
  | .freeFallMg => le16 s.motion.freeFallMg
  | .freeFallTime => le8 s.motion.freeFallTime
  | .lightMg => le16 s.motion.lightMg
  | .hardMg => le16 s.motion.hardMg
  | .severeMg => le16 s.motion.severeMg
  | .holdClasses => le8 s.drop.holdClasses.toNat
  | .action n => le8 (((s.drop.table[n]?).map BitVec.toNat).getD 0)
  | .stream .accel => boolByte s.streams.accel.enabled ++ le8 s.streams.accel.divider
  | .stream .light => boolByte s.streams.light.enabled ++ le8 s.streams.light.divider
  | .stimulus =>
      boolByte s.streams.stimulusOn ++ le8 s.streams.sources.toNat ++ boolByte s.streams.drives
  | .logIndex => le8 s.drop.index

/-! ### A write of L_max or Q (R116) -/

/-- The backlight controller's own computation at a write of L_max or Q: L_pow and the clamp, and
stage 9 where L_max was written (R116, R117, R119). -/
def Backlight.ownWrite (undriven lMaxWritten : Bool) (k : Backlight) : Backlight :=
  let k' := Backlight.reclamp undriven k
  if lMaxWritten then Backlight.redrive undriven k' else k'

/-- A write of L_max or Q at its two blocks, after the values are stored. Which of the two
computations is taken first is open (R116, log 13): the open order is drawn only where the two
orders leave different outputs. -/
def State.panelWritten (s : State) (lMaxWritten : Bool) : State :=
  let first := ((s.onBack (Backlight.ownWrite (undriven s) lMaxWritten)).owe .other).closeEvent
  let second := ((s.owe .other).closeEvent).onBack (Backlight.ownWrite (undriven s) lMaxWritten)
  if first.back = second.back then first
  else if Config.controllerTakesFirst s.choice then first.bumpChoice
  else second.bumpChoice

/-- What a WRITE does after every field has taken its value. -/
def State.afterPuts (s : State) (xs : List Setting) : State :=
  if xs.contains .lMax || xs.contains .q then s.panelWritten (xs.contains .lMax) else s

end Sys2Proof.Machine
end

