-- ==== Sys2Proof/Machine/Resets.lean ====
section
/-!
DEFINITION. The three resets: power-on (R179), full (R191, with every chapter's full-reset values)
and control.
-/

namespace Sys2Proof.Machine

/-! ### Power-on reset -/

/-- Contact sensing of one bay at power-on: a present line is taken as a contact arrival (R65). -/
def State.senseContact (s : State) (i : BayId) : State :=
  if s.lines.contact.get i then s.contactArrival i else s

/-- The adapter presence filter takes a present adapter line 10 ms after the reset (R91). -/
def State.senseAdapter (s : State) : State :=
  if s.lines.adapterSense then
    s.onSupply fun u => { u with presenceFilter := some (Timer.start Config.adapterFilter) }
  else s

/-- Power-on reset: every block at its power-on values, then contact sensing and the adapter's
filter (R65, R91, R179). The lines and the factory trim store are as they were. -/
def State.powerOn (s : State) : State :=
  let s1 : State :=
    { State.atPowerOn s.lines s.store with pending := s.pending, choice := s.choice }
  (((s1.senseContact .a).senseContact .b).senseAdapter).closeEvent

/-! ### Full reset: the parts -/

/-- A record after a full reset: IMPACT_SUSPECT is kept for a bay with contact, the outcome for a
bay that stays INHIBITED (R38). -/
def PackRecord.fullReset (contact inhibited : Bool) (r : PackRecord) : PackRecord :=
  { PackRecord.absent with
    suspect := contact && r.suspect,
    outcome := if contact && inhibited then r.outcome else .none }

/-- A traffic unit after a full reset: identification pending in a bay that goes to IDENTIFYING, the
poll timer running in a bay that stays INHIBITED (R17, R23). -/
def Traffic.afterFullReset (new : BayState) : Traffic :=
  { Traffic.fresh with
    ident := if new = .identifying then some .first else none,
    pollTimer := if new = .inhibited then
      (pollPeriod Policy.defaults .active).map Timer.start else none }

/-- Where a full reset places a bay (R66). -/
def BayState.afterFullReset (contact : Bool) (old : BayState) : BayState :=
  if !contact then .empty else if old = .inhibited then .inhibited else .identifying

/-- A bay at a full reset: placed by its contact line, its latch as it is, its discharge path kept
where it was discharging and is identified again (R38, R66, R81, R92). -/
def Bay.fullReset (contact intent : Bool) (y : Bay) : Bay :=
  let new := y.state.afterFullReset contact
  { y with
    state := new, tripDeferred := false, decisionDeferred := false, returnPending := false,
    contact := contact, loss := none, intent := intent, intentFilter := none, timer := none,
    record := y.record.fullReset contact (y.state == .inhibited),
    role := if new = .identifying && y.role ≠ .off then .kept else .off,
    charging := false, traffic := .afterFullReset new }

/-- The supply controller's settings at their reset values; the start barrier cleared if PWR_REQ is
low; the state, the timers and the two records kept (R92). -/
def Supply.fullReset (pwrReq : Bool) (u : Supply) : Supply :=
  { u with
    barrier := u.barrier && pwrReq,
    holdSetting := Supply.fresh.holdSetting, readyThreshold := Supply.fresh.readyThreshold,
    bridgeLimit := Supply.fresh.bridgeLimit, saveWindow := Supply.fresh.saveWindow,
    bridgePower := Supply.fresh.bridgePower, normalReserve := Supply.fresh.normalReserve,
    bridgeReserve := Supply.fresh.bridgeReserve, shareWindow := Supply.fresh.shareWindow }

/-- The light unit after a full reset: each sensor STARTING at step 2 with the store's trim, the
discard owed, the first conversion started; a conversion in progress is abandoned (R95, R107,
R108). -/
def Light.fullReset (store : TrimStore) : Light :=
  { Light.fresh store with
    front := (Sensor.fresh store.front).enabled false,
    rear := (Sensor.fresh store.rear).enabled false }

/-- The backlight controller at a full reset, before the new allowance: settings and curves at their
reset values, A and the stage results absent, the tick timer started; the on/off state, L_out and
the drive words kept (R127). -/
def Backlight.fullReset (k : Backlight) : Backlight :=
  { Backlight.fresh with
    on := k.on, pbl := k.pbl, lpow := k.lpow, lout := k.lout, drive := k.drive,
    lastSent := k.lastSent, tick := some (Timer.start Backlight.fresh.tickPeriod) }

/-- The drop log unit at a full reset: the log and the count kept, an OPEN record closed as
INTERRUPTED, everything else at its reset value (R160). -/
def DropLog.fullReset (d : DropLog) : DropLog :=
  { DropLog.fresh with
    log := onNewest DropRecord.interrupt d.log, drops := d.drops, parkPin := d.parkPin }

/-- Every block at its full-reset values, before the supply controller's roles and allowance and the arbiters. -/
def State.fullResetBlocks (s : State) : State :=
  { s with
    ctl := { mode := .active, enables := 0b11111, causes := 0, wake := false },
    link := .fresh, flags := .clear, policy := .defaults, holdMask := 0,
    bays := ⟨s.bays.a.fullReset s.lines.contact.a s.lines.intent.a,
             s.bays.b.fullReset s.lines.contact.b s.lines.intent.b⟩,
    supply := s.supply.fullReset s.lines.pwrReq, light := Light.fullReset s.store,
    back := s.back.fullReset, motion := .fresh .hz400, drop := s.drop.fullReset,
    streams := .fresh, due := none }

/-- The supply controller's part of a full reset: the state, the stop cause and the running timers
stay; the roles, LAST_SUPPLY and the allowance are computed anew. GUARD and HOST leave both sets in
the step that recomputes LAST_SUPPLY, so that each latch follows the final set (R66, R92; logs 23
and 34). -/
def State.fullResetSupply (s : State) : State :=
  (((s.selectDischarge).selectCharge).setLastSupply fun _ => .empty).allowPower

/-- The latch of a bay that was RELEASING before a full reset: its bay has left RELEASING, and the
controller looks at the final set (R62, R66). -/
def State.leftReleasing (s : State) (i : BayId) (before : BayState) : State :=
  if before = .releasing then
    (s.onBay i (Bay.afterReleasing (s.lines.lockConfirm.get i))).syncPins
  else s

/-- Full reset (R191): the blocks, the supply controller's part with the allowance handed on, the latches that
left RELEASING, the clamp and the drive word with the reset L_max (R127), and the arbiters' look at
the identifications that begin. -/
def State.fullReset (s : State) : State :=
  ((((s.fullResetBlocks.fullResetSupply).leftReleasing .a s.bays.a.state).leftReleasing .b
    s.bays.b.state).onBack (Backlight.ownWrite false true)).arbitrateBoth.closeEvent

/-! ### Control reset -/

/-- The trunk link interface at a control reset (R192): settings are kept; a request being handled
and the requests that wait are discarded (logs 12, 32). -/
def Link.controlReset (l : Link) : Link :=
  { l with rx := .hunt, interByte := none, inject := none, waiting := [], responses := [],
           alerts := [], accelSlot := none, lightSlot := none, sending := none }

/-- Control reset: the traffic units discard waiting host requests, the stream unit and stimulus are
reset with each replacement ended and the outputs driven again, the link is emptied; every other
block is kept (R23, R67, R93, R108, R127, R144, R160, R169, R178, R192). -/
def State.controlReset (s : State) : State :=
  (((s.onTraffic .a Traffic.controlReset).onTraffic .b Traffic.controlReset).setStimulus
    .fresh).onLink Link.controlReset

end Sys2Proof.Machine
end

