-- ==== Sys2Proof/Machine/Spaces.lean ====
section
/-!
DEFINITION. The maps of the seven control spaces (R198, R199), and what a READ or a WRITE of them
gives (R183, R184, R196, R197).
-/

namespace Sys2Proof.Machine

/-- The five access types of a location (R196). -/
inductive Access where
  | ro | rc | ac
  | rw (x : Setting)
  | st (x : Setting)
  deriving DecidableEq, Repr

/-- One location of a map: where it stands, how wide it is, its access, and what it reads as.
`group` names the value it is part of where that value may be absent; 0 where it is always present
(R193, R196; log 18). -/
structure Loc where
  off    : Nat
  size   : Nat
  access : Access
  group  : Nat
  read   : State → Option (List Byte)

/-- A read-only location that is always present. -/
def ro (off size : Nat) (f : State → List Byte) : Loc :=
  { off := off, size := size, access := .ro, group := 0, read := fun s => some (f s) }

/-- A read-only location of a value that may be absent. -/
def roOpt (off size group : Nat) (f : State → Option (List Byte)) : Loc :=
  { off := off, size := size, access := .ro, group := group, read := f }

/-- An RW location. -/
def rw' (off size : Nat) (x : Setting) : Loc :=
  { off := off, size := size, access := .rw x, group := 0, read := fun s => some (x.get s) }

/-- An ST location. -/
def st' (off size : Nat) (x : Setting) : Loc :=
  { off := off, size := size, access := .st x, group := 0, read := fun s => some (x.get s) }

/-- The action cell: reads 0 (R196). -/
def actionCell : Loc :=
  { off := 4, size := 1, access := .ac, group := 0, read := fun _ => some [0] }

/-- The identity record: space code, version 1, sticky flags (R185, R198). -/
def identityRecord (sp : Space) : List Loc :=
  [ro 0 1 fun _ => le8 (spaceCode sp),
   ro 1 1 fun _ => [1],
   { off := 2, size := 2, access := .rc, group := 0,
     read := fun s => some (le16 (s.flags.get sp).toNat) }]

/-! ### HUB -/

/-- The HUB map (R198). -/
def hubMap : List Loc :=
  identityRecord .hub ++
  [actionCell,
   ro 0x05 1 fun s => le8 s.ctl.mode.code,
   rw' 0x06 1 .clearMode, rw' 0x07 1 .alertForwarding, rw' 0x08 1 .attention,
   ro 0x09 1 fun s => le8 s.summary.toNat,
   rw' 0x0A 1 .wakeEnables,
   ro 0x0B 1 fun s => le8 s.ctl.causes.toNat,
   ro 0x0C 1 fun s => boolByte s.ctl.wake,
   ro 0x10 4 fun s => le32 s.uptime,
   ro 0x14 2 fun s => le16 s.store.front.toNat,
   ro 0x16 2 fun s => le16 s.store.rear.toNat]

/-! ### BAY_A and BAY_B -/

/-- The lock-reason set as it is laid out (R195). -/
def LockReasons.code (r : LockReasons) : Nat := packBits [r.guard, r.lastSupply, r.host]

/-- The timer code of a bay space (R198). -/
def Bay.timerCode (y : Bay) : Nat :=
  match y.timer with
  | none => 0
  | some t => match t.kind, t.paused with
      | .settle, false => 1
      | .settle, true => 2
      | .release, false => 3
      | .release, true => 4

/-- The remaining time of a bay's timer, 0 with none. -/
def Bay.timerLeft (y : Bay) : Nat := leftOf (y.timer.map BayTimer.timer)

/-- The presence set of a pack record (R199). -/
def PackRecord.presence (r : PackRecord) : Nat :=
  packBits [r.identity.isSome, r.voltage.isSome, r.current.isSome, r.temperature.isSome,
    r.chargePct.isSome, r.remaining.isSome, r.full.isSome, r.alarms.isSome]

/-- The marks of a pack record (R199). -/
def PackRecord.marks (r : PackRecord) : Nat := packBits [r.suspect, r.depleted, r.chargeStop]

/-- A field of a bay's pack record that may be absent. -/
def recordOpt (i : BayId) (off size group : Nat) (f : PackRecord → Option (List Byte)) : Loc :=
  roOpt off size group fun s => f (s.bay i).record

/-- A live value's update time. -/
def timeOf {α : Type} (v : Option (Timed α)) : Option (List Byte) := v.map fun x => le32 x.time

/-- The pack record view, based at 0x10 (R199). -/
def recordMap (i : BayId) : List Loc :=
  [ro 0x10 1 fun s => le8 (s.bay i).record.presence,
   ro 0x11 1 fun s => le8 (s.bay i).record.outcome.code,
   ro 0x12 1 fun s => le8 (s.bay i).record.marks,
   recordOpt i 0x13 1 1 fun r => r.identity.map fun d => le8 d.cls,
   recordOpt i 0x14 2 1 fun r => r.identity.map fun d => le16 d.designMv,
   recordOpt i 0x16 2 1 fun r => r.identity.map fun d => le16 d.designMah,
   recordOpt i 0x18 2 1 fun r => r.identity.map fun d => le16 d.serial,
   recordOpt i 0x1A 2 2 fun r => r.voltage.map fun v => le16 v.value,
   recordOpt i 0x1C 2 3 fun r => r.current.map fun v => le16s v.value,
   recordOpt i 0x1E 2 4 fun r => r.temperature.map fun v => le16s v.value,
   recordOpt i 0x20 1 5 fun r => r.chargePct.map fun v => le8 v.value,
   recordOpt i 0x21 2 6 fun r => r.remaining.map fun v => le16 v.value,
   recordOpt i 0x23 2 7 fun r => r.full.map fun v => le16 v.value,
   recordOpt i 0x25 2 8 fun r => r.alarms.map fun v => le16 v.value.toNat,
   recordOpt i 0x27 4 2 fun r => timeOf r.voltage,
   recordOpt i 0x2B 4 3 fun r => timeOf r.current,
   recordOpt i 0x2F 4 4 fun r => timeOf r.temperature,
   recordOpt i 0x33 4 5 fun r => timeOf r.chargePct,
   recordOpt i 0x37 4 6 fun r => timeOf r.remaining,
   recordOpt i 0x3B 4 7 fun r => timeOf r.full,
   recordOpt i 0x3F 4 8 fun r => timeOf r.alarms]

/-- The map of a bay space (R198). -/
def bayMap (i : BayId) : List Loc :=
  identityRecord (baySpace i) ++
  [actionCell,
   ro 0x05 1 fun s => le8 (s.bay i).state.code,
   ro 0x06 1 fun s => le8 (packBits [(s.bay i).tripDeferred, (s.bay i).decisionDeferred,
     (s.bay i).returnPending]),
   ro 0x07 1 fun s => le8 (s.bay i).latch.code,
   ro 0x08 1 fun s => le8 (s.bay i).reasons.code,
   ro 0x09 1 fun s => le8 (s.bay i).timerCode,
   ro 0x0A 2 fun s => le16 (s.bay i).timerLeft]
  ++ recordMap i

/-! ### PACK_POLICY -/

/-- The PACK_POLICY map (R198). -/
def policyMap : List Loc :=
  identityRecord .policy ++
  [rw' 0x04 1 .defaultTreatment, rw' 0x05 1 (.lockoutLimit .a), rw' 0x06 1 (.lockoutLimit .b),
   rw' 0x08 2 .transactionLimit, rw' 0x0A 2 .pollPeriod, rw' 0x0C 2 .settleTime,
   rw' 0x0E 2 .releaseTime]
  ++ (List.range 32).map (fun n => rw' (0x100 + 8 * n) 8 (.command n))
  ++ (List.range 8).map (fun n => rw' (0x200 + 16 * n) 16 (.admission n))

/-! ### SUPPLY -/

/-- The roles byte (R198). -/
def rolesByte (b : Both Bay) : Nat :=
  b.a.role.code + 4 * b.b.role.code + 16 * b.a.charging.toNat + 32 * b.b.charging.toNat

/-- The adapter byte (R198). -/
def adapterByte (a : Option (Fin 4)) : Nat :=
  match a with
  | some c => 1 + 2 * c.val
  | none => 0

/-- The remaining time of a timer, absent while it does not run. -/
def leftWhile (size : Nat) (t : Option Timer) : Option (List Byte) :=
  t.map fun t => exactly size (le32 t.left)

/-- The SUPPLY map (R198). -/
def supplyMap : List Loc :=
  identityRecord .supply ++
  [ro 0x04 1 fun s => le8 s.supply.state.code,
   ro 0x05 1 fun s => le8 s.supply.stopCause.code,
   ro 0x06 1 fun s => boolByte s.supply.barrier,
   ro 0x07 1 fun s => le8 (rolesByte s.bays),
   ro 0x08 1 fun s => le8 (adapterByte s.supply.adapter),
   ro 0x09 1 fun s => le8 (packBits [s.supply.exhausted, s.supply.available,
     s.supply.state == .normal]),
   roOpt 0x0A 2 1 fun s => s.supply.bridgeVoltage.map fun v => le16 v.value,
   roOpt 0x0C 4 1 fun s => timeOf s.supply.bridgeVoltage,
   ro 0x10 4 fun s => le32 s.supply.pAvail,
   ro 0x14 4 fun s => le32 s.supply.pbl,
   roOpt 0x18 2 2 fun s => leftWhile 2 s.supply.hold,
   roOpt 0x1A 4 3 fun s => leftWhile 4 s.supply.bridgeRun,
   roOpt 0x1E 2 4 fun s => leftWhile 2 s.supply.save,
   rw' 0x20 1 .hold, rw' 0x21 2 .readyThreshold, rw' 0x23 1 .bridgeLimit, rw' 0x24 1 .saveWindow,
   rw' 0x25 2 .bridgePower, rw' 0x28 4 .normalReserve, rw' 0x2C 4 .bridgeReserve,
   rw' 0x30 2 .shareWindow]

/-! ### LIGHT -/

/-- A field of a sensor's latest sample. -/
def sampleOpt (i : SensorId) (off size : Nat) (f : Nat → LightSample → List Byte) : Loc :=
  roOpt off size (match i with | .front => 1 | .rear => 4)
    fun s => (s.light.sensor i).sample.map (f s.uptime)

/-- The age of a latest sample, saturating at 65,535 ms (R94). -/
def ageMs (now arrival : Nat) : Nat := min 65535 (now - arrival)

/-- A sensor's record without θ, at a base (R198). -/
def sensorMap (i : SensorId) (base : Nat) : List Loc :=
  [ro base 1 fun s => le8 (s.light.sensor i).condition.code,
   ro (base + 1) 1 fun s => le8 (s.light.sensor i).step,
   ro (base + 2) 1 fun s => le8 (s.light.sensor i).trimSource.code,
   ro (base + 3) 1 fun s => le8 (s.light.sensor i).failures,
   ro (base + 4) 1 fun s => boolByte (s.light.sensor i).discardOwed,
   sampleOpt i (base + 5) 2 fun _ x => le16 x.count,
   sampleOpt i (base + 7) 1 fun _ x => le8 (Gain.value x.gain),
   sampleOpt i (base + 8) 1 fun _ x => le8 (Integration.value x.integration),
   sampleOpt i (base + 9) 1 fun _ x => boolByte x.saturated,
   roOpt (base + 10) 4 (match i with | .front => 2 | .rear => 5)
     fun s => (s.light.sensor i).sample.map fun x => le32 x.lux,
   sampleOpt i (base + 14) 4 fun _ x => le32 x.arrival,
   sampleOpt i (base + 18) 2 fun now x => le16 (ageMs now x.arrival),
   roOpt (base + 20) 2 (match i with | .front => 3 | .rear => 6)
     fun s => leftWhile 2 (s.light.sensor i).stale]

/-- A stage result of the last full tick. The five come and go together (R109), and for NO_DATA they are
one absent value: the model's reading (log 18). -/
def stageOpt (off : Nat) (f : Stages → Nat) : Loc :=
  roOpt off 2 9 fun s => s.back.stages.map fun g => le16 (f g)

/-- A working point's location; points beyond the count read 0 (R198). -/
def workingPoint (s : State) (n : Nat) : CurvePoint := (s.back.working[n]?).getD ⟨0, 0⟩

/-- The LIGHT map (R198). -/
def lightMap : List Loc :=
  identityRecord .light ++
  [actionCell,
   rw' 0x05 1 (.enable .front), rw' 0x06 1 (.enable .rear),
   rw' 0x08 2 (.trim .front), rw' 0x0A 2 (.trim .rear),
   rw' 0x0C 2 .staleLimit, rw' 0x0E 2 .weight,
   rw' 0x10 1 .tickPeriod, rw' 0x11 1 .riseShift, rw' 0x12 1 .fallShift, rw' 0x13 1 .bias,
   rw' 0x14 1 .lMin, rw' 0x16 2 .lMax, rw' 0x18 2 .q, rw' 0x1A 2 .rUp, rw' 0x1C 2 .rDn]
  ++ sensorMap .front 0x20 ++
  [roOpt 0x36 1 7 fun s => s.light.theta.map fun t => le8s t.value,
   roOpt 0x37 4 7 fun s => timeOf s.light.theta]
  ++ sensorMap .rear 0x40 ++
  [ro 0x60 1 fun s => boolByte s.back.on,
   roOpt 0x61 4 8 fun s => s.back.filtered.map le32,
   ro 0x65 4 fun s => le32 s.back.pbl,
   ro 0x69 2 fun s => le16 s.back.lpow,
   stageOpt 0x6B Stages.n, stageOpt 0x6D Stages.t, stageOpt 0x6F Stages.lth,
   stageOpt 0x71 Stages.u, stageOpt 0x73 Stages.target,
   ro 0x75 2 fun s => le16 s.back.lout,
   ro 0x77 2 fun s => le16 s.back.drive,
   ro 0x79 2 fun s => le16 s.back.lastSent,
   roOpt 0x7B 1 10 fun s => leftWhile 1 s.back.tick,
   st' 0x80 1 .stagedCount]
  ++ ((List.range 16).map fun n =>
      [st' (0x84 + 6 * n) 4 (.stagedLux n), st' (0x88 + 6 * n) 2 (.stagedNits n)]).flatten
  ++ [ro 0x100 1 fun s => le8 s.back.working.length]
  ++ ((List.range 16).map fun n =>
      [ro (0x104 + 6 * n) 4 fun s => le32 (workingPoint s n).lux,
       ro (0x108 + 6 * n) 2 fun s => le16 (workingPoint s n).nits]).flatten

/-! ### MOTION -/

/-- A field of the accelerometer's latest sample. -/
def latestOpt (off size : Nat) (f : Timed Accel3 → List Byte) : Loc :=
  roOpt off size 2 fun s => s.motion.accel.latest.map f

/-- A part of the guard's working record. -/
def workOpt (off size group : Nat) (f : Working → Option (List Byte)) : Loc :=
  roOpt off size group fun s => f s.motion.work

/-- The peak whose sample the guard block shows: which of two differing peaks is open (log 15). -/
def Working.shownPeak (w : Working) : Option Accel3 :=
  match w.windowPeak, w.recordPeak with
  | some p, some r => if p = r then some p
      else if Config.guardBlockShowsRecordPeak then some r else some p
  | some p, none => some p
  | none, r => r

/-- A snapshot's roles byte, as in a drop record (R199). -/
def RecordSnapshot.roles (p : RecordSnapshot) : Nat := p.role.a.code + 4 * p.role.b.code

/-- The marks byte of the guard block's snapshot (R199). -/
def Snapshot.marks (p : Snapshot) : Nat := packBits [p.parkMark, p.priorLock.a, p.priorLock.b]

/-- A byte of the guard block's snapshot (R199). -/
def snapshotOpt (off : Nat) (f : Snapshot → Nat) : Loc :=
  workOpt off 1 11 fun w => w.snapshot.map fun p => le8 (f p)

/-- The record at the log index (R158). -/
def DropLog.windowRecord (d : DropLog) : Option DropRecord := d.log[d.index]?

/-- An always-present field of the record window: absent with the record. -/
def windowAll (off size : Nat) (f : DropRecord → List Byte) : Loc :=
  roOpt off size 20 fun s => s.drop.windowRecord.map f

/-- A field of the record window that may be absent from a present record. -/
def windowOpt (off size group : Nat) (f : DropRecord → Option (List Byte)) : Loc :=
  roOpt off size group fun s => s.drop.windowRecord.bind f

/-- The presence set of a drop record (R199). -/
def DropRecord.presence (r : DropRecord) : Nat :=
  packBits [r.fallTime.isSome, r.height.isSome, r.peak.isSome, r.axis.isSome, r.severity.isSome,
    r.verify.a.isSome, r.verify.b.isSome]

/-- The record window (R199). -/
def windowMap : List Loc :=
  [windowAll 0x80 1 fun r => le8 r.kind.code,
   windowAll 0x81 1 fun r => boolByte (!r.isOpen),
   windowAll 0x82 2 fun r => le16 r.sequence,
   windowAll 0x84 4 fun r => le32 r.uptimeS,
   windowOpt 0x88 2 21 fun r => r.fallTime.map le16,
   windowOpt 0x8A 2 22 fun r => r.height.map le16,
   windowOpt 0x8C 2 23 fun r => r.peak.map le16,
   windowOpt 0x8E 1 24 fun r => r.axis.map fun v => le8 v.code,
   windowOpt 0x8F 1 25 fun r => r.severity.map fun v => le8 v.code,
   windowAll 0x90 1 fun r => le8 r.flags.toNat,
   windowAll 0x91 1 fun r => le8 r.snapshot.state.a.code,
   windowAll 0x92 1 fun r => le8 r.snapshot.state.b.code,
   windowAll 0x93 1 fun r => le8 r.snapshot.roles,
   windowAll 0x94 1 fun r => le8 r.snapshot.supply.code,
   windowOpt 0x95 1 26 fun r => r.verify.a.map fun v => le8 v.code,
   windowOpt 0x96 1 27 fun r => r.verify.b.map fun v => le8 v.code,
   windowAll 0x97 1 fun r => le8 r.actions.toNat,
   windowAll 0x98 1 fun r => le8 r.presence]

/-- The MOTION map (R198). The catch run reads as absent outside the fall episode that its row of R134
gives, the free-fall run always (log 18); the record peak reads a free value until the first window's
end (log 36); the PARK line state and MULTIPLE read 0 deasserted or clear, 1 asserted or set
(log 35). -/
def motionMap : List Loc :=
  identityRecord .motion ++
  [actionCell,
   ro 0x08 1 fun s => le8 s.motion.accel.condition.code,
   ro 0x09 1 fun s => le8 s.motion.accel.discards,
   ro 0x0A 1 fun s => le8 s.motion.accel.odr.code,
   roOpt 0x0B 1 1 fun s => s.motion.accel.pendingOdr.map fun o => le8 o.code,
   latestOpt 0x0C 2 fun a => le16s a.value.x,
   latestOpt 0x0E 2 fun a => le16s a.value.y,
   latestOpt 0x10 2 fun a => le16s a.value.z,
   latestOpt 0x12 4 fun a => le32 a.value.m2,
   latestOpt 0x16 4 fun a => le32 a.time,
   ro 0x1A 1 fun s => le8 s.motion.accel.stale.left,
   rw' 0x20 2 .freeFallMg, rw' 0x22 1 .freeFallTime,
   rw' 0x23 2 .lightMg, rw' 0x25 2 .hardMg, rw' 0x27 2 .severeMg,
   ro 0x30 1 fun s => le8 s.motion.guard.code,
   ro 0x31 1 fun s => le8 s.motion.freeFallRun,
   workOpt 0x32 1 3 fun w => w.kind.map fun k => le8 k.code,
   workOpt 0x33 2 4 fun w => w.fallCount.map le16,
   workOpt 0x35 1 5 fun w => w.catchRun.map le8,
   workOpt 0x36 4 6 fun w => w.windowPeak.map fun p => le32 p.m2,
   workOpt 0x3A 4 6 fun w => w.recordPeak.map fun p => le32 p.m2,
   workOpt 0x3E 2 6 fun w => w.shownPeak.map fun p => le16s p.x,
   workOpt 0x40 2 6 fun w => w.shownPeak.map fun p => le16s p.y,
   workOpt 0x42 2 6 fun w => w.shownPeak.map fun p => le16s p.z,
   workOpt 0x44 1 6 fun w => w.shownPeak.map fun p => le8 (peakAxis p).code,
   workOpt 0x45 1 7 fun w => w.windowCount.map le8,
   workOpt 0x46 1 8 fun w => w.severity.map fun v => le8 v.code,
   workOpt 0x47 1 9 fun w => w.multiple.map boolByte,
   workOpt 0x48 2 10 fun w => w.settleCount.map le16,
   snapshotOpt 0x4A fun p => p.record.state.a.code,
   snapshotOpt 0x4B fun p => p.record.state.b.code,
   snapshotOpt 0x4C fun p => p.record.roles,
   snapshotOpt 0x4D fun p => p.record.supply.code,
   snapshotOpt 0x4E fun p => p.latch.a.code,
   snapshotOpt 0x4F fun p => p.latch.b.code,
   snapshotOpt 0x50 Snapshot.marks,
   ro 0x60 1 fun s => le8 s.drop.inForce.toNat,
   ro 0x61 1 fun s => le8 s.drop.episode.toNat,
   ro 0x62 1 fun s => boolByte s.drop.parkLine,
   ro 0x63 1 fun s => le8 (packBits [s.drop.parkMark, s.drop.priorLock.a, s.drop.priorLock.b]),
   rw' 0x64 1 .holdClasses]
  ++ (List.range 6).map (fun n => rw' (0x68 + n) 1 (.action n)) ++
  [rw' 0x70 2 (.stream .accel), rw' 0x72 2 (.stream .light), rw' 0x74 3 .stimulus,
   ro 0x78 1 fun s => le8 s.drop.log.length,
   ro 0x79 2 fun s => le16 s.drop.drops,
   rw' 0x7B 1 .logIndex]
  ++ windowMap

/-- The map of a space (R198). -/
def spaceMap : Space → List Loc
  | .hub => hubMap
  | .bayA => bayMap .a
  | .bayB => bayMap .b
  | .policy => policyMap
  | .supply => supplyMap
  | .light => lightMap
  | .motion => motionMap

/-! ### Extents -/

/-- The locations of a map that an extent touches. -/
def touched (locs : List Loc) (off n : Nat) : List Loc :=
  locs.filter fun l => l.off < off + n && off < l.off + l.size

/-- Locations that follow one another without a gap from `a` on; the offset after the last. -/
def spanEnd (a : Nat) : List Loc → Option Nat
  | [] => some a
  | l :: ls => if l.off = a then spanEnd (a + l.size) ls else none

/-- The locations cover an extent wholly (R183, R196). -/
def coversExtent (ls : List Loc) (off n : Nat) : Bool :=
  match ls with
  | [] => false
  | l :: _ => l.off ≤ off && match spanEnd l.off ls with
      | some e => off + n ≤ e
      | none => false

/-- The locations cover an extent wholly and begin and end on its bounds (R184). -/
def fitsExtent (ls : List Loc) (off n : Nat) : Bool :=
  match ls with
  | [] => false
  | l :: _ => l.off == off && spanEnd l.off ls == some (off + n)

/-! ### READ (R183) -/

/-- A location's bytes: zeros where the value is absent (R193). -/
def Loc.bytes (s : State) (l : Loc) : List Byte := exactly l.size ((l.read s).getD [])

/-- The value that a location is part of, where it is absent. -/
def Loc.absentGroup (s : State) (l : Loc) : Option Nat :=
  if (l.read s).isNone then some l.group else none

/-- The record window with no record at the index is one absent value (R158). -/
def windowAbsent (s : State) (sp : Space) (ls : List Loc) : Bool :=
  sp == .motion && s.drop.windowRecord.isNone
    && !ls.isEmpty && ls.all fun l => 20 ≤ l.group

/-- A READ that lies wholly within one absent value (R24, R183; log 18). -/
def readsAbsent (s : State) (sp : Space) (ls : List Loc) : Bool :=
  windowAbsent s sp ls ||
  match ls with
  | [] => false
  | l :: _ => match l.absentGroup s with
      | some g => ls.all fun m => m.absentGroup s == some g
      | none => false

/-- The bytes of an extent that locations cover. -/
def extentBytes (s : State) (ls : List Loc) (off n : Nat) : List Byte :=
  match ls with
  | [] => []
  | l :: _ => ((ls.flatMap (Loc.bytes s)).drop (off - l.off)).take n

/-- The answer and data of a READ of a control space (R183, R196). -/
def readAnswer (s : State) (sp : Space) (off n : Nat) : Answer × List Byte :=
  let ls := touched (spaceMap sp) off n
  if n = 0 || 32 < n then (.badValue, [])
  else if !coversExtent ls off n then (.badOffset, [])
  else if readsAbsent s sp ls then (.noData, [])
  else (.ok, extentBytes s ls off n)

/-- The flags that a READ returned: those in the bytes it covered (R186). -/
def returnedFlags (off n : Nat) : Half :=
  (if off ≤ 2 && 2 < off + n then 0x00FF else 0) ||| (if off ≤ 3 && 3 < off + n then 0xFF00 else 0)

/-- A READ answered OK clears the flags it returned in CLEAR_ON_READ (R186). -/
def State.clearRead (s : State) (sp : Space) (off n : Nat) : State :=
  match s.link.clearMode with
  | .clearOnRead => s.clearFlags sp (returnedFlags off n)
  | .writeOneClear => s

/-! ### WRITE (R184) -/

/-- A location that is read-only for a WRITE in the clear mode in force (R184 step 3, R186). -/
def Access.readOnly (m : ClearMode) : Access → Bool
  | .ro => true
  | .rc => m == .clearOnRead
  | .ac | .rw _ | .st _ => false

/-- The settings that a WRITE covers, each with its bytes. -/
def writtenSettings : List Loc → List Byte → List (Setting × List Byte)
  | [], _ => []
  | l :: ls, bs =>
      match l.access with
      | .rw x | .st x => (x, bs.take l.size) :: writtenSettings ls (bs.drop l.size)
      | .ro | .rc | .ac => writtenSettings ls (bs.drop l.size)

/-- Every field covered takes its value (R184). -/
def State.putAll : List (Setting × List Byte) → State → State
  | [], s => s
  | (x, bs) :: xs, s => State.putAll xs (x.put bs s)

/-- The flags that a WRITE of a map's locations clears: those it writes 1 (R186, R196). -/
def writtenFlags : List Loc → List Byte → Half
  | [], _ => 0
  | l :: ls, bs =>
      match l.access with
      | .rc => leHalf (bs.take l.size) ||| writtenFlags ls (bs.drop l.size)
      | .ro | .ac | .rw _ | .st _ => writtenFlags ls (bs.drop l.size)

/-- What kind of WRITE an extent is, by the checks of R184 steps 1 to 3: one that passes them covers
flags that it clears, settings that take their values, or both. -/
inductive WriteKind where
  | outside
  | readOnly
  | action
  | fields (clears : Half) (xs : List (Setting × List Byte))
  deriving DecidableEq, Repr

/-- Steps 1 to 3 of R184. -/
def writeKind (m : ClearMode) (ls : List Loc) (off : Nat) (data : List Byte) : WriteKind :=
  if !fitsExtent ls off data.length then .outside
  else if ls.any (fun l => l.access == .ac) then
    if ls.length = 1 then .action else .outside
  else if ls.any (fun l => l.access.readOnly m) then .readOnly
  else .fields (writtenFlags ls data) (writtenSettings ls data)

/-- Steps 4 and 5 of R184, and the taking of the whole WRITE as one event: the flags written 1 are
cleared (R186), and the settings take their values. -/
def State.takeFields (s : State) (sp : Space) (clears : Half) (xs : List (Setting × List Byte)) :
    State × Answer :=
  let names := xs.map Prod.fst
  let s1 := State.putAll xs (s.clearFlags sp clears)
  if xs.all (fun x => x.1.accepts x.2) && structureOk names s1.policy s1.motion then
    (s1.afterPuts names, .ok)
  else (s, .badValue)

end Sys2Proof.Machine
end

