-- ==== Sys2Proof/Machine/Requests.lean ====
section
/-!
DEFINITION. Requests of the trunk link (R166, R171, R182 to R191): the actions, the handling of a
completed packet, INJECT and its samples, and the receiver.
-/

namespace Sys2Proof.Machine

/-! ### Actions -/

/-- An action or a write taken: its state, answered OK. -/
def done (s : State) : State × Answer := (s, .ok)

/-- READMIT (R45). -/
def State.readmit (s : State) (i : BayId) : State × Answer :=
  let y := s.bay i
  if (y.state = .quarantined || y.state = .silent) && y.contact then
    let s1 := (s.onTraffic i fun t => { t with failures := 0, tripRaised := false }).onBay i
      fun y => { y with tripDeferred := false }
    done ((s1.enterIdentifying i).arbitrate i)
  else (s, .refused)

/-- The conditions of CLEAR_INHIBIT (R50). -/
def clearInhibitAllowed (s : State) (i : BayId) : Bool :=
  let y := s.bay i
  y.state == .inhibited && !guardActive s &&
    (match classLimits s.policy y.record, y.record.temperature with
     | some e, some t => t.value ≤ e.dMax.toInt - Config.clearInhibitBand
     | _, _ => false)
    && !alarmCellFault y.record.alarmWord && !alarmOverTemp y.record.alarmWord

/-- CLEAR_INHIBIT (R50). -/
def State.clearInhibit (s : State) (i : BayId) : State × Answer :=
  if clearInhibitAllowed s i then done (s.moveBay i .online) else (s, .refused)

/-- CLEAR_SUSPECT (R30); a mark that changes reaches the supply controller (R78). -/
def State.clearSuspect (s : State) (i : BayId) : State × Answer :=
  let s1 := s.onRecord i fun r => { r with suspect := false }
  done (if (s.bay i).record.suspect then s1.owe .other else s1)

/-- LOCK and UNLOCK (R63). -/
def State.hostLock (s : State) (i : BayId) (held : Bool) : State × Answer :=
  done (s.setReasons i fun r => { r with host := held })

/-- BACKLIGHT_ON (R120). -/
def State.backlightOn (s : State) : State × Answer := done (s.onBack fun k => { k with on := true })

/-- BACKLIGHT_OFF (R120): in OFF nothing changes. -/
def State.backlightOff (s : State) : State × Answer :=
  if s.back.on then
    done (s.onBack fun k => Backlight.dark (undriven s) { k with on := false })
  else done s

/-- APPLY (R123). -/
def State.applyCurve (s : State) : State × Answer :=
  if s.back.stagedValid then done (s.onBack fun k => { k with working := k.stagedPoints })
  else (s, .badTable)

/-- An accepted action code taken by its space's owner (R184, R195). -/
def State.act (s : State) (i : BayId) : Action → State × Answer
  | .readmit => s.readmit i
  | .clearInhibit => s.clearInhibit i
  | .clearSuspect => s.clearSuspect i
  | .lock => s.hostLock i true
  | .unlock => s.hostLock i false
  | .backlightOn => s.backlightOn
  | .backlightOff => s.backlightOff
  | .applyCurve => s.applyCurve
  | .clearLog => done s.clearLog
  | .wakeAck => done (s.onCtl ModeCtl.acknowledge)
  | .clearAllFlags => done s.clearAllFlags

/-- The bay of a bay space. -/
def spaceBay : Space → BayId
  | .bayB => .b
  | .hub | .bayA | .policy | .supply | .light | .motion => .a

/-- A WRITE of an action cell: any code that the cell does not accept is BAD_VALUE (R184). -/
def State.writeAction (s : State) (sp : Space) (data : List Byte) : State × Answer :=
  match actionOf sp (BitVec.ofNat 8 (leNat data)) with
  | some a => s.act (spaceBay sp) a
  | none => (s, .badValue)

/-! ### Answers (R185, R188) -/

/-- The answer to a request: its flags, then its response (R185, R188). -/
def State.answer (s : State) (sp : Space) (p : Packet) (o : Answer) (data : List Byte) : State :=
  (s.answerFlags sp o).respond
    { tag := p.tag, dest := p.dest, offset := p.offset, outcome := o, data := data }

/-- The end of a request whose effects and answer are at hand: the re-evaluation that the effects
owe, then the answer (log 11). -/
def conclude (sp : Space) (p : Packet) (r : State × Answer) : State :=
  (r.1.closeEvent).answer sp p r.2 []

/-! ### READ and WRITE of a control space (R183, R184) -/

/-- A READ of a control space. -/
def State.readSpace (s : State) (sp : Space) (p : Packet) (count : Nat) : State :=
  let a := readAnswer s sp p.offset.toNat count
  let s1 := if a.1 = .ok then s.clearRead sp p.offset.toNat count else s
  s1.answer sp p a.1 a.2

/-- A WRITE that covered a read-only location (R184, R185). -/
def State.refuseWrite (s : State) (sp : Space) (p : Packet) : State :=
  (s.raise sp .refusedWrite).answer sp p .refused []

/-- A WRITE of a control space. -/
def State.writeSpace (s : State) (sp : Space) (p : Packet) (data : List Byte) : State :=
  let off := p.offset.toNat
  match writeKind s.link.clearMode (touched (spaceMap sp) off data.length) off data with
  | .outside => s.answer sp p .badOffset []
  | .action => conclude sp p (s.writeAction sp data)
  | .readOnly => s.refuseWrite sp p
  | .fields clears xs => conclude sp p (s.takeFields sp clears xs)

/-! ### The other kinds -/

/-- A MODE request (R171). -/
def State.modeRequest (s : State) (p : Packet) : State :=
  match modeOf p.offset.toNat with
  | some m => conclude .hub p (done (s.setMode m))
  | none => s.answer .hub p .badValue []

/-- A RESET request (R191): the OK follows the reset into the emptied response list. -/
def State.resetRequest (s : State) (p : Packet) : State :=
  match p.offset.toNat with
  | 1 => s.controlReset.answer .hub p .ok []
  | 2 => s.fullReset.answer .hub p .ok []
  | _ => s.answer .hub p .badValue []

/-- The checks of an INJECT that look at the request alone (R166): its source and its samples. -/
def injectSamples (p : Packet) : Option (Source × List InjectedSample) :=
  match p.rest, sourceOf p.offset with
  | count :: bytes, some src =>
      let n := count.toNat
      if 1 ≤ n && n ≤ 8 && bytes.length == n * src.size then
        (samplesOf src n bytes).map fun xs => (src, xs)
      else none
  | _, _ => none

/-- An INJECT (R166): an accepted one is held with its samples until the last is taken (R167). -/
def State.injectRequest (s : State) (p : Packet) : State :=
  match injectSamples p with
  | none => s.answer .motion p .badValue []
  | some (src, xs) =>
      if s.streams.replaces src then
        let w : InjectWork := { tag := p.tag, dest := p.dest, offset := p.offset, samples := xs }
        s.onLink fun l => { l with inject := some w }
      else s.answer .motion p .refused []

/-! ### Handling a packet (R182) -/

/-- The space that a READ or WRITE belongs to (R185). -/
def requestSpace (dest : Byte) : Space :=
  match spaceOf dest, passBay dest with
  | some sp, _ => sp
  | none, some i => baySpace i
  | none, none => .hub

/-- A READ of any destination (R183). -/
def State.readRequest (s : State) (p : Packet) (count : Nat) : State :=
  match spaceOf p.dest, passBay p.dest with
  | some sp, _ => s.readSpace sp p count
  | none, some i =>
      if count = 0 || 32 < count then s.answer (baySpace i) p .badValue []
      else (s.packRequest i p.tag p.offset false count []).closeEvent
  | none, none => s.answer .hub p .badDest []

/-- A WRITE of any destination (R183). -/
def State.writeRequest (s : State) (p : Packet) (data : List Byte) : State :=
  match spaceOf p.dest, passBay p.dest with
  | some sp, _ => s.writeSpace sp p data
  | none, some i => (s.packRequest i p.tag p.offset true data.length data).closeEvent
  | none, none => s.answer .hub p .badDest []

/-- Steps 4 and 5 of R182: the length, then the kind's handling. -/
def State.dispatch (s : State) (p : Packet) : State :=
  let n := p.rest.length
  match p.kind.toNat with
  | 1 => match p.rest with
      | [c] => s.readRequest p c.toNat
      | _ => s.answer (requestSpace p.dest) p .badValue []
  | 2 => if 1 ≤ n && n ≤ 32 then s.writeRequest p p.rest
      else s.answer (requestSpace p.dest) p .badValue []
  | 3 => if n = 0 then s.resetRequest p else s.answer .hub p .badValue []
  | 4 => if n = 0 then s.modeRequest p else s.answer .hub p .badValue []
  | _ => if 2 ≤ n && n ≤ 33 then s.injectRequest p else s.answer .motion p .badValue []

/-- KIND names one of the five request kinds (R182, R194). -/
def requestKind (kind : Byte) : Bool := 1 ≤ kind.toNat && kind.toNat ≤ 5

/-- The handling of a completed packet (R182): kind, wake, overrun, then length and kind. -/
def State.handlePacket (s : State) (p : Packet) : State :=
  if !requestKind p.kind then s.answer .hub p .badKind []
  else
    let s1 := s.wakeByTraffic
    if Config.responseCapacity ≤ s1.link.responses.length then s1.raise .hub .overrun
    else s1.dispatch p

/-- A completed packet is handed on: it waits while an INJECT is being handled (R182). -/
def State.handOn (s : State) (p : Packet) : State :=
  if s.link.inject.isSome then s.onLink fun l => { l with waiting := l.waiting ++ [p] }
  else s.handlePacket p

/-- The requests that waited for an INJECT, each in its turn, until one is an INJECT that is accepted
in turn (R182). -/
def State.drain : Nat → State → State
  | 0, s => s
  | n + 1, s =>
      if s.link.inject.isSome then s
      else
        match s.link.waiting with
        | [] => s
        | p :: ps => State.drain n ((s.onLink fun l => { l with waiting := ps }).handlePacket p)

/-! ### Injected samples (R167) -/

/-- One injected sample at the block that owns its source (R106, R143, R167). -/
def State.takeSample (s : State) : InjectedSample → State
  | .accel x y z => s.accelInjected x.toInt y.toInt z.toInt
  | .front c g t theta => s.onLight (Light.injected s.uptime .front c.toNat g t theta)
  | .rear c g t => s.onLight (Light.injected s.uptime .rear c.toNat g t 0)

/-- The packet whose answer an INJECT's end gives. -/
def InjectWork.packet (w : InjectWork) : Packet :=
  { tag := w.tag, kind := 5, dest := w.dest, offset := w.offset, rest := [] }

/-- The INJECT has taken its last sample: it is answered OK, and the requests that waited are taken
in their turn (R167, R182). -/
def State.finishInject (s : State) (w : InjectWork) : State :=
  let s1 := (s.onLink fun l => { l with inject := none }).answer .motion w.packet .ok []
  s1.drain s1.link.waiting.length

/-- The next sample of the INJECT being handled is taken as one arrival (R167). Without one there is
nothing to take. -/
def State.injectedSample (s : State) : State :=
  match s.link.inject with
  | none => s
  | some w =>
      match w.samples with
      | [] => s.finishInject w
      | x :: xs =>
          let s1 := (s.takeSample x).closeEvent
          if xs = [] then s1.finishInject w
          else s1.onLink fun l => { l with inject := some { w with samples := xs } }

/-! ### The receiver (R181) -/

/-- The receiver goes to HUNT, where the inter-byte timer does not run. -/
def Link.hunt (l : Link) : Link := { l with rx := .hunt, interByte := none }

/-- The receiver moves to a state of a partial packet; the inter-byte timer restarts. -/
def Link.receiving (r : RxState) (l : Link) : Link :=
  { l with rx := r, interByte := some (Timer.start Config.interByteLimit) }

/-- A discard with BAD_FRAME (R181). -/
def State.discardFrame (s : State) : State := (s.onLink Link.hunt).raise .hub .badFrame

/-- One received byte at the receiver (R181). -/
def State.receiveByte (s : State) (b : RxByte) : State :=
  match s.link.rx, b with
  | .hunt, .good b => if b = 0xC3 then s.onLink (Link.receiving .length) else s
  | .hunt, .inError => s
  | .length, .good b =>
      if 5 ≤ b.toNat && b.toNat ≤ 38 then s.onLink (Link.receiving (.body b [])) else s.discardFrame
  | .body len kept, .good b =>
      let kept' := kept ++ [b]
      if len.toNat ≤ kept'.length then s.onLink (Link.receiving (.check len kept'))
      else s.onLink (Link.receiving (.body len kept'))
  | .check len kept, .good b =>
      if b = crc8 (len :: kept) then (s.onLink Link.hunt).handOn (packetOf kept) else s.discardFrame
  | .length, .inError | .body _ _, .inError | .check _ _, .inError => s.discardFrame

/-- A whole packet reaches the receiver: its bytes are discarded while RESET_N is low (R191); a LEN
above 38 spoils it (R181); a sound one leaves the receiver in HUNT and is handed on (log 7). -/
def State.receivePacket (s : State) (p : Packet) : State :=
  if !s.lines.resetN then s
  else if 38 < p.len then s.discardFrame
  else (s.onLink Link.hunt).handOn p

end Sys2Proof.Machine
end

