-- ==== Sys2Proof/Machine/Result.lean ====
section
/-!
DEFINITION. The outcome type of a command's effect.
-/

namespace Sys2Proof.Machine

/-- What a command's effect answers. Every command of this block has one in every state. -/
abbrev Result := Host.Outcome State Fault Refusal

end Sys2Proof.Machine
end

