-- ==== Sys2Proof/Machine/ActionCommands.lean ====
section
/-!
DEFINITION. The actions: a WRITE of an action code to the action cell of its space (R184, R195).
-/

namespace Sys2Proof.Machine

/-- READMIT (R45). -/
def execReadmit (tag : Byte) (i : BayId) (s : State) : Result :=
  .next (s.receivePacket (actionPacket tag (baySpace i) .readmit))

/-- CLEAR_INHIBIT (R50). -/
def execClearInhibit (tag : Byte) (i : BayId) (s : State) : Result :=
  .next (s.receivePacket (actionPacket tag (baySpace i) .clearInhibit))

/-- CLEAR_SUSPECT (R30). -/
def execClearSuspect (tag : Byte) (i : BayId) (s : State) : Result :=
  .next (s.receivePacket (actionPacket tag (baySpace i) .clearSuspect))

/-- LOCK (R63). -/
def execLock (tag : Byte) (i : BayId) (s : State) : Result :=
  .next (s.receivePacket (actionPacket tag (baySpace i) .lock))

/-- UNLOCK (R63). -/
def execUnlock (tag : Byte) (i : BayId) (s : State) : Result :=
  .next (s.receivePacket (actionPacket tag (baySpace i) .unlock))

/-- BACKLIGHT_ON (R120). -/
def execBacklightOn (tag : Byte) (s : State) : Result :=
  .next (s.receivePacket (actionPacket tag .light .backlightOn))

/-- BACKLIGHT_OFF (R120). -/
def execBacklightOff (tag : Byte) (s : State) : Result :=
  .next (s.receivePacket (actionPacket tag .light .backlightOff))

/-- APPLY (R123). -/
def execApplyCurve (tag : Byte) (s : State) : Result :=
  .next (s.receivePacket (actionPacket tag .light .applyCurve))

/-- CLEAR_LOG (R158). -/
def execClearLog (tag : Byte) (s : State) : Result :=
  .next (s.receivePacket (actionPacket tag .motion .clearLog))

/-- WAKE_ACK (R175). -/
def execWakeAck (tag : Byte) (s : State) : Result :=
  .next (s.receivePacket (actionPacket tag .hub .wakeAck))

/-- CLEAR_ALL_FLAGS (R186). -/
def execClearAllFlags (tag : Byte) (s : State) : Result :=
  .next (s.receivePacket (actionPacket tag .hub .clearAllFlags))

end Sys2Proof.Machine
end

