-- ==== Sys2Proof/Machine/LightCommands.lean ====
section
/-!
DEFINITION. The light unit's and the backlight controller's commands.
-/

namespace Sys2Proof.Machine

/-- LIGHT_SAMPLE_ARRIVAL (R96). -/
def execLightSampleArrival (i : SensorId) (count : Arrival Half) (g : Gain) (t : Integration)
    (theta : Byte) (s : State) : Result :=
  .next (s.onLight (Light.arrival s.uptime i count g t theta))

/-- CONVERSION_LIMIT_EXPIRY (R96, R102): after an arrival that was taken first the limit has not run
down, and the expiry finds nothing to end. -/
def execConversionLimitExpiry (i : SensorId) (s : State) : Result :=
  .next (if ranDown (s.light.sensor i).conversion then s.conversionFails i else s)

/-- SENSOR_REFUSAL (R96, R102). With no conversion in progress there is
nothing to refuse. -/
def execSensorRefusal (i : SensorId) (s : State) : Result :=
  .next (if (s.light.sensor i).conversion.isSome then s.conversionFails i else s)

/-- LIGHT_STALE_EXPIRY (R101). -/
def execLightStaleExpiry (i : SensorId) (s : State) : Result :=
  .next (s.onLight (Light.onSensor i Sensor.staleExpiry))

/-- BRIGHTNESS_TICK: the tick timer expires, where it runs (R110, R111). -/
def execBrightnessTick (s : State) : Result :=
  .next (if s.back.tick.isSome then s.brightnessTick else s)

end Sys2Proof.Machine
end

