-- ==== Sys2Proof/Machine/LineCommands.lean ====
section
/-!
DEFINITION. The lines and their filters: PWR_REQ, contact, release intent, LOCK_CONFIRM, ALERT,
PARK_ACK and adapter sense. A change of a line to the level it already has changes nothing (log 31).
-/

namespace Sys2Proof.Machine

/-! ### PWR_REQ (R69, R74) -/

/-- PWR_REQ_RISE. -/
def execPwrReqRise (s : State) : Result :=
  .next (if s.lines.pwrReq then s
    else ((s.onLines fun l => { l with pwrReq := true }).owe .other).closeEvent)

/-- PWR_REQ_FALL: the barrier is cleared; any state but STANDBY goes to STANDBY. -/
def execPwrReqFall (s : State) : Result :=
  .next (if s.lines.pwrReq then
      (((s.onLines fun l => { l with pwrReq := false }).onSupply
        fun u => { u with barrier := false }).owe .pwrReqFall).closeEvent
    else s)

/-! ### Contact (R40 to R43) -/

/-- A contact line at its new level. -/
def State.setContactLine (s : State) (i : BayId) (level : Bool) : State :=
  s.onLines fun l => { l with contact := l.contact.set i level }

/-- CONTACT_RISE: with the filtered state present it cancels a running loss filter; otherwise it is a
contact arrival (R40). -/
def execContactRise (i : BayId) (s : State) : Result :=
  let s1 := s.setContactLine i true
  .next (if s.lines.contact.get i then s
    else if (s.bay i).contact then s1.onBay i fun y => { y with loss := none }
    else (s1.contactArrival i).closeEvent)

/-- CONTACT_FALL: with the filtered state present the loss filter starts, 50 ms while the guard is
active and 5 ms otherwise (R40). -/
def execContactFall (i : BayId) (s : State) : Result :=
  let s1 := s.setContactLine i false
  .next (if !s.lines.contact.get i then s
    else if (s.bay i).contact then
      s1.onBay i fun y => { y with loss := some { elapsed := 0, long := guardActive s } }
    else s1)

/-- LOSS_FILTER_EXPIRY: the filter expires with the line still low, and the loss is taken (R40,
R43). -/
def execLossFilterExpiry (i : BayId) (s : State) : Result :=
  .next (if (s.bay i).loss.isSome && !s.lines.contact.get i then (s.contactLoss i).closeEvent
    else s)

/-! ### Release intent (R46 to R48) -/

/-- RELEASE_INTENT_CHANGE: a level that differs from the filtered state starts the filter, a return
to it cancels the change (R46). -/
def execReleaseIntentChange (i : BayId) (closed : Bool) (s : State) : Result :=
  .next (if s.lines.intent.get i = closed then s
    else (s.onLines fun l => { l with intent := l.intent.set i closed }).onBay i fun y =>
      { y with intentFilter :=
          if closed = y.intent then none else some (Timer.start Config.intentFilter) })

/-- For release intent UNLOCKED and LOCK_FAILED count as unlocked (R47, R60). -/
def LatchState.opens : LatchState → Bool
  | .unlocked | .lockFailed => true
  | .engaging | .locked | .disengaging => false

/-- An intent closing judged against the bay state and the latch (R47); with RETURN_PENDING set it
clears it and starts the release timer afresh (R48). -/
def State.intentClosing (s : State) (i : BayId) : State :=
  let y := s.bay i
  if !y.latch.opens then s.raise (baySpace i) .releaseDenied
  else if y.state = .online then (s.moveBay i .releasing).startRelease i
  else if y.state = .releasing && y.returnPending then
    (s.onIndications i fun y => { y with returnPending := false }).startRelease i
  else s

/-- A RELEASING bay is to return to ONLINE: at once with the guard CALM, held back as RETURN_PENDING
while it is active; its release timer stops (R48, R54). -/
def State.returnFromRelease (s : State) (i : BayId) : State :=
  if guardActive s then s.onIndications i fun y => { y with returnPending := true, timer := none }
  else s.moveBay i .online

/-- An intent reopening (R48). -/
def State.intentReopening (s : State) (i : BayId) : State :=
  if (s.bay i).state = .releasing then s.returnFromRelease i else s

/-- INTENT_FILTER_EXPIRY: the change is taken; a closing is handed to the mode controller whatever
its outcome (R46, R47). -/
def execIntentFilterExpiry (i : BayId) (s : State) : Result :=
  let closed := s.lines.intent.get i
  let s1 := s.onBay i fun y => { y with intentFilter := none, intent := closed }
  .next (if (s.bay i).intentFilter.isNone then s
    else if closed then ((s1.intentClosing i).wakeEvent .releaseIntent).closeEvent
    else (s1.intentReopening i).closeEvent)

/-! ### The latch (R60, R61) -/

/-- A LOCK_CONFIRM line at its new level. -/
def State.setConfirmLine (s : State) (i : BayId) (level : Bool) : State :=
  s.onLines fun l => { l with lockConfirm := l.lockConfirm.set i level }

/-- LOCK_CONFIRM_RISE. -/
def execLockConfirmRise (i : BayId) (s : State) : Result :=
  .next (if s.lines.lockConfirm.get i then s
    else ((s.setConfirmLine i true).onBay i Bay.confirmRose).syncPins)

/-- LOCK_CONFIRM_FALL. -/
def execLockConfirmFall (i : BayId) (s : State) : Result :=
  .next (if !s.lines.lockConfirm.get i then s
    else ((s.setConfirmLine i false).onBay i Bay.confirmFell).syncPins)

/-- ENGAGE_LIMIT_EXPIRY: LOCK_FAILED, the solenoid released, LATCH_FAULT (R60). -/
def execEngageLimitExpiry (i : BayId) (s : State) : Result :=
  .next (if (s.bay i).latch = .engaging && (s.bay i).latchLimit.isSome then
      ((s.onBay i fun y =>
        { y with latch := .lockFailed, latchLimit := none, solenoid := false }).syncPins).raise
        (baySpace i) .latchFault
    else s)

/-- DISENGAGE_LIMIT_EXPIRY: UNLOCKED with the solenoid released, LATCH_FAULT (R61). -/
def execDisengageLimitExpiry (i : BayId) (s : State) : Result :=
  .next (if (s.bay i).latch = .disengaging && (s.bay i).latchLimit.isSome then
      ((s.onBay i fun y =>
        { y with latch := .unlocked, latchLimit := none, solenoid := false }).syncPins).raise
        (baySpace i) .latchFault
    else s)

/-! ### ALERT, PARK_ACK, adapter -/

/-- ALERT_ASSERTED (R13). -/
def execAlertAsserted (i : BayId) (s : State) : Result :=
  .next (if (s.bay i).state.traffic then
      ((s.onTraffic i fun t => { t with alert := true }).arbitrate i).closeEvent
    else s)

/-- PARK_ACK_CHANGE: a rise while PARK is in force sets the mark; a fall does not clear it (R147). -/
def execParkAckChange (level : Bool) (s : State) : Result :=
  let s1 := s.onLines fun l => { l with parkAck := level }
  .next (if level && !s.lines.parkAck && hasAction s.drop.inForce .park then
      s1.onDrop fun d => { d with parkMark := true }
    else s1)

/-- A 10 ms filter after its line or code stands at a new level: idle where the level is the one
held, running on where it did not change, started afresh where it did (R77). -/
def nextFilter (differs changed : Bool) (f : Option Timer) : Option Timer :=
  if !differs then none
  else if changed || f.isNone then some (Timer.start Config.adapterFilter)
  else f

/-- The two adapter filters after the sense line and the pins stand at new levels; the code filter
runs only while the adapter is present (R77). -/
def Supply.senseChange (old : Lines) (present : Bool) (code : Fin 4) (u : Supply) : Supply :=
  { u with
    presenceFilter :=
      nextFilter (present != u.adapter.isSome) (present != old.adapterSense) u.presenceFilter,
    codeFilter := match u.adapter with
      | some c => nextFilter (code != c) (code != old.ratingPins) u.codeFilter
      | none => none }

/-- ADAPTER_SENSE_CHANGE (R77). -/
def execAdapterSenseChange (present : Bool) (code : Fin 4) (s : State) : Result :=
  .next ((s.onLines fun l => { l with adapterSense := present, ratingPins := code }).onSupply
    (Supply.senseChange s.lines present code))

/-- An adapter change taken: ADAPTER_CHANGED, an adapter-change event, the re-evaluation (R77). -/
def State.adapterChanged (s : State) (a : Option (Fin 4)) : State :=
  ((((s.onSupply fun u => { u with adapter := a }).raise .supply .adapterChanged).wakeEvent
    .adapterChange).owe .other).closeEvent

/-- ADAPTER_FILTER_EXPIRY: a presence arrival with the code on the pins, a departure, or a code
change while present (R77). -/
def execAdapterFilterExpiry (f : AdapterFilter) (s : State) : Result :=
  .next (match f with
    | .presence =>
        if s.supply.presenceFilter.isSome then
          (s.onSupply fun u => { u with presenceFilter := none, codeFilter := none }).adapterChanged
            (if s.lines.adapterSense then some s.lines.ratingPins else none)
        else s
    | .code =>
        if s.supply.codeFilter.isSome && s.supply.adapter.isSome then
          (s.onSupply fun u => { u with codeFilter := none }).adapterChanged
            (some s.lines.ratingPins)
        else s)

end Sys2Proof.Machine
end

