-- ==== Sys2Proof/Machine/LinkCommands.lean ====
section
/-!
DEFINITION. The receiver and the transmitter: BAD_FRAME, TRUNCATED, BAD_KIND, PACKET_SENT,
BYTE_RECEIVED.
-/

namespace Sys2Proof.Machine

/-- BAD_FRAME: a frame with a bad LEN, a failed CHECK or a byte in error is discarded (R181). The
three causes act alike. -/
def execBadFrame (_cause : FrameFault) (s : State) : Result :=
  .next (if s.lines.resetN then s.discardFrame else s)

/-- TRUNCATED: the inter-byte timer expires in a partial packet (R181). -/
def execTruncated (s : State) : Result :=
  .next (if s.link.interByte.isSome then (s.onLink Link.hunt).raise .hub .truncated else s)

/-- BAD_KIND: a completed packet whose KIND names no request kind (R182). -/
def execBadKind (tag kind dest : Byte) (offset : Half) (rest : List Byte) (s : State) : Result :=
  .next (s.receivePacket
    { tag := tag, kind := kind, dest := dest, offset := offset, rest := rest })

/-- PACKET_SENT: the packet's last byte has left; the arbiter chooses the next (R189). With nothing
being sent there is nothing to end. -/
def execPacketSent (s : State) : Result :=
  .next (if s.link.sending.isSome then (s.onLink fun l => { l with sending := none }).transmit
    else s)

/-- BYTE_RECEIVED: one byte at the receiver, discarded while RESET_N is low (R181, R191; log 7). -/
def execByteReceived (b : RxByte) (s : State) : Result :=
  .next (if s.lines.resetN then s.receiveByte b else s)

end Sys2Proof.Machine
end

