-- ==== Sys2Proof/Machine/MotionCommands.lean ====
section
/-!
DEFINITION. The motion unit's commands.
-/

namespace Sys2Proof.Machine

/-- ACCEL_SAMPLE_ARRIVAL (R129). -/
def execAccelSampleArrival (x y z : Half) (s : State) : Result :=
  .next (s.accelArrival x.toInt y.toInt z.toInt).closeEvent

/-- ACCEL_STALE_EXPIRY (R131): the timer runs at all times; after an arrival that restarted it, the
expiry finds nothing to end. -/
def execAccelStaleExpiry (s : State) : Result :=
  .next (if ranDown (some s.motion.accel.stale) then s.accelStale.closeEvent else s)

end Sys2Proof.Machine
end

