-- ==== Sys2Proof/Machine/RequestCommands.lean ====
section
/-!
DEFINITION. The requests of the trunk link: READ, WRITE, PACK_READ, PACK_WRITE, CONTROL_RESET,
FULL_RESET, MODE, INJECT, and INJECTED_SAMPLE. Each is its packet, handed to the receiver (log 7).
-/

namespace Sys2Proof.Machine

/-- READ (R183). -/
def execRead (tag dest : Byte) (offset : Half) (count : Byte) (s : State) : Result :=
  .next (s.receivePacket (readPacket tag dest offset count))

/-- WRITE (R184). -/
def execWrite (tag dest : Byte) (offset : Half) (data : List Byte) (s : State) : Result :=
  .next (s.receivePacket (writePacket tag dest offset data))

/-- PACK_READ (R7). -/
def execPackRead (tag : Byte) (i : BayId) (offset : Half) (count : Byte) (s : State) : Result :=
  .next (s.receivePacket (readPacket tag (passDest i) offset count))

/-- PACK_WRITE (R7). -/
def execPackWrite (tag : Byte) (i : BayId) (offset : Half) (data : List Byte) (s : State) :
    Result :=
  .next (s.receivePacket (writePacket tag (passDest i) offset data))

/-- CONTROL_RESET: a RESET of scope 0x0001 (R191, R194). -/
def execControlReset (tag dest : Byte) (s : State) : Result :=
  .next (s.receivePacket { tag := tag, kind := 3, dest := dest, offset := 1, rest := [] })

/-- FULL_RESET: a RESET of scope 0x0002 (R191, R194). -/
def execFullReset (tag dest : Byte) (s : State) : Result :=
  .next (s.receivePacket { tag := tag, kind := 3, dest := dest, offset := 2, rest := [] })

/-- MODE (R171). -/
def execMode (tag dest : Byte) (code : Half) (s : State) : Result :=
  .next (s.receivePacket { tag := tag, kind := 4, dest := dest, offset := code, rest := [] })

/-- INJECT (R166). -/
def execInject (tag dest : Byte) (source : Half) (count : Byte) (samples : List Byte) (s : State) :
    Result :=
  .next (s.receivePacket
    { tag := tag, kind := 5, dest := dest, offset := source, rest := count :: samples })

/-- INJECTED_SAMPLE (R167). -/
def execInjectedSample (s : State) : Result := .next s.injectedSample

end Sys2Proof.Machine
end

