-- ==== Sys2Proof/Machine/SupplyCommands.lean ====
section
/-!
DEFINITION. The supply controller's samples and timers, the ends of transactions, and the packs' and
bays' timers. An expiry finds nothing to end where its timer does not run (log 4).
-/

namespace Sys2Proof.Machine

/-- A bridge sample at its record: the voltage and its time; EXHAUSTED cleared by one at or above the
ready threshold in NORMAL (R75, R76); the converter's next interval. -/
def Supply.sample (now mv : Nat) (u : Supply) : Supply :=
  { u with
    bridgeVoltage := some ⟨mv, now⟩,
    exhausted := u.exhausted && !(u.state == .normal && u.readyThreshold ≤ mv),
    converter := Timer.start Config.bridgeInterval }

/-- BRIDGE_SAMPLE: the record holds 0 to 5,000 mV (R75; log 22). -/
def execBridgeSample (mv : Half) (s : State) : Result :=
  let v := min 5000 mv.toNat
  .next (((s.onSupply (Supply.sample s.uptime v)).owe (.bridgeSample v)).closeEvent)

/-- The end that a pack's answer gives a transaction (R1). -/
def endingOf : PackAnswer → Ending
  | .ack data => .ack data
  | .nack => .nack

/-- TRANSACTION_COMPLETION: the pack's answer ends the transaction on the bus; the late answer of one
that has ended already is discarded (R1; log 8). -/
def execTransactionCompletion (i : BayId) (answer : Arrival PackAnswer) (s : State) : Result :=
  .next (match answer with
    | .own a => (s.complete i (endingOf a)).closeEvent
    | .late _ => s)

/-- TRANSACTION_LIMIT_EXPIRY: the transaction ends TIMEOUT; after an answer that was taken first the
expiry finds nothing to end (R1). -/
def execTransactionLimitExpiry (i : BayId) (s : State) : Result :=
  .next (if ranDown ((s.bay i).traffic.bus.map Transaction.limit) then
      (s.complete i .timeout).closeEvent
    else s)

/-- POLL_TIMER_EXPIRY: the timer restarts with the period then in force; a round begins unless one is
in progress (R17, R18). -/
def execPollTimerExpiry (i : BayId) (s : State) : Result :=
  .next (if (s.bay i).traffic.pollTimer.isSome then
      ((s.onTraffic i fun t =>
        { t with pollTimer := (pollPeriod s.policy s.ctl.mode).map Timer.start,
                 round := some (t.round.getD 0) }).arbitrate i).closeEvent
    else s)

/-- A bay's timer of a kind runs: it is neither stopped nor paused (R55). -/
def Bay.timerRuns (k : BayTimerKind) (y : Bay) : Bool :=
  match y.timer with
  | some t => t.kind == k && !t.paused
  | none => false

/-- SETTLE_TIMER_EXPIRY: a SEATED bay moves to IDENTIFYING (R42, R44). -/
def execSettleTimerExpiry (i : BayId) (s : State) : Result :=
  .next (if (s.bay i).timerRuns .settle && (s.bay i).state = .seated then
      ((s.enterIdentifying i).arbitrate i).closeEvent
    else s)

/-- RELEASE_TIMER_EXPIRY: a RELEASING bay with contact returns to ONLINE, or holds the return while
the guard is active (R48). -/
def execReleaseTimerExpiry (i : BayId) (s : State) : Result :=
  .next (if (s.bay i).timerRuns .release && (s.bay i).state = .releasing && (s.bay i).contact then
      (s.returnFromRelease i).closeEvent
    else s)

/-- START_UP_HOLD_EXPIRY (R70). -/
def execStartUpHoldExpiry (s : State) : Result :=
  .next (if s.supply.hold.isSome then
      ((s.onSupply fun u => { u with hold := none }).owe .holdExpiry).closeEvent
    else s)

/-- BRIDGE_RUN_EXPIRY (R72). -/
def execBridgeRunExpiry (s : State) : Result :=
  .next (if s.supply.bridgeRun.isSome then
      ((s.onSupply fun u => { u with bridgeRun := none }).owe .runExpiry).closeEvent
    else s)

/-- SAVE_TIMER_EXPIRY (R73). -/
def execSaveTimerExpiry (s : State) : Result :=
  .next (if s.supply.save.isSome then
      ((s.onSupply fun u => { u with save := none }).owe .saveExpiry).closeEvent
    else s)

end Sys2Proof.Machine
end

