-- ==== Sys2Proof/Machine/Time.lean ====
section
/-!
DEFINITION. Resets and time: POWER_ON_RESET, RESET_N_FALL, RESET_N_RISE, UPTIME_TICK.
-/

namespace Sys2Proof.Machine

/-! ### One millisecond (R176; log 5) -/

/-- A loss filter one millisecond older (R40). -/
def LossFilter.tick (f : LossFilter) : LossFilter := { f with elapsed := f.elapsed + 1 }

/-- A settle or release timer one millisecond on, unless it is paused (R55). -/
def BayTimer.tick (t : BayTimer) : BayTimer :=
  if t.paused then t else { t with timer := t.timer.tick }

/-- A bay's timers one millisecond on. -/
def Bay.tick (y : Bay) : Bay :=
  { y with
    loss := y.loss.map LossFilter.tick, intentFilter := tickOpt y.intentFilter,
    timer := y.timer.map BayTimer.tick, latchLimit := tickOpt y.latchLimit,
    traffic := { y.traffic with
      pollTimer := tickOpt y.traffic.pollTimer,
      bus := y.traffic.bus.map fun x => { x with limit := x.limit.tick } } }

/-- The supply controller's timers, filters and converter one millisecond on. -/
def Supply.tick (u : Supply) : Supply :=
  { u with
    hold := tickOpt u.hold, bridgeRun := tickOpt u.bridgeRun, save := tickOpt u.save,
    presenceFilter := tickOpt u.presenceFilter, codeFilter := tickOpt u.codeFilter,
    converter := u.converter.tick }

/-- A sensor's timers one millisecond on. -/
def Sensor.tick (r : Sensor) : Sensor :=
  { r with stale := tickOpt r.stale, conversion := tickOpt r.conversion }

/-- The uptime after one more millisecond: it saturates (R176). -/
def nextUptime (t : Nat) : Nat := min Config.uptimeMax (t + 1)

/-- One millisecond: the uptime rises, and every running timer runs down (R176; log 5). -/
def State.tick (s : State) : State :=
  { s with
    uptime := nextUptime s.uptime,
    link := { s.link with interByte := tickOpt s.link.interByte },
    bays := ⟨s.bays.a.tick, s.bays.b.tick⟩,
    supply := s.supply.tick,
    light := { s.light with front := s.light.front.tick, rear := s.light.rear.tick },
    back := { s.back with tick := tickOpt s.back.tick },
    motion := { s.motion with accel := { s.motion.accel with stale := s.motion.accel.stale.tick } } }

/-! ### The commands -/

/-- POWER_ON_RESET (R179). -/
def execPowerOnReset (s : State) : Result := .next s.powerOn

/-- RESET_N_FALL: a full reset; while the line is low the receiver discards every byte and the
transmitter begins no packet (R191). -/
def execResetNFall (s : State) : Result :=
  .next (if s.lines.resetN then (s.onLines fun l => { l with resetN := false }).fullReset else s)

/-- RESET_N_RISE: the receiver is in HUNT and the transmitter IDLE (R191). -/
def execResetNRise (s : State) : Result :=
  .next (if s.lines.resetN then s
    else (s.onLines fun l => { l with resetN := true }).onLink
      fun l => { l.hunt with sending := none })

/-- UPTIME_TICK (R176). -/
def execUptimeTick (s : State) : Result := .next s.tick

end Sys2Proof.Machine
end

