-- ==== Sys2Proof/Machine/WriteCommands.lean ====
section
/-!
DEFINITION. The writes with a behaviour of their own: each is a WRITE of its locations (R184, R198).
-/

namespace Sys2Proof.Machine

/-- The offset of bay A's or bay B's member of a pair of one-byte locations. -/
def bayOffset (base : Nat) : BayId → Half
  | .a => BitVec.ofNat 16 base
  | .b => BitVec.ofNat 16 (base + 1)

/-- WRITE_ONE_CLEAR: a WRITE to the sticky flags of an identity record (R186). -/
def execWriteOneClear (tag : Byte) (sp : Space) (mask : Half) (s : State) : Result :=
  .next (s.receivePacket (writePacket tag (spaceDest sp) 2 (le16 mask.toNat)))

/-- BAY_COMMAND_TABLE_WRITE: whole entries from `entry` on (R3, R197). -/
def execBayCommandTableWrite (tag : Byte) (entry : Fin 32) (data : List Byte) (s : State) :
    Result :=
  .next (s.receivePacket
    (writePacket tag (spaceDest .policy) (BitVec.ofNat 16 (0x100 + 8 * entry.val)) data))

/-- ADMISSION_TABLE_WRITE: whole entries from `entry` on (R31, R197). -/
def execAdmissionTableWrite (tag : Byte) (entry : Fin 8) (data : List Byte) (s : State) : Result :=
  .next (s.receivePacket
    (writePacket tag (spaceDest .policy) (BitVec.ofNat 16 (0x200 + 16 * entry.val)) data))

/-- DROP_ACTION_TABLE_WRITE: entries from `entry` on (R145, R197). -/
def execDropActionTableWrite (tag : Byte) (entry : Fin 6) (data : List Byte) (s : State) : Result :=
  .next (s.receivePacket
    (writePacket tag (spaceDest .motion) (BitVec.ofNat 16 (0x68 + entry.val)) data))

/-- LOCKOUT_LIMIT_WRITE (R21). -/
def execLockoutLimitWrite (tag : Byte) (i : BayId) (limit : Byte) (s : State) : Result :=
  .next (s.receivePacket (writePacket tag (spaceDest .policy) (bayOffset 5 i) [limit]))

/-- SENSOR_ENABLE_WRITE (R95). -/
def execSensorEnableWrite (tag : Byte) (i : SensorId) (value : Byte) (s : State) : Result :=
  .next (s.receivePacket
    (writePacket tag (spaceDest .light) (match i with | .front => 5 | .rear => 6) [value]))

/-- STALE_LIMIT_WRITE (R101). -/
def execStaleLimitWrite (tag : Byte) (value : Half) (s : State) : Result :=
  .next (s.receivePacket (writePacket tag (spaceDest .light) 0x0C (le16 value.toNat)))

/-- L_MAX_WRITE (R116). -/
def execLMaxWrite (tag : Byte) (value : Half) (s : State) : Result :=
  .next (s.receivePacket (writePacket tag (spaceDest .light) 0x16 (le16 value.toNat)))

/-- Q_WRITE (R116). -/
def execQWrite (tag : Byte) (value : Half) (s : State) : Result :=
  .next (s.receivePacket (writePacket tag (spaceDest .light) 0x18 (le16 value.toNat)))

/-- SUPPLY_SETTING_WRITE (R87). -/
def execSupplySettingWrite (tag : Byte) (offset : Half) (data : List Byte) (s : State) : Result :=
  .next (s.receivePacket (writePacket tag (spaceDest .supply) offset data))

/-- ATTENTION_ENABLE_WRITE (R187). -/
def execAttentionEnableWrite (tag value : Byte) (s : State) : Result :=
  .next (s.receivePacket (writePacket tag (spaceDest .hub) 8 [value]))

/-- ALERT_FORWARDING_WRITE (R190). -/
def execAlertForwardingWrite (tag value : Byte) (s : State) : Result :=
  .next (s.receivePacket (writePacket tag (spaceDest .hub) 7 [value]))

/-- STREAM_CONTROL_WRITE (R161). -/
def execStreamControlWrite (tag : Byte) (st : StreamId) (enable divider : Byte) (s : State) :
    Result :=
  .next (s.receivePacket
    (writePacket tag (spaceDest .motion) (match st with | .accel => 0x70 | .light => 0x72)
      [enable, divider]))

/-- STIMULUS_CONTROL_WRITE (R165). -/
def execStimulusControlWrite (tag on sources drives : Byte) (s : State) : Result :=
  .next (s.receivePacket (writePacket tag (spaceDest .motion) 0x74 [on, sources, drives]))

end Sys2Proof.Machine
end

