-- ==== Sys2Proof/Machine/Dispatch.lean ====
section
/-!
DEFINITION. One arm per command: its meaning.
-/

namespace Sys2Proof.Machine

/-- A command's effect on everything but the queue. -/
def exec (i : Instr) (s : State) : Host.Outcome State Fault Refusal :=
  match i with
  | .powerOnReset => Sys2Proof.Machine.execPowerOnReset s
  | .resetNFall => Sys2Proof.Machine.execResetNFall s
  | .resetNRise => Sys2Proof.Machine.execResetNRise s
  | .uptimeTick => Sys2Proof.Machine.execUptimeTick s
  | .badFrame cause => Sys2Proof.Machine.execBadFrame cause s
  | .truncated => Sys2Proof.Machine.execTruncated s
  | .badKind tag kind dest offset rest => Sys2Proof.Machine.execBadKind tag kind dest offset rest s
  | .read tag dest offset count => Sys2Proof.Machine.execRead tag dest offset count s
  | .write tag dest offset data => Sys2Proof.Machine.execWrite tag dest offset data s
  | .packRead tag bay offset count => Sys2Proof.Machine.execPackRead tag bay offset count s
  | .packWrite tag bay offset data => Sys2Proof.Machine.execPackWrite tag bay offset data s
  | .controlReset tag dest => Sys2Proof.Machine.execControlReset tag dest s
  | .fullReset tag dest => Sys2Proof.Machine.execFullReset tag dest s
  | .mode tag dest code => Sys2Proof.Machine.execMode tag dest code s
  | .inject tag dest source count samples => Sys2Proof.Machine.execInject tag dest source count samples s
  | .injectedSample => Sys2Proof.Machine.execInjectedSample s
  | .readmit tag bay => Sys2Proof.Machine.execReadmit tag bay s
  | .clearInhibit tag bay => Sys2Proof.Machine.execClearInhibit tag bay s
  | .clearSuspect tag bay => Sys2Proof.Machine.execClearSuspect tag bay s
  | .lock tag bay => Sys2Proof.Machine.execLock tag bay s
  | .unlock tag bay => Sys2Proof.Machine.execUnlock tag bay s
  | .backlightOn tag => Sys2Proof.Machine.execBacklightOn tag s
  | .backlightOff tag => Sys2Proof.Machine.execBacklightOff tag s
  | .applyCurve tag => Sys2Proof.Machine.execApplyCurve tag s
  | .clearLog tag => Sys2Proof.Machine.execClearLog tag s
  | .wakeAck tag => Sys2Proof.Machine.execWakeAck tag s
  | .clearAllFlags tag => Sys2Proof.Machine.execClearAllFlags tag s
  | .writeOneClear tag space mask => Sys2Proof.Machine.execWriteOneClear tag space mask s
  | .bayCommandTableWrite tag entry data => Sys2Proof.Machine.execBayCommandTableWrite tag entry data s
  | .admissionTableWrite tag entry data => Sys2Proof.Machine.execAdmissionTableWrite tag entry data s
  | .dropActionTableWrite tag entry data => Sys2Proof.Machine.execDropActionTableWrite tag entry data s
  | .lockoutLimitWrite tag bay limit => Sys2Proof.Machine.execLockoutLimitWrite tag bay limit s
  | .sensorEnableWrite tag sensor value => Sys2Proof.Machine.execSensorEnableWrite tag sensor value s
  | .staleLimitWrite tag value => Sys2Proof.Machine.execStaleLimitWrite tag value s
  | .lMaxWrite tag value => Sys2Proof.Machine.execLMaxWrite tag value s
  | .qWrite tag value => Sys2Proof.Machine.execQWrite tag value s
  | .supplySettingWrite tag offset data => Sys2Proof.Machine.execSupplySettingWrite tag offset data s
  | .attentionEnableWrite tag value => Sys2Proof.Machine.execAttentionEnableWrite tag value s
  | .alertForwardingWrite tag value => Sys2Proof.Machine.execAlertForwardingWrite tag value s
  | .streamControlWrite tag stream enable divider => Sys2Proof.Machine.execStreamControlWrite tag stream enable divider s
  | .stimulusControlWrite tag on sources drives => Sys2Proof.Machine.execStimulusControlWrite tag on sources drives s
  | .pwrReqRise => Sys2Proof.Machine.execPwrReqRise s
  | .pwrReqFall => Sys2Proof.Machine.execPwrReqFall s
  | .contactRise bay => Sys2Proof.Machine.execContactRise bay s
  | .contactFall bay => Sys2Proof.Machine.execContactFall bay s
  | .lossFilterExpiry bay => Sys2Proof.Machine.execLossFilterExpiry bay s
  | .releaseIntentChange bay closed => Sys2Proof.Machine.execReleaseIntentChange bay closed s
  | .intentFilterExpiry bay => Sys2Proof.Machine.execIntentFilterExpiry bay s
  | .lockConfirmRise bay => Sys2Proof.Machine.execLockConfirmRise bay s
  | .lockConfirmFall bay => Sys2Proof.Machine.execLockConfirmFall bay s
  | .engageLimitExpiry bay => Sys2Proof.Machine.execEngageLimitExpiry bay s
  | .disengageLimitExpiry bay => Sys2Proof.Machine.execDisengageLimitExpiry bay s
  | .alertAsserted bay => Sys2Proof.Machine.execAlertAsserted bay s
  | .parkAckChange level => Sys2Proof.Machine.execParkAckChange level s
  | .adapterSenseChange present code => Sys2Proof.Machine.execAdapterSenseChange present code s
  | .adapterFilterExpiry filter => Sys2Proof.Machine.execAdapterFilterExpiry filter s
  | .bridgeSample mv => Sys2Proof.Machine.execBridgeSample mv s
  | .transactionCompletion bay answer => Sys2Proof.Machine.execTransactionCompletion bay answer s
  | .transactionLimitExpiry bay => Sys2Proof.Machine.execTransactionLimitExpiry bay s
  | .pollTimerExpiry bay => Sys2Proof.Machine.execPollTimerExpiry bay s
  | .settleTimerExpiry bay => Sys2Proof.Machine.execSettleTimerExpiry bay s
  | .releaseTimerExpiry bay => Sys2Proof.Machine.execReleaseTimerExpiry bay s
  | .startUpHoldExpiry => Sys2Proof.Machine.execStartUpHoldExpiry s
  | .bridgeRunExpiry => Sys2Proof.Machine.execBridgeRunExpiry s
  | .saveTimerExpiry => Sys2Proof.Machine.execSaveTimerExpiry s
  | .lightSampleArrival sensor count gain integration theta => Sys2Proof.Machine.execLightSampleArrival sensor count gain integration theta s
  | .conversionLimitExpiry sensor => Sys2Proof.Machine.execConversionLimitExpiry sensor s
  | .sensorRefusal sensor => Sys2Proof.Machine.execSensorRefusal sensor s
  | .lightStaleExpiry sensor => Sys2Proof.Machine.execLightStaleExpiry sensor s
  | .brightnessTick => Sys2Proof.Machine.execBrightnessTick s
  | .accelSampleArrival x y z => Sys2Proof.Machine.execAccelSampleArrival x y z s
  | .accelStaleExpiry => Sys2Proof.Machine.execAccelStaleExpiry s
  | .packetSent => Sys2Proof.Machine.execPacketSent s
  | .byteReceived byte => Sys2Proof.Machine.execByteReceived byte s

end Sys2Proof.Machine
end

