-- ==== Sys2Proof/Safety.lean ====
section
/-!
DEFINITION. What a sound state of the block is, in the terms the claims use: the capacities of its
lists, its latches, its panel, its outputs at pins, its mode, and the ranges of its settings. Each is
a promise the manual makes about every state between two events.
-/

namespace Sys2Proof.Machine

/-! ### Capacities -/

/-- At most four host requests in a bay's queue, the one on the bus among them (R9). -/
def Traffic.bounded (t : Traffic) : Prop := t.queueLength ≤ 4

/-- Both bays' queues within their capacity (R9). -/
def queuesBounded (b : Both Bay) : Prop := b.a.traffic.bounded ∧ b.b.traffic.bounded

/-- At most eight responses in the list (R188), at most one pending ALERT packet per bay (R190). -/
def Link.bounded (l : Link) : Prop :=
  l.responses.length ≤ 8 ∧ (l.alerts.map AlertPacket.bay).Nodup

/-- At most sixteen records (R157); the two counts within their ranges (R153, R158). -/
def DropLog.bounded (d : DropLog) : Prop :=
  d.log.length ≤ 16 ∧ d.drops ≤ 65535 ∧ d.index ≤ 15

/-- Every list and count of the block within its capacity (R9, R157, R158, R176, R188, R190). -/
structure State.Bounded (s : State) : Prop where
  link   : s.link.bounded
  queues : queuesBounded s.bays
  log    : s.drop.bounded
  uptime : s.uptime ≤ 4294967295

/-! ### Latches -/

/-- A latch follows its lock-reason set (R59 to R62): ENGAGING, LOCKED and LOCK_FAILED only with a
reason held; with a reason held it is UNLOCKED only in RELEASING; a RELEASING bay's latch is UNLOCKED
or LOCK_FAILED; the solenoid is driven in ENGAGING and LOCKED alone, and the confirm limit runs in
ENGAGING and DISENGAGING alone. -/
structure Bay.LatchSound (y : Bay) : Prop where
  needsReason : y.latch = .engaging ∨ y.latch = .locked ∨ y.latch = .lockFailed →
    y.reasons.held = true
  holds       : y.reasons.held = true → y.latch = .engaging ∨ y.latch = .locked ∨
    y.latch = .lockFailed ∨ (y.latch = .unlocked ∧ y.state = .releasing)
  releasing   : y.state = .releasing → y.latch = .unlocked ∨ y.latch = .lockFailed
  solenoid    : y.solenoid = (y.latch == .engaging || y.latch == .locked)
  limit       : y.latchLimit.isSome = (y.latch == .engaging || y.latch == .disengaging)

/-- Both latches follow their sets. -/
def State.LatchesSound (s : State) : Prop := s.bays.a.LatchSound ∧ s.bays.b.LatchSound

/-! ### The panel -/

/-- The output luminance stands within the ceiling of the allowance in force, the ceiling and the
drive word are those of the values held (R116, R117, R119), and the allowance is 0 where the supply
state gives none (R86). -/
structure State.PanelSound (s : State) : Prop where
  ceiling : s.back.lpow = powerCeiling s.back.lMax s.back.q s.back.pbl
  within  : s.back.lout ≤ s.back.lpow
  drive   : s.back.drive = driveWord s.back.lMax s.back.lout
  handed  : s.back.pbl = s.supply.pbl
  dark    : s.supply.state = .standby ∨ s.supply.state = .starting ∨ s.supply.state = .save →
    s.supply.pbl = 0

/-! ### Outputs at pins -/

/-- Unless stimulus keeps them undriven, the PARK pin, the solenoid pins and the last drive word sent
stand at their computed values (R119, R168). -/
def State.OutputsSound (s : State) : Prop :=
  undriven s = false →
    s.drop.parkPin = s.drop.parkLine ∧ s.bays.a.solenoidPin = s.bays.a.solenoid ∧
      s.bays.b.solenoidPin = s.bays.b.solenoid ∧ s.back.lastSent = s.back.drive

/-! ### The mode -/

/-- A light sensor is out of OFF exactly while it is enabled, and converts exactly while it is enabled
and not replaced (R95, R96, R106). -/
structure Sensor.ModeSound (active replaced : Bool) (r : Sensor) : Prop where
  enabled    : (r.condition != .off) = (active && r.enable)
  conversion : r.conversion.isSome = (r.condition != .off && !replaced)

/-- What the part mode fixes: WAKE is low in ACTIVE (R175), the tick timer runs in ACTIVE alone
(R110), outside ACTIVE the panel is dark with A and the stage results absent (R121), the sensors
follow the mode (R95), and the accelerometer's rate follows it while the guard is CALM (R130). -/
structure State.ModeSound (s : State) : Prop where
  wake  : s.ctl.mode = .active → s.ctl.wake = false
  tick  : s.back.tick.isSome = (s.ctl.mode == .active)
  dark  : s.ctl.mode ≠ .active →
    s.back.lout = 0 ∧ s.back.drive = 0 ∧ s.back.filtered = none ∧ s.back.stages = none
  front : s.light.front.ModeSound (s.ctl.mode == .active) (s.streams.replaces .front)
  rear  : s.light.rear.ModeSound (s.ctl.mode == .active) (s.streams.replaces .rear)
  rate  : s.motion.accel.pendingOdr.getD s.motion.accel.odr = modeOdr s.ctl.mode
  calm  : s.motion.guard = .calm → s.motion.accel.pendingOdr = none

/-! ### Settings -/

/-- Every PACK_POLICY setting within its range (R1, R17, R21, R64). -/
def Policy.inRange (p : Policy) : Prop :=
  p.lockoutLimit.a ≤ 15 ∧ p.lockoutLimit.b ≤ 15 ∧
  10 ≤ p.transactionLimit ∧ p.transactionLimit ≤ 100 ∧
  250 ≤ p.pollPeriod ∧ p.pollPeriod ≤ 5000 ∧
  50 ≤ p.settleTime ∧ p.settleTime ≤ 1000 ∧ 2 ≤ p.releaseTime ∧ p.releaseTime ≤ 60

/-- Every SUPPLY setting within its range (R87). -/
def Supply.inRange (u : Supply) : Prop :=
  3400 ≤ u.readyThreshold ∧ u.readyThreshold ≤ 4100 ∧ 10 ≤ u.bridgeLimit ∧ u.bridgeLimit ≤ 120 ∧
  1 ≤ u.saveWindow ∧ u.saveWindow ≤ 30 ∧ 5000 ≤ u.bridgePower ∧ u.bridgePower ≤ 40000 ∧
  u.normalReserve ≤ 200000 ∧ u.bridgeReserve ≤ 200000 ∧
  50 ≤ u.shareWindow ∧ u.shareWindow ≤ 1000

/-- Every light setting within its range (R107). -/
def Light.inRange (u : Light) : Prop :=
  1 ≤ u.front.trim ∧ u.front.trim ≤ 8191 ∧ 1 ≤ u.rear.trim ∧ u.rear.trim ≤ 8191 ∧
  200 ≤ u.staleLimit ∧ u.staleLimit ≤ 5000 ∧ u.weight ≤ 256

/-- Every backlight setting within its range (R125). -/
def Backlight.inRange (k : Backlight) : Prop :=
  20 ≤ k.tickPeriod ∧ k.tickPeriod ≤ 200 ∧ k.riseShift ≤ 7 ∧ k.fallShift ≤ 7 ∧
  -50 ≤ k.bias ∧ k.bias ≤ 50 ∧ k.lMin ≤ 100 ∧ 100 ≤ k.lMax ∧ k.lMax ≤ 2000 ∧
  1 ≤ k.q ∧ k.q ≤ 4095 ∧ 1 ≤ k.rUp ∧ k.rUp ≤ 2000 ∧ 1 ≤ k.rDn ∧ k.rDn ≤ 2000

/-- The guard's settings within their ranges, and the three impact thresholds strictly increasing
(R133). -/
def Motion.inRange (m : Motion) : Prop :=
  100 ≤ m.freeFallMg ∧ m.freeFallMg ≤ 800 ∧ 10 ≤ m.freeFallTime ∧ m.freeFallTime ≤ 200 ∧
  1000 ≤ m.lightMg ∧ m.lightMg < m.hardMg ∧ m.hardMg < m.severeMg ∧ m.severeMg ≤ 16000

/-- Every setting of the block within its range. -/
structure State.SettingsInRange (s : State) : Prop where
  policy : s.policy.inRange
  supply : s.supply.inRange
  light  : s.light.inRange
  back   : s.back.inRange
  motion : s.motion.inRange

/-! ### The working curve -/

/-- A curve the tick may read: 2 to 16 points, the lux values strictly increasing, within 200,000 lux
and 2,000 nits (R109, R113, R123). -/
def curveValid (c : List CurvePoint) : Prop :=
  2 ≤ c.length ∧ c.length ≤ 16 ∧ increasing c = true ∧ ∀ p ∈ c, p.lux ≤ 200000 ∧ p.nits ≤ 2000

/-- The curves (R109, R122, R123): the working curve may be read, the staged one has its sixteen
slots. -/
structure State.CurvesSound (s : State) : Prop where
  working : curveValid s.back.working
  slots   : s.back.staged.length = 16
  cap     : s.back.lMax ≤ 2000

/-! ### Tables -/

/-- The three tables keep their sizes (R3, R31, R145); no used entry of the first two is one that a
write refuses, and no two used entries share a code or a class. -/
structure State.TablesSound (s : State) : Prop where
  commands  : s.policy.commands.length = 32
  codes     : codesUnique s.policy.commands = true
  entries   : ∀ e ∈ s.policy.commands, e.sound = true
  admission : s.policy.admission.length = 8
  classes   : classesUnique s.policy.admission = true
  windows   : ∀ e ∈ s.policy.admission, e.sound = true
  actions   : s.drop.table.length = 6

/-! ### Pack records -/

/-- Live values only with an identity part, an identity part only outside EMPTY and SEATED (R26), and
an identification only in IDENTIFYING (R11, R15). -/
structure Bay.RecordSound (y : Bay) : Prop where
  live   : y.record.identity = none → y.record.voltage = none ∧ y.record.current = none ∧
    y.record.temperature = none ∧ y.record.chargePct = none ∧ y.record.remaining = none ∧
    y.record.full = none ∧ y.record.alarms = none
  placed : y.record.identity.isSome = true → y.state ≠ .empty ∧ y.state ≠ .seated
  ident  : y.traffic.ident.isSome = true → y.state = .identifying

/-- Both records are sound. -/
def State.RecordsSound (s : State) : Prop := s.bays.a.RecordSound ∧ s.bays.b.RecordSound

/-! ### The drop log -/

/-- Only the record at the newest position of the drop log may be OPEN (R157). -/
def State.LogSound (s : State) : Prop :=
  ∀ (n : Nat) (r : DropRecord), s.drop.log[n]? = some r → r.isOpen = true →
    n + 1 = s.drop.log.length

/-! ### The supply path -/

/-- A bay's gates stand as the last re-evaluation left them: a role only in NORMAL with the adapter
absent, for a bay that is eligible or keeps its path (R79 to R81); charging only for a charge
candidate (R82, R83); LAST_SUPPLY held exactly where its condition holds (R84). -/
structure State.GateSound (s : State) (i : BayId) : Prop where
  role       : (s.bay i).role ≠ .off → s.supply.state = .normal ∧ s.supply.adapter = none
  candidate  : (s.bay i).role = .candidate → (s.bay i).eligible = true
  kept       : (s.bay i).role = .kept → (s.bay i).keepsPath = true
  charging   : (s.bay i).charging = true → (chargeCandidate s.policy s.supply (s.bay i)).isSome = true
  lastSupply : (s.bay i).reasons.lastSupply = soleSupply s i

/-- The supply path is current: both bays' gates, at most one bay charging (R83), and the power
figures of the state as it stands (R85, R86). -/
structure State.SupplyCurrent (s : State) : Prop where
  a      : s.GateSound .a
  b      : s.GateSound .b
  single : (s.bays.a.charging && s.bays.b.charging) = false
  avail  : s.supply.pAvail = availablePower s
  pbl    : s.supply.pbl = powerAllowance s.supply.pAvail s.supply.reserve s.back.lMax s.back.q

/-! ### Between events -/

/-- No re-evaluation is owed between two events (log 9). -/
def State.Settled (s : State) : Prop := s.due = none

/-- No bay holds TRIP_DEFERRED. -/
def State.NoTrips (s : State) : Prop := s.bays.a.tripDeferred = false ∧ s.bays.b.tripDeferred = false

/-- The hub takes a packet at once: RESET_N is high (R191), no INJECT is being handled (R182), the
response list has room (R188), no wake is needed (R172). -/
structure State.Takes (s : State) : Prop where
  resetN  : s.lines.resetN = true
  inject  : s.link.inject = none
  room    : s.link.responses.length < 8
  awake   : s.ctl.mode ≠ .dormant
  settled : s.due = none

/-- The state once a whole packet has been received: the receiver hunts for the next (R181). -/
def State.heard (s : State) : State :=
  { s with link := { s.link with rx := .hunt, interByte := none } }

/-- The response to a request, handed to the transmitter (R188). -/
def State.answered (s : State) (tag dest : Byte) (offset : Half) (o : Answer) (data : List Byte) :
    State :=
  s.respond { tag := tag, dest := dest, offset := offset, outcome := o, data := data }

/-- The sticky flags with a mask set in one space (R185). -/
def SpaceFlags.raised (fs : SpaceFlags) (sp : Space) (mask : Half) : SpaceFlags :=
  fs.set sp (fs.get sp ||| mask)

/-- The bytes of a packet on the wire: SYNC, LEN, the body, CHECK (R180). -/
def Packet.frame (p : Packet) : List Byte :=
  let lenBody := BitVec.ofNat 8 p.len :: p.body
  0xC3 :: (lenBody ++ [crc8 lenBody])

/-- Responses handed to the transmitter one after another (R22, R188). -/
def State.respondAll (s : State) : List Response → State
  | [] => s
  | r :: rs => (s.respond r).respondAll rs

/-! ### A change of part mode -/

/-- A sensor at a change of part mode to `m` (R95): enabled from OFF, disabled from any other
condition, and otherwise as it was. -/
structure Sensor.ModeEntered (m : PartMode) (replaced : Bool) (r r' : Sensor) : Prop where
  starts : m = .active → r.enable = true → r.condition = .off → r' = { r with
    condition := .starting, failures := 0, discardOwed := true,
    conversion := if replaced then r.conversion
      else some ⟨conversionMs r.step + 25, conversionMs r.step + 25⟩ }
  stays  : m = .active → r.enable = true → r.condition ≠ .off → r' = r
  off    : m ≠ .active ∨ r.enable = false → r.condition = .off → r' = r
  stops  : m ≠ .active ∨ r.enable = false → r.condition ≠ .off → r' = { r with
    condition := .off, conversion := none, sample := none, stale := none, failures := 0 }

/-- `t` is `s` after a change of part mode to `m`, which is not the mode that `s` holds (R170): WAKE
low in ACTIVE (R175), the poll timers (R17), the sensors (R95), the tick timer and the panel (R110,
R121), the accelerometer's rate (R130), the streams on entry to DORMANT (R162), and nothing else. -/
structure State.ModeEntered (s t : State) (m : PartMode) : Prop where
  frame   : t = { s with ctl := t.ctl, bays := t.bays, light := t.light, back := t.back,
                         motion := t.motion, streams := t.streams, link := t.link }
  ctl     : t.ctl = { s.ctl with mode := m, wake := s.ctl.wake && m != .active }
  polls   : ∀ i, t.bay i = { s.bay i with traffic :=
    if m = .dormant then { (s.bay i).traffic with pollTimer := none, round := none }
    else if (s.bay i).state.polls then { (s.bay i).traffic with
      pollTimer := (pollPeriod s.policy m).map fun p => ⟨p, p⟩ }
    else (s.bay i).traffic }
  light   : t.light = { s.light with front := t.light.front, rear := t.light.rear }
  front   : s.light.front.ModeEntered m (s.streams.replaces .front) t.light.front
  rear    : s.light.rear.ModeEntered m (s.streams.replaces .rear) t.light.rear
  enters  : m = .active →
    t.back = { s.back with tick := some ⟨s.back.tickPeriod, s.back.tickPeriod⟩ }
  leaves  : s.ctl.mode = .active → t.back = { s.back with
    tick := none, filtered := none, stages := none, lout := 0, drive := 0,
    lastSent := if undriven s then s.back.lastSent else 0 }
  between : m ≠ .active → s.ctl.mode ≠ .active → t.back = s.back
  rate    : s.motion.guard = .calm → s.motion.accel.odr ≠ modeOdr m → t.motion = { s.motion with
    accel := { s.motion.accel with
      condition := .starting, discards := 4, odr := modeOdr m,
      stale := ⟨(modeOdr m).staleLimit, (modeOdr m).staleLimit⟩ } }
  same    : s.motion.guard = .calm → s.motion.accel.odr = modeOdr m → t.motion = s.motion
  later   : s.motion.guard ≠ .calm → t.motion = { s.motion with
    accel := { s.motion.accel with pendingOdr := some (modeOdr m) } }
  streams : t.streams = if m = .dormant then { s.streams with
      accel := { s.streams.accel with count := 0 }, light := { s.streams.light with count := 0 } }
    else s.streams
  link    : t.link = if m = .dormant then { s.link with accelSlot := none, lightSlot := none }
    else s.link

/-! ### The guard's return -/

/-- `u` is `s` after a return of the guard to CALM without a trigger (R142, R150): the working record
is cleared, and every lasting action in force is withdrawn. -/
structure State.CalmAgain (s u : State) : Prop where
  guard    : u.motion.guard = .calm
  work     : u.motion.work = .clear
  inForce  : u.drop.inForce = 0
  episode  : u.drop.episode = 0
  record   : u.drop.episodeRecord = false
  parkLine : u.drop.parkLine = false
  parkMark : u.drop.parkMark = s.drop.parkMark
  hold     : hasAction s.drop.inForce .hold = true → u.holdMask = 0
  lock     : hasAction s.drop.inForce .lock = true →
    u.bays.a.reasons.guard = false ∧ u.bays.b.reasons.guard = false

/-- Commands run one after another. -/
def runCommands : List Instr → State → Result
  | [], s => .next s
  | c :: cs, s =>
      match exec c s with
      | .next t => runCommands cs t
      | .fault f => .fault f
      | .refused r => .refused r

end Sys2Proof.Machine
end

