-- ==== Sys2Proof/Certificates/Slice0/Obligations.lean ====
section
/-!
DEFINITION. The statements for the provers, in the order of OBLIGATIONS.json.
-/

open Sys2Proof Sys2Proof.Machine

/-! ### The queue of commands -/

/-- One step takes the command at the front of the queue, with the queue's rest behind it. With no
command waiting the block idles: the model's choice (log 6). -/
def Obligations.StepTakesFrontCommand : Prop :=
  ∀ s : State,
    (∀ (c : Instr) (q : List Instr), s.pending = c :: q →
      step s = exec c { s with pending := q }) ∧
    (s.pending = [] → step s = .next s)

/-- Every command has its effect in every state; no command touches the queue or the factory trim
store (R177), and none but UPTIME_TICK and POWER_ON_RESET changes the uptime (R176). That a command
still has its effect where the manual gives its event no place (an expiry of a timer that does not
run, a late sample) is the model's reading (logs 4 and 8). -/
def Obligations.EveryCommandCompletes : Prop :=
  ∀ (c : Instr) (s : State), ∃ t, exec c s = .next t ∧
    t.pending = s.pending ∧ t.store = s.store ∧
    (c ≠ .uptimeTick → c ≠ .powerOnReset → t.uptime = s.uptime)

/-! ### Invariants -/

/-- The state after reset meets every invariant of the statements below. -/
def Obligations.ResetMeetsInvariants : Prop :=
  State.reset.Bounded ∧ State.reset.LatchesSound ∧ State.reset.PanelSound ∧
  State.reset.OutputsSound ∧ State.reset.ModeSound ∧ State.reset.SettingsInRange ∧
  State.reset.CurvesSound ∧ State.reset.TablesSound ∧ State.reset.RecordsSound ∧
  State.reset.LogSound ∧ State.reset.SupplyCurrent ∧ State.reset.Settled

/-- Every step keeps the lists and the counts within their capacities (R9, R157, R176, R188, R190). -/
def Obligations.StepKeepsCapacities : Prop :=
  ∀ s t : State, s.Bounded → step s = .next t → t.Bounded

/-- Every step keeps both latches following their lock-reason sets (R59 to R62). -/
def Obligations.StepKeepsLatchesSound : Prop :=
  ∀ s t : State, s.LatchesSound → step s = .next t → t.LatchesSound

/-- Every step keeps the output luminance within the ceiling of the allowance in force, the drive
word its word, and the panel without an allowance where the supply state gives none (R86, R116 to
R119). -/
def Obligations.StepKeepsPanelSound : Prop :=
  ∀ s t : State, s.PanelSound → step s = .next t → t.PanelSound

/-- Every step leaves the PARK pin, the solenoid pins and the last drive word sent at their computed
values, unless stimulus keeps them undriven (R119, R168). -/
def Obligations.StepKeepsOutputsSound : Prop :=
  ∀ s t : State, s.OutputsSound → step s = .next t → t.OutputsSound

/-- Every step keeps what the part mode fixes (R95, R96, R106, R110, R121, R130, R175). -/
def Obligations.StepKeepsModeSound : Prop :=
  ∀ s t : State, s.ModeSound → step s = .next t → t.ModeSound

/-- Every step keeps every setting within its range (R1, R17, R21, R64, R87, R107, R125, R133), the
working curve one that a tick may read (R109, R113, R123), and the tables free of what their rules
refuse (R3, R31, R145). -/
def Obligations.StepKeepsSettingsSound : Prop :=
  ∀ s t : State, s.SettingsInRange → s.CurvesSound → s.TablesSound → step s = .next t →
    t.SettingsInRange ∧ t.CurvesSound ∧ t.TablesSound

/-- Every step keeps the live values within the identity part, and the identity part within the bay
states that may have one (R26); and every step keeps the drop log one in which only the record at the
newest position may be OPEN (R157). -/
def Obligations.StepKeepsRecordsSound : Prop :=
  (∀ s t : State, s.RecordsSound → step s = .next t → t.RecordsSound) ∧
  ∀ s t : State, s.LogSound → step s = .next t → t.LogSound

/-- Every step leaves the gates, LAST_SUPPLY and the power figures current (R79 to R86), and no
re-evaluation owed (R78: it is taken in the event itself; log 9). -/
def Obligations.StepKeepsSupplyCurrent : Prop :=
  ∀ s t : State, s.SupplyCurrent → s.Settled → step s = .next t → t.SupplyCurrent ∧ t.Settled

/-! ### The trunk link -/

/-- A response joins the list at the back; with the transmitter IDLE and RESET_N high the oldest
response begins to be sent at once; a full list drops it with OVERRUN (R188, R189, R191). -/
def Obligations.ResponseJoinsListOrOverruns : Prop :=
  ∀ (s : State) (r : Response),
    (8 ≤ s.link.responses.length →
      s.respond r = { s with flags := s.flags.raised .hub 256 }) ∧
    (s.link.responses.length < 8 → (s.link.sending.isSome ∨ s.lines.resetN = false) →
      s.respond r = { s with link := { s.link with responses := s.link.responses ++ [r] } }) ∧
    (s.link.responses.length < 8 → s.link.sending = none → s.lines.resetN = true →
      ∃ q qs, s.link.responses ++ [r] = q :: qs ∧
        s.respond r = { s with link := { s.link with
          responses := qs, sending := some (.response q) } })

/-- PACKET_SENT ends the sending, and the arbiter chooses: the oldest response, otherwise the oldest
ALERT packet, otherwise the ACCEL slot, otherwise the LIGHT slot; what is chosen leaves its list or
slot (R189). No packet begins while RESET_N is low (R191). -/
def Obligations.PacketSentChoosesNext : Prop :=
  ∀ (s : State) (u : UpPacket), s.link.sending = some u →
    (s.lines.resetN = false →
      exec .packetSent s = .next { s with link := { s.link with sending := none } }) ∧
    (s.lines.resetN = true →
      (∀ r rs, s.link.responses = r :: rs → exec .packetSent s = .next { s with link :=
        { s.link with responses := rs, sending := some (.response r) } }) ∧
      (s.link.responses = [] →
        (∀ p ps, s.link.alerts = p :: ps → exec .packetSent s = .next { s with link :=
          { s.link with alerts := ps, sending := some (.alert p) } }) ∧
        (s.link.alerts = [] →
          (∀ i, s.link.accelSlot = some i → exec .packetSent s = .next { s with link :=
            { s.link with accelSlot := none, sending := some (.accelSample i) } }) ∧
          (s.link.accelSlot = none →
            (∀ i, s.link.lightSlot = some i → exec .packetSent s = .next { s with link :=
              { s.link with lightSlot := none, sending := some (.lightSample i) } }) ∧
            (s.link.lightSlot = none → exec .packetSent s =
              .next { s with link := { s.link with sending := none } })))))

/-- One received byte (R181): what each framing state makes of it; while RESET_N is low it is
discarded (R191). Every reset leaves the receiver in HUNT. The inter-byte timer's expiry, TRUNCATED,
discards the partial packet and sets its flag. -/
def Obligations.ReceiverTakesEachByte : Prop :=
  (∀ (s : State) (b : Byte),
      (s.lines.resetN = false → ∀ x, exec (.byteReceived x) s = .next s) ∧
      (s.lines.resetN = true →
        (s.link.rx = .hunt →
          exec (.byteReceived .inError) s = .next s ∧
          (b ≠ 0xC3 → exec (.byteReceived (.good b)) s = .next s) ∧
          (b = 0xC3 → exec (.byteReceived (.good b)) s = .next { s with link :=
            { s.link with rx := .length, interByte := some ⟨10, 10⟩ } })) ∧
        (s.link.rx ≠ .hunt → exec (.byteReceived .inError) s =
          .next { s.heard with flags := s.flags.raised .hub 16 }) ∧
        (s.link.rx = .length →
          (5 ≤ b.toNat ∧ b.toNat ≤ 38 → exec (.byteReceived (.good b)) s = .next { s with link :=
            { s.link with rx := .body b [], interByte := some ⟨10, 10⟩ } }) ∧
          (b.toNat < 5 ∨ 38 < b.toNat → exec (.byteReceived (.good b)) s =
            .next { s.heard with flags := s.flags.raised .hub 16 })) ∧
        (∀ len kept, s.link.rx = .body len kept →
          (kept.length + 1 < len.toNat → exec (.byteReceived (.good b)) s = .next { s with link :=
            { s.link with rx := .body len (kept ++ [b]), interByte := some ⟨10, 10⟩ } }) ∧
          (len.toNat ≤ kept.length + 1 → exec (.byteReceived (.good b)) s = .next { s with link :=
            { s.link with rx := .check len (kept ++ [b]), interByte := some ⟨10, 10⟩ } })) ∧
        (∀ len kept, s.link.rx = .check len kept →
          (b = crc8 (len :: kept) → exec (.byteReceived (.good b)) s =
            .next (s.heard.handOn (packetOf kept))) ∧
          (b ≠ crc8 (len :: kept) → exec (.byteReceived (.good b)) s =
            .next { s.heard with flags := s.flags.raised .hub 16 })))) ∧
  (∀ s : State, s.fullReset.link.rx = .hunt ∧ s.controlReset.link.rx = .hunt ∧
    ∃ t : State, exec .powerOnReset s = .next t ∧ t.link.rx = .hunt) ∧
  (∀ s : State, s.link.interByte.isSome = true →
    exec .truncated s = .next { s.heard with flags := s.flags.raised .hub 32 })

/-- A whole frame, received byte by byte by a receiver in HUNT, acts as its packet: SYNC, LEN, the
body in its byte order and CHECK are what the receiver asks for (R180, R181, R193, R194). -/
def Obligations.FrameBytesActAsTheirPacket : Prop :=
  ∀ (s : State) (p : Packet), s.lines.resetN = true → s.link.rx = .hunt → p.len ≤ 38 →
    runCommands (p.frame.map fun b => .byteReceived (.good b)) s = .next (s.receivePacket p)

/-- What keeps a request from being handled: RESET_N low discards it (R191), an INJECT being handled
makes it wait in its turn (R182), a full response list drops it with OVERRUN (R182 step 3); in
DORMANT it wakes the part, handing the change to every block (R170), and is then handled as in
ACTIVE, whatever the response list holds (R172). A packet whose KIND names no request kind is answered
BAD_KIND and sets BAD_KIND and ERROR_SENT of HUB (R182, R185). BAD_FRAME discards a partial packet and
sets its flag, in every receiver state: the model's choice (log 7).
TRUNCATED with no timer running does nothing: the model's choice (log 4). -/
def Obligations.PacketsAtTheGates : Prop :=
  (∀ (s : State) (p : Packet), p.len ≤ 38 →
    (s.lines.resetN = false → s.receivePacket p = s) ∧
    (s.lines.resetN = true → s.link.inject.isSome → s.receivePacket p =
      { s.heard with link := { s.heard.link with waiting := s.link.waiting ++ [p] } }) ∧
    (s.lines.resetN = true → s.link.inject = none → requestKind p.kind = true →
      s.ctl.mode ≠ .dormant → 8 ≤ s.link.responses.length → s.receivePacket p =
        { s.heard with flags := s.flags.raised .hub 256 }) ∧
    (s.lines.resetN = true → s.link.inject = none → requestKind p.kind = true →
      s.ctl.mode = .dormant → ∃ t : State, s.ModeEntered t .active ∧
        s.receivePacket p =
          { t with flags := s.flags.raised .hub 512 }.receivePacket p)) ∧
  (∀ (s : State) (f : FrameFault),
    (s.lines.resetN = false → exec (.badFrame f) s = .next s) ∧
    (s.lines.resetN = true →
      exec (.badFrame f) s = .next { s.heard with flags := s.flags.raised .hub 16 })) ∧
  (∀ s : State, s.link.interByte = none → exec .truncated s = .next s) ∧
  (∀ (s : State) (tag kind dest : Byte) (offset : Half) (rest : List Byte),
    s.Takes → rest.length ≤ 33 → (kind.toNat = 0 ∨ 5 < kind.toNat) →
    exec (.badKind tag kind dest offset rest) s =
      .next ({ s.heard with flags := s.flags.raised .hub (128 ||| 8) }.answered tag dest offset
        .badKind []))

/-! ### Requests -/

/-- Each request command is its packet, handed to the receiver: KIND 1 READ, 2 WRITE, 3 RESET, 4 MODE,
5 INJECT (R194); an action is a WRITE of its code to the action cell at offset 4 (R195, R198); the
writes with a behaviour of their own are WRITEs of their locations (R197, R198). That a packet-level
command stands for the whole reception of its frame is the model's choice (log 7). -/
def Obligations.RequestCommandsAreTheirPackets : Prop :=
  ∀ (s : State) (tag dest v w x : Byte) (off code : Half) (data : List Byte) (i : BayId),
    exec (.read tag dest off v) s = .next (s.receivePacket ⟨tag, 1, dest, off, [v]⟩) ∧
    exec (.write tag dest off data) s = .next (s.receivePacket ⟨tag, 2, dest, off, data⟩) ∧
    exec (.packRead tag .a off v) s = exec (.read tag 0x11 off v) s ∧
    exec (.packRead tag .b off v) s = exec (.read tag 0x12 off v) s ∧
    exec (.packWrite tag .a off data) s = exec (.write tag 0x11 off data) s ∧
    exec (.packWrite tag .b off data) s = exec (.write tag 0x12 off data) s ∧
    exec (.controlReset tag dest) s = .next (s.receivePacket ⟨tag, 3, dest, 1, []⟩) ∧
    exec (.fullReset tag dest) s = .next (s.receivePacket ⟨tag, 3, dest, 2, []⟩) ∧
    exec (.mode tag dest code) s = .next (s.receivePacket ⟨tag, 4, dest, code, []⟩) ∧
    exec (.inject tag dest code v data) s =
      .next (s.receivePacket ⟨tag, 5, dest, code, v :: data⟩) ∧
    exec (.readmit tag i) s = exec (.write tag (spaceDest (baySpace i)) 4 [0x01]) s ∧
    exec (.clearInhibit tag i) s = exec (.write tag (spaceDest (baySpace i)) 4 [0x02]) s ∧
    exec (.clearSuspect tag i) s = exec (.write tag (spaceDest (baySpace i)) 4 [0x03]) s ∧
    exec (.lock tag i) s = exec (.write tag (spaceDest (baySpace i)) 4 [0x04]) s ∧
    exec (.unlock tag i) s = exec (.write tag (spaceDest (baySpace i)) 4 [0x05]) s ∧
    exec (.backlightOn tag) s = exec (.write tag 0x05 4 [0x10]) s ∧
    exec (.backlightOff tag) s = exec (.write tag 0x05 4 [0x11]) s ∧
    exec (.applyCurve tag) s = exec (.write tag 0x05 4 [0x12]) s ∧
    exec (.clearLog tag) s = exec (.write tag 0x06 4 [0x20]) s ∧
    exec (.wakeAck tag) s = exec (.write tag 0x00 4 [0x30]) s ∧
    exec (.clearAllFlags tag) s = exec (.write tag 0x00 4 [0x31]) s ∧
    exec (.lockoutLimitWrite tag .a v) s = exec (.write tag 0x03 0x05 [v]) s ∧
    exec (.lockoutLimitWrite tag .b v) s = exec (.write tag 0x03 0x06 [v]) s ∧
    exec (.sensorEnableWrite tag .front v) s = exec (.write tag 0x05 0x05 [v]) s ∧
    exec (.sensorEnableWrite tag .rear v) s = exec (.write tag 0x05 0x06 [v]) s ∧
    exec (.attentionEnableWrite tag v) s = exec (.write tag 0x00 0x08 [v]) s ∧
    exec (.alertForwardingWrite tag v) s = exec (.write tag 0x00 0x07 [v]) s ∧
    exec (.supplySettingWrite tag off data) s = exec (.write tag 0x04 off data) s ∧
    (∀ (sp : Space) (mask : Half), exec (.writeOneClear tag sp mask) s =
      exec (.write tag (spaceDest sp) 2 (le16 mask.toNat)) s) ∧
    (∀ e : Fin 32, exec (.bayCommandTableWrite tag e data) s =
      exec (.write tag 0x03 (BitVec.ofNat 16 (0x100 + 8 * e.val)) data) s) ∧
    (∀ e : Fin 8, exec (.admissionTableWrite tag e data) s =
      exec (.write tag 0x03 (BitVec.ofNat 16 (0x200 + 16 * e.val)) data) s) ∧
    (∀ e : Fin 6, exec (.dropActionTableWrite tag e data) s =
      exec (.write tag 0x06 (BitVec.ofNat 16 (0x68 + e.val)) data) s) ∧
    (∀ value : Half,
      exec (.staleLimitWrite tag value) s = exec (.write tag 0x05 0x0C (le16 value.toNat)) s ∧
      exec (.lMaxWrite tag value) s = exec (.write tag 0x05 0x16 (le16 value.toNat)) s ∧
      exec (.qWrite tag value) s = exec (.write tag 0x05 0x18 (le16 value.toNat)) s) ∧
    exec (.streamControlWrite tag .accel v w) s = exec (.write tag 0x06 0x70 [v, w]) s ∧
    exec (.streamControlWrite tag .light v w) s = exec (.write tag 0x06 0x72 [v, w]) s ∧
    exec (.stimulusControlWrite tag v w x) s = exec (.write tag 0x06 0x74 [v, w, x]) s

/-- A READ of a control space (R183, R185, R186): COUNT 0 or above 32 is BAD_VALUE, an extent that
leaves the map BAD_OFFSET, an absent value NO_DATA; otherwise OK with the bytes of the extent, and
in CLEAR_ON_READ the flags returned are cleared. An undefined destination is BAD_DEST. What one
absent value is follows the model's reading (log 18). -/
def Obligations.ReadAnswersFromTheSpace : Prop :=
  ∀ (s : State) (tag dest count : Byte) (off : Half) (sp : Space), s.Takes →
    let n := count.toNat
    let ls := touched (spaceMap sp) off.toNat n
    let c := Instr.read tag (spaceDest sp) off count
    (n = 0 ∨ 32 < n → exec c s =
      .next ({ s.heard with flags := s.flags.raised sp (2 ||| 8) }.answered tag (spaceDest sp) off
        .badValue [])) ∧
    (1 ≤ n → n ≤ 32 → coversExtent ls off.toNat n = false → exec c s =
      .next ({ s.heard with flags := s.flags.raised sp (1 ||| 8) }.answered tag (spaceDest sp) off
        .badOffset [])) ∧
    (1 ≤ n → n ≤ 32 → coversExtent ls off.toNat n = true → readsAbsent s sp ls = true →
      exec c s = .next (s.heard.answered tag (spaceDest sp) off .noData [])) ∧
    (1 ≤ n → n ≤ 32 → coversExtent ls off.toNat n = true → readsAbsent s sp ls = false →
      s.link.clearMode = .writeOneClear →
      exec c s = .next (s.heard.answered tag (spaceDest sp) off .ok
        (extentBytes s ls off.toNat n))) ∧
    (1 ≤ n → n ≤ 32 → coversExtent ls off.toNat n = true → readsAbsent s sp ls = false →
      s.link.clearMode = .clearOnRead →
      exec c s = .next ({ s.heard with
        flags := s.flags.set sp (s.flags.get sp &&& ~~~ returnedFlags off.toNat n) }.answered tag
          (spaceDest sp) off .ok (extentBytes s ls off.toNat n))) ∧
    (spaceOf dest = none → passBay dest = none → exec (.read tag dest off count) s =
      .next ({ s.heard with flags := s.flags.raised .hub (64 ||| 8) }.answered tag dest off
        .badDest []))

/-- A WRITE of a control space (R184, R185, R186, R196): the first check that fails gives the answer
and nothing else changes; a WRITE that passes clears the flags it covers and writes 1, every setting
it covers takes its value in the same event, and it is answered OK, after its effects: the model's
choice (log 11). In WRITE_ONE_CLEAR one that covers the PACK_POLICY flags and the default treatment
does both. -/
def Obligations.WriteIsAllOrNothing : Prop :=
  ∀ (s : State) (tag dest : Byte) (off : Half) (data : List Byte) (sp : Space), s.Takes →
    1 ≤ data.length → data.length ≤ 32 →
    let k := writeKind s.link.clearMode (touched (spaceMap sp) off.toNat data.length) off.toNat data
    let c := Instr.write tag (spaceDest sp) off data
    (k = .outside → exec c s =
      .next ({ s.heard with flags := s.flags.raised sp (1 ||| 8) }.answered tag (spaceDest sp) off
        .badOffset [])) ∧
    (k = .readOnly → exec c s =
      .next ({ s.heard with flags := s.flags.raised sp (4 ||| 8) }.answered tag (spaceDest sp) off
        .refused [])) ∧
    (k = .action → actionOf sp (BitVec.ofNat 8 (leNat data)) = none → exec c s =
      .next ({ s.heard with flags := s.flags.raised sp (2 ||| 8) }.answered tag (spaceDest sp) off
        .badValue [])) ∧
    (∀ clears xs, k = .fields clears xs →
      let u := State.putAll xs { s.heard with
        flags := s.flags.set sp (s.flags.get sp &&& ~~~ clears) }
      let ok := xs.all (fun x => x.1.accepts x.2) &&
        structureOk (xs.map Prod.fst) u.policy u.motion
      (ok = false → exec c s =
        .next ({ s.heard with flags := s.flags.raised sp (2 ||| 8) }.answered tag (spaceDest sp) off
          .badValue [])) ∧
      (ok = true → exec c s =
        .next (((u.afterPuts (xs.map Prod.fst)).closeEvent).answered tag (spaceDest sp) off
          .ok []))) ∧
    (∀ (lo hi treatment : Byte), data = [lo, hi, treatment] → sp = .policy → off = 2 →
      s.link.clearMode = .writeOneClear →
      (treatment = 0 ∨ treatment = 2 → exec c s = .next ({ s.heard with
        flags := { s.flags with policy := s.flags.policy &&& ~~~ (hi ++ lo) },
        policy := { s.policy with defaultTreatment := if treatment = 0 then .pass else .block }
          }.answered tag 0x03 2 .ok [])) ∧
      (treatment ≠ 0 → treatment ≠ 2 → exec c s = .next ({ s.heard with
        flags := s.flags.raised .policy (2 ||| 8) }.answered tag 0x03 2 .badValue []))) ∧
    (spaceOf dest = none → passBay dest = none → exec (.write tag dest off data) s =
      .next ({ s.heard with flags := s.flags.raised .hub (64 ||| 8) }.answered tag dest off
        .badDest []))

/-- What named locations read as, by R198's maps, R195's codes and R193's byte order. -/
def Obligations.LocationsReadAsLaidOut : Prop :=
  ∀ s : State,
    (readAnswer s .hub 0x00 2 = (.ok, [0x00, 1])) ∧
    (readAnswer s .bayB 0x00 2 = (.ok, [0x02, 1])) ∧
    (readAnswer s .hub 0x10 4 = (.ok, le32 s.uptime)) ∧
    (readAnswer s .hub 0x14 4 = (.ok, le16 s.store.front.toNat ++ le16 s.store.rear.toNat)) ∧
    (readAnswer s .bayA 0x05 1 = (.ok, le8 s.bays.a.state.code)) ∧
    (readAnswer s .bayA 0x07 1 = (.ok, le8 s.bays.a.latch.code)) ∧
    (readAnswer s .policy 0x0A 2 = (.ok, le16 s.policy.pollPeriod)) ∧
    (readAnswer s .supply 0x04 2 = (.ok, le8 s.supply.state.code ++ le8 s.supply.stopCause.code)) ∧
    (readAnswer s .supply 0x10 8 = (.ok, le32 s.supply.pAvail ++ le32 s.supply.pbl)) ∧
    (readAnswer s .light 0x75 4 = (.ok, le16 s.back.lout ++ le16 s.back.drive)) ∧
    (readAnswer s .motion 0x30 1 = (.ok, le8 s.motion.guard.code)) ∧
    (readAnswer s .motion 0x79 2 = (.ok, le16 s.drop.drops)) ∧
    (s.bays.a.record.identity = none → readAnswer s .bayA 0x18 2 = (.noData, [])) ∧
    (∀ d, s.bays.a.record.identity = some d →
      readAnswer s .bayA 0x18 2 = (.ok, le16 d.serial)) ∧
    (s.drop.log[s.drop.index]? = none → readAnswer s .motion 0x82 2 = (.noData, [])) ∧
    (∀ r, s.drop.log[s.drop.index]? = some r →
      readAnswer s .motion 0x82 2 = (.ok, le16 r.sequence) ∧
      readAnswer s .motion 0x91 4 = (.ok, le8 r.snapshot.state.a.code ++
        le8 r.snapshot.state.b.code ++
        le8 (r.snapshot.role.a.code + 4 * r.snapshot.role.b.code) ++
        le8 r.snapshot.supply.code)) ∧
    readAnswer s .hub 0x17 2 = (.badOffset, [])

/-- A setting written is read back clamped to the nearer end of its range (R184 step 4): R1, R17, R21,
R64, R87, R107, R125, R133, R158. -/
def Obligations.SettingsReadBackClamped : Prop :=
  ∀ (s : State) (bs : List Byte) (i : BayId),
    let v := leNat bs
    (Setting.lockoutLimit i).get ((Setting.lockoutLimit i).put bs s) = le8 (min 15 v) ∧
    Setting.transactionLimit.get (Setting.transactionLimit.put bs s) =
      le16 (min 100 (max 10 v)) ∧
    Setting.pollPeriod.get (Setting.pollPeriod.put bs s) = le16 (min 5000 (max 250 v)) ∧
    Setting.settleTime.get (Setting.settleTime.put bs s) = le16 (min 1000 (max 50 v)) ∧
    Setting.releaseTime.get (Setting.releaseTime.put bs s) = le16 (min 60 (max 2 v)) ∧
    Setting.readyThreshold.get (Setting.readyThreshold.put bs s) =
      le16 (min 4100 (max 3400 v)) ∧
    Setting.bridgeLimit.get (Setting.bridgeLimit.put bs s) = le8 (min 120 (max 10 v)) ∧
    Setting.saveWindow.get (Setting.saveWindow.put bs s) = le8 (min 30 (max 1 v)) ∧
    Setting.bridgePower.get (Setting.bridgePower.put bs s) = le16 (min 40000 (max 5000 v)) ∧
    Setting.normalReserve.get (Setting.normalReserve.put bs s) = le32 (min 200000 v) ∧
    Setting.bridgeReserve.get (Setting.bridgeReserve.put bs s) = le32 (min 200000 v) ∧
    Setting.shareWindow.get (Setting.shareWindow.put bs s) = le16 (min 1000 (max 50 v)) ∧
    (Setting.trim .front).get ((Setting.trim .front).put bs s) = le16 (min 8191 (max 1 v)) ∧
    (Setting.trim .rear).get ((Setting.trim .rear).put bs s) = le16 (min 8191 (max 1 v)) ∧
    Setting.staleLimit.get (Setting.staleLimit.put bs s) = le16 (min 5000 (max 200 v)) ∧
    Setting.weight.get (Setting.weight.put bs s) = le16 (min 256 v) ∧
    Setting.tickPeriod.get (Setting.tickPeriod.put bs s) = le8 (min 200 (max 20 v)) ∧
    Setting.riseShift.get (Setting.riseShift.put bs s) = le8 (min 7 v) ∧
    Setting.fallShift.get (Setting.fallShift.put bs s) = le8 (min 7 v) ∧
    (∀ b : Byte, Setting.bias.get (Setting.bias.put [b] s) =
      [BitVec.ofInt 8 (min 50 (max (-50) b.toInt))]) ∧
    Setting.lMin.get (Setting.lMin.put bs s) = le8 (min 100 v) ∧
    Setting.lMax.get (Setting.lMax.put bs s) = le16 (min 2000 (max 100 v)) ∧
    Setting.q.get (Setting.q.put bs s) = le16 (min 4095 (max 1 v)) ∧
    Setting.rUp.get (Setting.rUp.put bs s) = le16 (min 2000 (max 1 v)) ∧
    Setting.rDn.get (Setting.rDn.put bs s) = le16 (min 2000 (max 1 v)) ∧
    Setting.freeFallMg.get (Setting.freeFallMg.put bs s) = le16 (min 800 (max 100 v)) ∧
    Setting.freeFallTime.get (Setting.freeFallTime.put bs s) = le8 (min 200 (max 10 v)) ∧
    Setting.lightMg.get (Setting.lightMg.put bs s) = le16 (min 16000 (max 1000 v)) ∧
    Setting.hardMg.get (Setting.hardMg.put bs s) = le16 (min 16000 (max 1000 v)) ∧
    Setting.severeMg.get (Setting.severeMg.put bs s) = le16 (min 16000 (max 1000 v)) ∧
    Setting.logIndex.get (Setting.logIndex.put bs s) = le8 (min 15 v)

/-! ### Pack requests -/

/-- A host pack request at its arrival (R4, R7, R9, R28, R185): for a READ and a WRITE alike, the
first condition that holds gives the answer; past them all the request joins the back of the queue.
On a free bus with no maintenance pending, the oldest request of a class that is not held is then the
transaction on the bus, past the held ones before it, and where all are held the bus stays free (R10,
R12). A READ whose COUNT is 0 or above 32 is BAD_VALUE before all that (R183). A SHADOW read without a
snoop field is NO_DATA from the record: the model's reading (log 26). -/
def Obligations.PackRequestsAtArrival : Prop :=
  (∀ (s : State) (tag count : Byte) (i : BayId) (off : Half), s.Takes →
    (count.toNat = 0 ∨ 32 < count.toNat) →
    exec (.packRead tag i off count) s = .next
      ({ s.heard with flags := s.flags.raised (baySpace i) (2 ||| 8) }.answered tag (passDest i) off
        .badValue [])) ∧
  ∀ (s : State) (tag count : Byte) (i : BayId) (off : Half) (data : List Byte) (write : Bool),
    s.Takes → 1 ≤ data.length → data.length ≤ 32 → 1 ≤ count.toNat → count.toNat ≤ 32 →
    let c := if write then Instr.packWrite tag i off data else .packRead tag i off count
    let k := s.policy.lookup (off.setWidth 8) write
    let r : HostRequest :=
      { tag := tag, offset := off, write := write, cls := k.cls, snoop := k.snoop,
        count := if write then data.length else count.toNat,
        data := if write then data else [], shadow := k.treatment == .shadow }
    let y := s.bay i
    let answers := fun (flags : SpaceFlags) (o : Answer) (d : List Byte) =>
      exec c s = .next ({ s.heard with flags := flags }.answered tag (passDest i) off o d)
    let queued := fun (t : Traffic) =>
      { s.heard with bays := s.bays.set i { y with traffic := t } }
    (255 < off.toNat → answers (s.flags.raised (baySpace i) (1 ||| 8)) .badOffset []) ∧
    (off.toNat ≤ 255 → k.treatment = .block ∨ k.allowed = false →
      answers (s.flags.raised (baySpace i) 8) .refused []) ∧
    (off.toNat ≤ 255 → k.treatment ≠ .block → k.allowed = true →
      (y.state.traffic = false →
        (r.shadow = true → write = false →
          let a := shadowAnswer s.policy y.record (off.setWidth 8) k.snoop
          answers s.flags a.1 a.2) ∧
        (r.shadow = false ∨ write = true →
          (y.state = .silent → answers s.flags .silent []) ∧
          (y.state ≠ .silent → answers s.flags .bayAbsent []))) ∧
      (y.state.traffic = true →
        (4 ≤ y.traffic.queueLength → answers s.flags .busy []) ∧
        (y.traffic.queueLength < 4 →
          (y.traffic.bus.isSome →
            exec c s = .next (queued { y.traffic with waiting := y.traffic.waiting ++ [r] })) ∧
          (y.traffic.bus = none → y.tripDeferred = false → y.traffic.alert = false →
            y.traffic.maintains = false →
            let queue := y.traffic.waiting ++ [r]
            ((∀ h ∈ queue, s.holdMask.getLsbD h.cls = true) →
              exec c s = .next (queued { y.traffic with waiting := queue })) ∧
            ∀ (before : List HostRequest) (q : HostRequest) (after : List HostRequest),
              queue = before ++ q :: after → (∀ h ∈ before, s.holdMask.getLsbD h.cls = true) →
              s.holdMask.getLsbD q.cls = false →
              exec c s = .next (queued { y.traffic with
                waiting := before ++ after, lastServed := .host,
                bus := some
                  { owner := .host q true, code := q.offset.setWidth 8, write := q.write,
                    size := if q.count = 2 then .word else .block q.count, data := q.data,
                    snoop := q.snoop,
                    limit := ⟨s.policy.transactionLimit, s.policy.transactionLimit⟩ } })))))

/-! ### Modes -/

/-- A MODE request (R171, R194): an unknown code is BAD_VALUE; the mode held already changes nothing;
a change is handed before the OK to every block that depends on the mode, and to no other: WAKE
(R175), the poll timers (R17), the sensors (R95), the tick and the panel
(R110, R121), the accelerometer's rate (R130), the streams on entry to DORMANT (R162). -/
def Obligations.ModeRequestSetsTheMode : Prop :=
  ∀ (s : State) (tag dest : Byte) (code : Half), s.Takes →
    (2 < code.toNat → exec (.mode tag dest code) s = .next
      ({ s.heard with flags := s.flags.raised .hub (2 ||| 8) }.answered tag dest code
        .badValue [])) ∧
    (∀ m, modeOf code.toNat = some m →
      (m = s.ctl.mode →
        exec (.mode tag dest code) s = .next (s.heard.answered tag dest code .ok [])) ∧
      (m ≠ s.ctl.mode → ∃ t : State,
        exec (.mode tag dest code) s = .next (t.answered tag dest code .ok []) ∧
        s.heard.ModeEntered t m))

/-! ### Stimulus and INJECT -/

/-- INJECT (R166): a request whose source, COUNT, length or a sample's gain or integration is not
right is BAD_VALUE; a source that stimulus does not replace is REFUSED; otherwise the request is held
with its samples, which the command INJECTED_SAMPLE takes: the model's reading (log 12). -/
def Obligations.InjectIsCheckedAndHeld : Prop :=
  ∀ (s : State) (tag dest count : Byte) (source : Half) (bytes : List Byte),
    s.Takes → 1 ≤ bytes.length → bytes.length ≤ 32 →
    let p : Packet := ⟨tag, 5, dest, source, count :: bytes⟩
    let c := Instr.inject tag dest source count bytes
    (injectSamples p = none → exec c s = .next
      ({ s.heard with flags := s.flags.raised .motion (2 ||| 8) }.answered tag dest source
        .badValue [])) ∧
    (∀ src xs, injectSamples p = some (src, xs) →
      (s.streams.stimulusOn = false ∨ s.streams.sources.getLsbD src.bit = false →
        exec c s = .next ({ s.heard with flags := s.flags.raised .motion 8 }.answered tag dest
          source .refused [])) ∧
      (s.streams.stimulusOn = true → s.streams.sources.getLsbD src.bit = true →
        exec c s = .next { s.heard with
          link := { s.heard.link with inject := some ⟨tag, dest, source, xs⟩ } }))

/-- INJECTED_SAMPLE (R106, R143, R164, R166, R167, R182): the next sample of the INJECT is taken as one
arrival; after the last one the INJECT is answered OK, and the requests that wait are taken each in
its turn, until one is an INJECT that is accepted. A light sample reaches its sensor outside OFF and
leaves no discard owed, with θ from FRONT; an accelerometer sample makes the sensor RUNNING, restarts
its stale timer, reaches the guard and, forwarded, is an INJECTED item. That a sample is a command of
its own is the model's reading (log 12). -/
def Obligations.InjectedSampleIsTaken : Prop :=
  (∀ (s : State) (w : InjectWork) (x : InjectedSample) (xs : List InjectedSample),
    s.link.inject = some w → w.samples = x :: xs →
    let u := (s.takeSample x).closeEvent
    let v := { u with link := { u.link with inject := none } }.answered w.tag w.dest w.offset .ok []
    (xs ≠ [] → exec .injectedSample s =
      .next { u with link := { u.link with inject := some { w with samples := xs } } }) ∧
    (xs = [] → exec .injectedSample s = .next (v.drain v.link.waiting.length))) ∧
  (∀ (v : State) (n : Nat),
    (v.link.inject.isSome = true ∨ v.link.waiting = [] → v.drain n = v) ∧
    (∀ p ps, v.link.waiting = p :: ps → v.link.inject = none →
      v.drain (n + 1) = ({ v with link := { v.link with waiting := ps } }.handOn p).drain n)) ∧
  ∀ (s : State) (x y z c : Half) (g : Gain) (t : Integration) (th : Byte), s.due = none →
    let taken := fun (r : Sensor) => { r with
      sample := some ⟨c.toNat, g, t, c.toNat == 65535, s.uptime, illuminance c.toNat r.trim g t⟩,
      step := nextStep c.toNat r.step, failures := 0, discardOwed := false,
      stale := some ⟨s.light.staleLimit, s.light.staleLimit⟩, condition := .fresh }
    let front := (s.takeSample (.front c g t th)).closeEvent
    let rear := (s.takeSample (.rear c g t)).closeEvent
    let u := (s.takeSample (.accel x y z)).closeEvent
    let m2 := x.toInt.natAbs ^ 2 + y.toInt.natAbs ^ 2 + z.toInt.natAbs ^ 2
    let sq := fun (mg : Nat) => (mg * 2048 / 1000) ^ 2
    let k := s.streams.accel
    let number := if 65535 ≤ k.forward then 1 else k.forward + 1
    (s.light.front.condition = .off → front = s) ∧
    (s.light.front.condition ≠ .off → front = { s with light := { s.light with
      front := taken s.light.front, theta := some ⟨min 125 (max (-40) th.toInt), s.uptime⟩ } }) ∧
    (s.light.rear.condition = .off → rear = s) ∧
    (s.light.rear.condition ≠ .off →
      rear = { s with light := { s.light with rear := taken s.light.rear } }) ∧
    (s.motion.guard = .calm →
      u.motion.accel = { s.motion.accel with
        condition := .running, discards := 0,
        stale := ⟨s.motion.accel.odr.staleLimit, s.motion.accel.odr.staleLimit⟩,
        latest := some ⟨⟨x.toInt, y.toInt, z.toInt, m2⟩, s.uptime⟩ } ∧
      (sq s.motion.hardMg ≤ m2 → u.motion.guard = .impact ∧ u.motion.work.kind = some .knock) ∧
      (m2 < sq s.motion.hardMg → sq s.motion.freeFallMg ≤ m2 →
        u.motion.guard = .calm ∧ u.motion.freeFallRun = 0) ∧
      (k.enabled = true → s.ctl.mode ≠ .dormant → k.divider ≤ k.count + 1 →
        s.link.sending.isSome = true → u.link.accelSlot = some
          ⟨number, s.uptime, x.toInt, y.toInt, z.toInt, u.motion.guard != .calm, true⟩))

/-! ### Resets -/

/-- POWER_ON_RESET (R23, R65, R91, R125, R144, R160, R169, R178, R179, R192): every block at its
power-on values; a bay whose contact line is present is SEATED with its settle timer running and a
pack-seated event handed; the lines and the factory trim store are as they were. Byte 7 of a word entry
of the default Bay Command Table is the model's choice (log 3). -/
def Obligations.PowerOnResetStartsEveryBlock : Prop :=
  ∀ s : State, ∃ t, exec .powerOnReset s = .next t ∧
    t.lines = s.lines ∧ t.store = s.store ∧ t.uptime = 0 ∧
    t.ctl.mode = .dormant ∧ t.ctl.enables = 31 ∧
    t.ctl.wake = (s.lines.contact.a || s.lines.contact.b) ∧
    t.ctl.causes = (if s.lines.contact.a || s.lines.contact.b then 1 else 0) ∧
    (∀ i, let y := t.bay i
      let present := s.lines.contact.get i
      y.state = (if present then .seated else .empty) ∧ y.contact = present ∧
      y.timer = (if present then some ⟨.settle, ⟨200, 200⟩, false⟩ else none) ∧
      y.loss = none ∧ y.intentFilter = none ∧ y.intent = s.lines.intent.get i ∧
      y.tripDeferred = false ∧ y.decisionDeferred = false ∧ y.returnPending = false ∧
      y.latch = .unlocked ∧ y.latchLimit = none ∧ y.solenoid = false ∧ y.solenoidPin = false ∧
      y.reasons = ⟨false, false, false⟩ ∧ y.record = .absent ∧ y.role = .off ∧
      y.charging = false ∧ y.traffic = .fresh ∧
      t.flags.get (baySpace i) = (if present then 0x10 else 0)) ∧
    t.flags.hub = 0 ∧ t.flags.policy = 0 ∧ t.flags.supply = 0 ∧ t.flags.light = 0 ∧
    t.flags.motion = 0 ∧ t.policy = .defaults ∧ t.holdMask = 0 ∧
    t.supply = { Supply.fresh with
      presenceFilter := if s.lines.adapterSense then some ⟨10, 10⟩ else none } ∧
    t.light = .fresh s.store ∧ t.back = .fresh ∧ t.motion = .fresh .hz100 ∧ t.drop = .fresh ∧
    t.streams = .fresh ∧ t.link = .fresh

/-- A full reset by RESET_N or by a RESET request (R23, R38, R66, R92, R108, R127, R144, R160, R169,
R178, R191, R192): the same reset, in which every block is at its full-reset values. The supply
controller keeps its state, timers and records (its filters: log 23) and computes roles, LAST_SUPPLY
and allowance anew; each latch follows its final set (log 34); each bay is placed by its contact line
and identified again; a conversion in progress is abandoned. A RESET_N that
falls where it is low or rises where it is high is no change (the model's reading, log 31); at its
rise the receiver is in HUNT and the transmitter IDLE (log 32). -/
def Obligations.FullResetTakesEveryBlock : Prop :=
  (∀ s : State,
    (s.lines.resetN = false → exec .resetNFall s = .next s ∧
      exec .resetNRise s = .next { s.heard with
        lines := { s.lines with resetN := true },
        link := { s.heard.link with sending := none } }) ∧
    (s.lines.resetN = true → exec .resetNRise s = .next s ∧
      exec .resetNFall s =
        .next (State.fullReset { s with lines := { s.lines with resetN := false } }))) ∧
  (∀ (s : State) (tag dest : Byte), s.Takes →
    exec (.fullReset tag dest) s = .next (s.heard.fullReset.answered tag dest 2 .ok [])) ∧
  ∀ s : State,
    let t := s.fullReset
    let sensor := fun (entry : Half) => { Sensor.fresh entry with
      condition := .starting, discardOwed := true, conversion := some ⟨125, 125⟩ }
    t.lines = s.lines ∧ t.uptime = s.uptime ∧ t.store = s.store ∧ t.pending = s.pending ∧
    t.choice = s.choice ∧ t.due = none ∧ t.flags = ⟨0, 0, 0, 0, 0, 0, 0⟩ ∧
    t.ctl = ⟨.active, 31, 0, false⟩ ∧ t.policy = .defaults ∧ t.holdMask = 0 ∧
    t.streams = .fresh ∧ t.motion = .fresh .hz400 ∧ t.link = .fresh ∧
    t.light = { Light.fresh s.store with
      front := sensor s.store.front, rear := sensor s.store.rear } ∧
    t.drop = { DropLog.fresh with
      log := onNewest DropRecord.interrupt s.drop.log, drops := s.drop.drops } ∧
    t.supply = { Supply.fresh with
      state := s.supply.state, stopCause := s.supply.stopCause,
      barrier := s.supply.barrier && s.lines.pwrReq, hold := s.supply.hold,
      bridgeRun := s.supply.bridgeRun, save := s.supply.save, adapter := s.supply.adapter,
      presenceFilter := s.supply.presenceFilter, codeFilter := s.supply.codeFilter,
      bridgeVoltage := s.supply.bridgeVoltage, exhausted := s.supply.exhausted,
      converter := s.supply.converter, pAvail := availablePower t,
      pbl := min (1500 * 320 / 64) (availablePower t -
        (if s.supply.state = .bridge then 12000 else 55000) - 5000) } ∧
    (∀ i, let y := s.bay i
      let z := t.bay i
      let here := s.lines.contact.get i
      let confirm := s.lines.lockConfirm.get i
      z.contact = here ∧ z.intent = s.lines.intent.get i ∧
      z.state = (if here = false then .empty
        else if y.state = .inhibited then .inhibited else .identifying) ∧
      z.loss = none ∧ z.intentFilter = none ∧ z.timer = none ∧ z.tripDeferred = false ∧
      z.decisionDeferred = false ∧ z.returnPending = false ∧ z.charging = false ∧
      z.record = { PackRecord.absent with
        suspect := here && y.record.suspect,
        outcome := if here = true ∧ y.state = .inhibited then y.record.outcome else .none } ∧
      z.traffic = { Traffic.fresh with
        ident := if z.state = .identifying then some ⟨0, none, none, none⟩ else none,
        pollTimer := if z.state = .inhibited then some ⟨1000, 1000⟩ else none,
        bus := z.traffic.bus, lastServed := z.traffic.lastServed } ∧
      (z.state ≠ .identifying → z.traffic.bus = none) ∧
      (z.state = .identifying → ∃ e, Policy.defaults.ownEntry .cls = some e ∧
        z.traffic.bus =
          some ⟨.identification 0, e.code, false, .word, [], .cls, ⟨35, 35⟩⟩) ∧
      z.role = (if z.state = .identifying ∧ y.role ≠ .off ∧ s.supply.state = .normal ∧
        s.supply.adapter = none then .kept else .off) ∧
      z.reasons = ⟨false, soleSupply t i, false⟩ ∧ z.solenoidPin = z.solenoid ∧
      (z.reasons.lastSupply = false → y.reasons.held = true →
        (y.latch = .lockFailed → z.latch = .unlocked) ∧
        (y.latch = .engaging ∨ y.latch = .locked →
          z.latch = if confirm then .disengaging else .unlocked)) ∧
      (z.reasons.lastSupply = y.reasons.held → y.state ≠ .releasing → z.latch = y.latch)) ∧
    t.back.on = s.back.on ∧ t.back.lout = min s.back.lout t.back.lpow ∧
    t.back = { Backlight.fresh with
      on := t.back.on, pbl := t.supply.pbl, lpow := min 1500 (t.supply.pbl * 64 / 320),
      lout := t.back.lout, drive := t.back.lout * 4095 / 1500, lastSent := t.back.drive,
      tick := some ⟨50, 50⟩ }

/-- A control reset (R23, R67, R93, R108, R127, R144, R160, R169, R178, R191, R192): the waiting
requests, the stream unit and what the link holds are gone (log 32), each replacement ends (R165;
log 24), the outputs are driven again, and every other block is as it was. -/
def Obligations.ControlResetKeepsTheBlocks : Prop :=
  ∀ (s : State) (tag dest : Byte), s.Takes → ∃ t : State,
    exec (.controlReset tag dest) s = .next (t.answered tag dest 1 .ok []) ∧
    t = { s with bays := t.bays, light := t.light, back := t.back, motion := t.motion,
                 drop := t.drop, streams := .fresh, link := t.link } ∧
    t.link = { Link.fresh with clearMode := s.link.clearMode, attention := s.link.attention,
                               alertForwarding := s.link.alertForwarding } ∧
    (∀ i, t.bay i = { s.bay i with
      solenoidPin := (s.bay i).solenoid,
      traffic := { (s.bay i).traffic with waiting := [], bus := (t.bay i).traffic.bus } }) ∧
    (∀ i, (t.bay i).traffic.bus.isSome = (s.bay i).traffic.bus.isSome) ∧
    (∀ i x r b, (s.bay i).traffic.bus = some x → x.owner = .host r b →
      (t.bay i).traffic.bus = some { x with owner := .host r false }) ∧
    (∀ i x, (s.bay i).traffic.bus = some x → (∀ r b, x.owner ≠ .host r b) →
      (t.bay i).traffic.bus = some x) ∧
    t.back = { s.back with lastSent := s.back.drive } ∧
    t.drop = { s.drop with parkPin := s.drop.parkLine } ∧
    t.light = { s.light with front := t.light.front, rear := t.light.rear } ∧
    (∀ i, t.light.sensor i = if s.streams.replaces (sensorSource i) = true
      then (s.light.sensor i).replacementEnds else s.light.sensor i) ∧
    (s.streams.replaces .accel = false → t.motion = s.motion) ∧
    (s.streams.replaces .accel = true →
      t.motion.accel = { s.motion.accel with
        condition := .starting, discards := 4,
        stale := ⟨s.motion.accel.odr.staleLimit, s.motion.accel.odr.staleLimit⟩ } ∧
      t.motion = { s.motion with accel := t.motion.accel })

/-! ### Actions -/

/-- READMIT (R27, R45): refused unless the bay is QUARANTINED or SILENT with contact; otherwise the
failure count is 0, the bay is IDENTIFYING with its record cleared but for IMPACT_SUSPECT and the
outcome, and its first read is made. Premise: a used entry for the CLASS read (R5, R44). The effects
stand before the answer is built, in all the actions below: the model's choice (log 11). -/
def Obligations.ReadmitStartsIdentification : Prop :=
  ∀ (s : State) (tag : Byte) (i : BayId), s.Takes →
    let y := s.bay i
    let c := Instr.readmit tag i
    let d := spaceDest (baySpace i)
    ((y.state ≠ .quarantined ∧ y.state ≠ .silent) ∨ y.contact = false → exec c s =
      .next ({ s.heard with flags := s.flags.raised (baySpace i) 8 }.answered tag d 4
        .refused [])) ∧
    ((y.state = .quarantined ∨ y.state = .silent) → y.contact = true →
      (s.policy.ownEntry .cls).isSome = true → (s.bay (otherBay i)).tripDeferred = false →
      ∃ u : State, exec c s = .next (u.answered tag d 4 .ok []) ∧
        u = { s.heard with bays := u.bays, supply := u.supply, back := u.back, ctl := u.ctl,
                           flags := u.flags,
                           drop := { s.drop with parkPin := u.drop.parkPin } } ∧
        u.bay i = { y with
          state := .identifying, tripDeferred := false, decisionDeferred := false,
          returnPending := false, timer := none, traffic := (u.bay i).traffic,
          record := { PackRecord.absent with
            suspect := y.record.suspect, outcome := y.record.outcome },
          role := (u.bay i).role, charging := (u.bay i).charging, reasons := (u.bay i).reasons,
          latch := (u.bay i).latch, latchLimit := (u.bay i).latchLimit,
          solenoid := (u.bay i).solenoid, solenoidPin := (u.bay i).solenoidPin } ∧
        (u.bay i).traffic.failures = 0 ∧ (u.bay i).traffic.tripRaised = false ∧
        (u.bay i).traffic.ident = some ⟨0, none, none, none⟩ ∧
        (y.traffic.bus = none → (u.bay i).traffic.bus.isSome = true) ∧
        (u.bay (otherBay i)).state = (s.bay (otherBay i)).state ∧
        (u.bay (otherBay i)).record = (s.bay (otherBay i)).record ∧
        (u.bay (otherBay i)).traffic = (s.bay (otherBay i)).traffic ∧
        u.flags.get (baySpace i) &&& 0x10 = 0x10)

/-- CLEAR_INHIBIT (R50) and CLEAR_SUSPECT (R30): when the one is accepted and what it leaves; the other
is answered OK in every bay state. -/
def Obligations.InhibitAndSuspectAreCleared : Prop :=
  ∀ (s : State) (tag : Byte) (i : BayId), s.Takes →
    let y := s.bay i
    let d := spaceDest (baySpace i)
    let may := y.state = .inhibited ∧ s.motion.guard = .calm ∧
      (∃ e t, classLimits s.policy y.record = some e ∧ y.record.temperature = some t ∧
        t.value ≤ e.dMax.toInt - 50) ∧ y.record.alarmWord &&& 0b1001 = 0
    (¬ may → exec (.clearInhibit tag i) s =
      .next ({ s.heard with flags := s.flags.raised (baySpace i) 8 }.answered tag d 4
        .refused [])) ∧
    (may → s.NoTrips → ∃ u : State,
      exec (.clearInhibit tag i) s = .next (u.answered tag d 4 .ok []) ∧
      u = { s.heard with bays := u.bays, supply := u.supply, back := u.back, ctl := u.ctl,
                         flags := u.flags,
                         drop := { s.drop with parkPin := u.drop.parkPin } } ∧
      (u.bay i).state = .online ∧ (u.bay i).record = y.record ∧
      (u.bay (otherBay i)).state = (s.bay (otherBay i)).state ∧
      (u.bay (otherBay i)).record = (s.bay (otherBay i)).record) ∧
    (y.record.suspect = false →
      exec (.clearSuspect tag i) s = .next (s.heard.answered tag d 4 .ok [])) ∧
    (y.record.suspect = true → s.NoTrips → ∃ u : State,
      exec (.clearSuspect tag i) s = .next (u.answered tag d 4 .ok []) ∧
      u = { s.heard with bays := u.bays, supply := u.supply, back := u.back, ctl := u.ctl,
                         flags := u.flags,
                         drop := { s.drop with parkPin := u.drop.parkPin } } ∧
      (u.bay i).record = { y.record with suspect := false } ∧ (u.bay i).state = y.state ∧
      (u.bay (otherBay i)).state = (s.bay (otherBay i)).state ∧
      (u.bay (otherBay i)).record = (s.bay (otherBay i)).record)

/-- LOCK and UNLOCK (R59 to R63, R168): the HOST reason alone is added or removed, and the latch
follows where the set changes between empty and non-empty. -/
def Obligations.HostLockMovesTheLatch : Prop :=
  ∀ (s : State) (tag : Byte) (i : BayId), s.Takes → s.OutputsSound →
    let y := s.bay i
    let d := spaceDest (baySpace i)
    let confirm := s.lines.lockConfirm.get i
    let after := fun (c : Instr) (z : Bay) =>
      exec c s = .next ({ s.heard with bays := s.bays.set i { z with
        solenoidPin := if undriven s then y.solenoidPin else z.solenoid } }.answered tag d 4 .ok [])
    let add := { y with reasons := { y.reasons with host := true } }
    let remove := { y with reasons := { y.reasons with host := false } }
    (y.reasons.held = true ∨ (y.latch ≠ .unlocked ∧ y.latch ≠ .disengaging) ∨
        (y.latch = .unlocked ∧ y.state = .releasing) → after (.lock tag i) add) ∧
    (y.reasons.held = false →
        (y.latch = .disengaging ∨ (y.latch = .unlocked ∧ y.state ≠ .releasing)) →
      (confirm = true → after (.lock tag i)
        { add with latch := .locked, latchLimit := none, solenoid := true }) ∧
      (confirm = false → after (.lock tag i)
        { add with latch := .engaging, latchLimit := some ⟨100, 100⟩, solenoid := true })) ∧
    (y.reasons.held = false ∨ remove.reasons.held = true ∨ y.latch = .unlocked ∨
        y.latch = .disengaging → after (.unlock tag i) remove) ∧
    (y.reasons.held = true → remove.reasons.held = false →
      (y.latch = .lockFailed → after (.unlock tag i) { remove with latch := .unlocked }) ∧
      (y.latch = .engaging ∨ y.latch = .locked →
        (confirm = true → after (.unlock tag i) { remove with
          latch := .disengaging, latchLimit := some ⟨100, 100⟩, solenoid := false }) ∧
        (confirm = false → after (.unlock tag i) { remove with
          latch := .unlocked, latchLimit := none, solenoid := false })))

/-- BACKLIGHT_ON, BACKLIGHT_OFF (R120) and APPLY (R123, R124): the points APPLY reads are the first
count staged ones; it accepts 2 to 16 points, the lux values strictly increasing and at most 200,000,
the luminances at most L_max, and copies them to the working curve. -/
def Obligations.PanelActionsAct : Prop :=
  (∀ k : Backlight, k.stagedPoints =
    (k.staged.take k.stagedCount.toNat).map fun p => ⟨p.lux.toNat, p.nits.toNat⟩) ∧
  (∀ k : Backlight, k.stagedValid = true ↔
    (2 ≤ k.stagedCount.toNat ∧ k.stagedCount.toNat ≤ 16 ∧
      (∀ p ∈ k.stagedPoints, p.lux ≤ 200000 ∧ p.nits ≤ k.lMax) ∧
      ∀ n p q, k.stagedPoints[n]? = some p → k.stagedPoints[n + 1]? = some q → p.lux < q.lux)) ∧
  ∀ (s : State) (tag : Byte), s.Takes →
    let after := fun (c : Instr) (k : Backlight) =>
      exec c s = .next ({ s.heard with back := k }.answered tag 0x05 4 .ok [])
    after (.backlightOn tag) { s.back with on := true } ∧
    (s.back.on = false → after (.backlightOff tag) s.back) ∧
    (s.back.on = true → after (.backlightOff tag) { s.back with
      on := false, lout := 0, drive := 0,
      lastSent := if undriven s then s.back.lastSent else 0 }) ∧
    (s.back.stagedValid = true →
      after (.applyCurve tag) { s.back with working := s.back.stagedPoints }) ∧
    (s.back.stagedValid = false → exec (.applyCurve tag) s =
      .next ({ s.heard with flags := s.flags.raised .light 8 }.answered tag 0x05 4
        .badTable []))

/-- CLEAR_LOG (R16, R158), WAKE_ACK (R175), CLEAR_ALL_FLAGS (R186), and WRITE_ONE_CLEAR (R186): in
WRITE_ONE_CLEAR the flags written 1 are cleared; in CLEAR_ON_READ the flags are read-only (R184). -/
def Obligations.LogWakeAndFlagsAreCleared : Prop :=
  ∀ (s : State) (tag : Byte), s.Takes →
    (∃ b : Both Bay, exec (.clearLog tag) s = .next ({ s.heard with
        drop := { s.drop with log := [], episodeRecord := false }, bays := b }.answered tag 0x06 4
          .ok []) ∧
      ∀ i, b.get i = { s.bay i with traffic := { (s.bay i).traffic with
        reverify := (b.get i).traffic.reverify, bus := (b.get i).traffic.bus } } ∧
        ((s.bay i).traffic.reverify = none → (b.get i).traffic.reverify = none) ∧
        ((s.bay i).traffic.reverify = some .record →
          (b.get i).traffic.reverify = some .removed) ∧
        ((s.bay i).traffic.bus = none → (b.get i).traffic.bus = none) ∧
        (∀ x, (s.bay i).traffic.bus = some x →
          (x.owner = .reverify .record →
            (b.get i).traffic.bus = some { x with owner := .reverify .removed }) ∧
          (x.owner ≠ .reverify .record → (b.get i).traffic.bus = some x))) ∧
    exec (.wakeAck tag) s = .next ({ s.heard with
      ctl := { s.ctl with wake := false, causes := 0 } }.answered tag 0x00 4 .ok []) ∧
    exec (.clearAllFlags tag) s = .next ({ s.heard with
      flags := ⟨0, 0, 0, 0, 0, 0, 0⟩ }.answered tag 0x00 4 .ok []) ∧
    ∀ (sp : Space) (mask : Half),
      (s.link.clearMode = .writeOneClear → exec (.writeOneClear tag sp mask) s =
        .next ({ s.heard with
          flags := s.flags.set sp (s.flags.get sp &&& ~~~ mask) }.answered tag (spaceDest sp) 2
            .ok [])) ∧
      (s.link.clearMode = .clearOnRead → exec (.writeOneClear tag sp mask) s =
        .next ({ s.heard with flags := s.flags.raised sp (4 ||| 8) }.answered tag (spaceDest sp) 2
          .refused []))

/-! ### Writes -/

/-- BAY_COMMAND_TABLE_WRITE (R3), ADMISSION_TABLE_WRITE (R31) and DROP_ACTION_TABLE_WRITE (R145),
each of whole entries (R184): a WRITE of a table is refused whole where an entry is unsound, or
where the table as it would stand uses a code or a class twice; an admission table taken is an event
of the re-evaluation (R78). That an unknown bit of byte 6 refuses an entry is the model's reading
(log 19). -/
def Obligations.TablesAreWrittenWhole : Prop :=
  (∀ (s : State) (tag : Byte) (e : Fin 32) (data : List Byte) (k : Nat), s.Takes →
    data.length = 8 * k → 1 ≤ k → k ≤ 4 → e.val + k ≤ 32 →
    let entry := fun j => commandOf ((data.drop (8 * j)).take 8)
    let table := (List.range k).foldl (fun l j => l.set (e.val + j) (entry j).clamp)
      s.policy.commands
    let ok := (List.range k).all (fun j => (entry j).sound) && codesUnique table
    let off : Half := BitVec.ofNat 16 (0x100 + 8 * e.val)
    (ok = true → exec (.bayCommandTableWrite tag e data) s = .next ({ s.heard with
      policy := { s.policy with commands := table } }.answered tag 0x03 off .ok [])) ∧
    (ok = false → exec (.bayCommandTableWrite tag e data) s = .next ({ s.heard with
      flags := s.flags.raised .policy (2 ||| 8) }.answered tag 0x03 off .badValue []))) ∧
  (∀ (s : State) (tag : Byte) (e : Fin 8) (data : List Byte) (k : Nat), s.Takes →
    data.length = 16 * k → 1 ≤ k → k ≤ 2 → e.val + k ≤ 8 →
    let entry := fun j => (admissionOf ((data.drop (16 * j)).take 16)).clamp
    let table := (List.range k).foldl (fun l j => l.set (e.val + j) (entry j)) s.policy.admission
    let ok := (List.range k).all (fun j => (entry j).sound) && classesUnique table
    let off : Half := BitVec.ofNat 16 (0x200 + 16 * e.val)
    (ok = true → exec (.admissionTableWrite tag e data) s = .next
      ((State.closeEvent { s.heard with policy := { s.policy with admission := table },
                                        due := some .other }).answered tag 0x03 off .ok [])) ∧
    (ok = false → exec (.admissionTableWrite tag e data) s = .next ({ s.heard with
      flags := s.flags.raised .policy (2 ||| 8) }.answered tag 0x03 off .badValue []))) ∧
  (∀ (s : State) (tag : Byte) (e : Fin 6) (data : List Byte), s.Takes →
    1 ≤ data.length → e.val + data.length ≤ 6 →
    let table := (List.range data.length).foldl
      (fun l j => l.set (e.val + j) (BitVec.ofNat 6 (byteAt data j))) s.drop.table
    let off : Half := BitVec.ofNat 16 (0x68 + e.val)
    ((∀ b ∈ data, b.toNat < 64) → exec (.dropActionTableWrite tag e data) s = .next ({ s.heard with
      drop := { s.drop with table := table } }.answered tag 0x06 off .ok [])) ∧
    ((∃ b ∈ data, 64 ≤ b.toNat) → exec (.dropActionTableWrite tag e data) s =
      .next ({ s.heard with flags := s.flags.raised .motion (2 ||| 8) }.answered tag 0x06 off
        .badValue [])))

/-- LOCKOUT_LIMIT_WRITE (R20, R21, R51 to R53): the limit is clamped to 15; a failure count at or above
the new limit plus one becomes that, and raises a trip unless one is raised already. The trip moves
the bay to SILENT, where each request that waits is answered in queue order, a SHADOW read from the
record and any other with SILENT, and the maintenance work is discarded, a re-verification reporting
NO_ANSWER (R22); or it is deferred with SUPPLY_UNMONITORED on the sole supply, as an event of the
re-evaluation. A host request on the bus runs on (log 20). The trip's effects stand before the answer:
the model's choice (log 11). -/
def Obligations.LockoutLimitIsWritten : Prop :=
  ∀ (s : State) (tag limit : Byte) (i : BayId), s.Takes →
    let y := s.bay i
    let n := min 15 limit.toNat
    let p := { s.policy with lockoutLimit := s.policy.lockoutLimit.set i n }
    let off : Half := match i with | .a => 5 | .b => 6
    let defers := (y.state = .online ∨ (y.state = .identifying ∧ y.role = .kept)) ∧
      soleSupply s i = true
    (y.traffic.failures ≤ n → exec (.lockoutLimitWrite tag i limit) s =
      .next ({ s.heard with policy := p }.answered tag 0x03 off .ok [])) ∧
    (n < y.traffic.failures → y.traffic.tripRaised = true ∨ y.state.traffic = false →
      exec (.lockoutLimitWrite tag i limit) s = .next ({ s.heard with
        policy := p,
        bays := s.bays.set i { y with traffic := { y.traffic with
          failures := n + 1, tripRaised := true } } }.answered tag 0x03 off .ok [])) ∧
    (n < y.traffic.failures → y.traffic.tripRaised = false → defers →
      exec (.lockoutLimitWrite tag i limit) s = .next ((State.closeEvent { s.heard with
        policy := p, flags := s.flags.raised (baySpace i) 0x100, due := some .other,
        bays := s.bays.set i { y with tripDeferred := true, traffic := { y.traffic with
          failures := n + 1, tripRaised := true } } }).answered tag 0x03 off .ok [])) ∧
    (n < y.traffic.failures → y.traffic.tripRaised = false → y.state.traffic = true →
      ¬ defers → s.NoTrips → ∃ u : State,
        exec (.lockoutLimitWrite tag i limit) s = .next (u.answered tag 0x03 off .ok []) ∧
        u.policy = p ∧ (u.bay i).state = .silent ∧ (u.bay i).record = y.record ∧
        (u.bay i).traffic.waiting = [] ∧ (u.bay i).traffic.failures = n + 1 ∧
        (u.bay (otherBay i)).state = (s.bay (otherBay i)).state ∧
        (let silent := fun (h : HostRequest) =>
          let a := if h.shadow = true ∧ h.write = false
            then shadowAnswer s.policy y.record (h.offset.setWidth 8) h.snoop else (.silent, [])
          hostResponse i h a.1 a.2
         let reported := y.traffic.reverify = some .record ∨
          ∃ x, y.traffic.bus = some x ∧ x.owner = .reverify .record
         let sent := s.heard.respondAll (y.traffic.waiting.map silent)
         let z := (u.bay i).traffic
         u.link = sent.link ∧ u.flags.hub = sent.flags.hub ∧
         u.drop.log = (if reported then onNewest (DropRecord.writeVerify i .noAnswer) s.drop.log
          else s.drop.log) ∧
         z.alert = false ∧ z.ident = none ∧ z.reverify = none ∧ z.round = none ∧
         z.pollTimer = none ∧
         (y.traffic.bus = none → z.bus = none) ∧
         ∀ x, y.traffic.bus = some x → ∀ r b, x.owner = .host r b → z.bus = some x))

/-- SENSOR_ENABLE_WRITE (R95, R106): the setting is evaluated at the write. STALE_LIMIT_WRITE (R101,
R107): the limit is clamped, and each running stale timer is re-armed by the age of the latest sample
or expires at once. -/
def Obligations.LightSettingsActAtOnce : Prop :=
  (∀ (s : State) (tag value : Byte) (i : SensorId), s.Takes →
    let r := s.light.sensor i
    let off : Half := match i with | .front => 5 | .rear => 6
    let after := fun (r' : Sensor) => exec (.sensorEnableWrite tag i value) s = .next ({ s.heard with
      light := s.light.onSensor i fun _ => r' }.answered tag 0x05 off .ok [])
    (1 < value.toNat → exec (.sensorEnableWrite tag i value) s = .next ({ s.heard with
      flags := s.flags.raised .light (2 ||| 8) }.answered tag 0x05 off .badValue [])) ∧
    (value = 0 →
      (r.condition = .off → after { r with enable := false }) ∧
      (r.condition ≠ .off → after { r with
        enable := false, condition := .off, conversion := none, sample := none, stale := none,
        failures := 0 })) ∧
    (value = 1 →
      (s.ctl.mode ≠ .active → r.condition = .off → after { r with enable := true }) ∧
      (s.ctl.mode = .active → r.condition ≠ .off → after { r with enable := true }) ∧
      (s.ctl.mode = .active → r.condition = .off →
        after { r with
          enable := true, condition := .starting, failures := 0, discardOwed := true,
          conversion := if s.streams.replaces (sensorSource i) then r.conversion
            else some ⟨conversionMs r.step + 25, conversionMs r.step + 25⟩ }))) ∧
  (∀ (s : State) (tag : Byte) (value : Half), s.Takes → ∃ u : Light,
    exec (.staleLimitWrite tag value) s =
      .next ({ s.heard with light := u }.answered tag 0x05 0x0C .ok []) ∧
    u = { s.light with staleLimit := min 5000 (max 200 value.toNat), front := u.front,
                       rear := u.rear } ∧
    ∀ i, ((s.light.sensor i).stale = none → u.sensor i = s.light.sensor i) ∧
      ∀ t, (s.light.sensor i).stale = some t →
        (t.period - t.left < u.staleLimit → u.sensor i = { s.light.sensor i with
          stale := some ⟨u.staleLimit, u.staleLimit - (t.period - t.left)⟩ }) ∧
        (u.staleLimit ≤ t.period - t.left → u.sensor i = { s.light.sensor i with
          stale := none,
          condition := if (s.light.sensor i).condition = .fresh then .stale
            else (s.light.sensor i).condition }))

/-- L_MAX_WRITE and Q_WRITE (R86, R116, R117, R119, R126): the value is clamped, the two controllers
take it in the same event, and the output stands within the new ceiling with its drive word. Nothing
is said of the order of the two computations, which is open (log 13). -/
def Obligations.CeilingWritesActAtOnce : Prop :=
  ∀ (s : State) (tag : Byte) (value : Half), s.Takes → s.NoTrips → s.PanelSound →
    ∀ c, (c = .lMaxWrite tag value ∨ c = .qWrite tag value) → ∃ u : State,
      exec c s = .next (u.answered tag 0x05 (if c = .lMaxWrite tag value then 0x16 else 0x18)
        .ok []) ∧
      u = { s.heard with bays := u.bays, supply := u.supply, back := u.back, ctl := u.ctl,
                         flags := u.flags,
                         drop := { s.drop with parkPin := u.drop.parkPin }, choice := u.choice } ∧
      u.back = { s.back with
        lMax := if c = .lMaxWrite tag value then min 2000 (max 100 value.toNat) else s.back.lMax,
        q := if c = .qWrite tag value then min 4095 (max 1 value.toNat) else s.back.q,
        pbl := u.back.pbl, lpow := min u.back.lMax (u.back.pbl * 64 / u.back.q),
        lout := u.back.lout, drive := u.back.lout * 4095 / u.back.lMax,
        lastSent := u.back.lastSent } ∧
      u.back.lout ≤ u.back.lpow ∧ u.back.lout ≤ s.back.lout ∧ u.back.pbl = u.supply.pbl ∧
      u.supply.pbl = min (u.back.lMax * u.back.q / 64)
        (u.supply.pAvail - u.supply.reserve - 5000)

/-- SUPPLY_SETTING_WRITE (R87): each setting is clamped, kept beside the others, and taken as an event
of the re-evaluation; an extent off the field boundaries is BAD_OFFSET (R184). The effects, and the
answers that a deferred trip gives among them, stand before the OK: the model's choice (log 11). -/
def Obligations.SupplySettingsAreEvents : Prop :=
  ∀ (s : State) (tag : Byte) (data : List Byte), s.Takes →
    let v := leNat data
    let after := fun (off : Half) (u : Supply) => exec (.supplySettingWrite tag off data) s = .next
      ((State.closeEvent { s.heard with supply := u, due := some .other }).answered tag 0x04 off
        .ok [])
    (data.length = 1 →
      (∀ h, holdOf v = some h → after 0x20 { s.supply with holdSetting := h }) ∧
      (holdOf v = none → exec (.supplySettingWrite tag 0x20 data) s = .next ({ s.heard with
        flags := s.flags.raised .supply (2 ||| 8) }.answered tag 0x04 0x20 .badValue [])) ∧
      after 0x23 { s.supply with bridgeLimit := min 120 (max 10 v) } ∧
      after 0x24 { s.supply with saveWindow := min 30 (max 1 v) } ∧
      exec (.supplySettingWrite tag 0x21 data) s = .next ({ s.heard with
        flags := s.flags.raised .supply (1 ||| 8) }.answered tag 0x04 0x21 .badOffset [])) ∧
    (data.length = 2 →
      after 0x21 { s.supply with readyThreshold := min 4100 (max 3400 v) } ∧
      after 0x25 { s.supply with bridgePower := min 40000 (max 5000 v) } ∧
      after 0x30 { s.supply with shareWindow := min 1000 (max 50 v) } ∧
      after 0x23 { s.supply with
        bridgeLimit := min 120 (max 10 (leNat (data.take 1))),
        saveWindow := min 30 (max 1 (leNat (data.drop 1))) }) ∧
    (data.length = 4 →
      after 0x28 { s.supply with normalReserve := min 200000 v } ∧
      after 0x2C { s.supply with bridgeReserve := min 200000 v })

/-- ATTENTION_ENABLE_WRITE (R186), ALERT_FORWARDING_WRITE (R190) and STREAM_CONTROL_WRITE (R161): what
is refused, what is stored, the packets that a switch off discards, and what a READ of a stream
control returns. -/
def Obligations.LinkControlsAreWritten : Prop :=
  ∀ (s : State) (tag v w : Byte), s.Takes →
    let refused := fun (c : Instr) (sp : Space) (off : Half) => exec c s = .next ({ s.heard with
      flags := s.flags.raised sp (2 ||| 8) }.answered tag (spaceDest sp) off .badValue [])
    let hub := fun (c : Instr) (off : Half) (l : Link) =>
      exec c s = .next ({ s.heard with link := l }.answered tag 0x00 off .ok [])
    let stream := fun (st : StreamId) (off : Half) (u : Streams) (l : Link) =>
      exec (.streamControlWrite tag st v w) s =
        .next ({ s.heard with streams := u, link := l }.answered tag 0x06 off .ok [])
    readAnswer s .motion 0x70 2 = (.ok, boolByte s.streams.accel.enabled ++
      le8 s.streams.accel.divider) ∧
    readAnswer s .motion 0x72 2 = (.ok, boolByte s.streams.light.enabled ++
      le8 s.streams.light.divider) ∧
    (let unused := fun (r : State) => r.streams.accel.divider = 1 ∧ r.streams.light.divider = 1
     unused s.fullReset ∧ unused s.controlReset ∧ unused s.powerOn) ∧
    (128 ≤ v.toNat → refused (.attentionEnableWrite tag v) .hub 8) ∧
    (v.toNat < 128 → hub (.attentionEnableWrite tag v) 8
      { s.heard.link with attention := v.setWidth 7 }) ∧
    (1 < v.toNat → refused (.alertForwardingWrite tag v) .hub 7 ∧
      refused (.streamControlWrite tag .accel v w) .motion 0x70 ∧
      refused (.streamControlWrite tag .light v w) .motion 0x72) ∧
    (v = 0 →
      hub (.alertForwardingWrite tag v) 7
        { s.heard.link with alertForwarding := false, alerts := [] } ∧
      stream .accel 0x70 { s.streams with accel := { s.streams.accel with enabled := false } }
        { s.heard.link with
          accelSlot := if s.streams.accel.enabled then none else s.link.accelSlot } ∧
      stream .light 0x72 { s.streams with light := { s.streams.light with enabled := false } }
        { s.heard.link with
          lightSlot := if s.streams.light.enabled then none else s.link.lightSlot }) ∧
    (v = 1 →
      hub (.alertForwardingWrite tag v) 7 { s.heard.link with alertForwarding := true } ∧
      (s.streams.accel.enabled = true → stream .accel 0x70 s.streams s.heard.link) ∧
      (s.streams.light.enabled = true → stream .light 0x72 s.streams s.heard.link) ∧
      (s.streams.accel.enabled = false → stream .accel 0x70
        { s.streams with accel := ⟨true, min 255 (max 1 w.toNat), 0, 0⟩ } s.heard.link) ∧
      (s.streams.light.enabled = false → stream .light 0x72
        { s.streams with light := ⟨true, min 255 (max 1 w.toNat), 0, 0⟩ } s.heard.link))

/-- STIMULUS_CONTROL_WRITE (R165, R106, R143, R168): unknown codes are refused; otherwise replacements
begin and end source by source (at the end the failure count is 0: log 24), and outputs that are driven stand at their computed levels. -/
def Obligations.StimulusReplacesSources : Prop :=
  ∀ (s : State) (tag on sources drives : Byte), s.Takes →
    let c := Instr.stimulusControlWrite tag on sources drives
    (1 < on.toNat ∨ 7 < sources.toNat ∨ 1 < drives.toNat → exec c s = .next ({ s.heard with
      flags := s.flags.raised .motion (2 ||| 8) }.answered tag 0x06 0x74 .badValue [])) ∧
    (on.toNat ≤ 1 → sources.toNat ≤ 7 → drives.toNat ≤ 1 → ∃ u : State,
      exec c s = .next (u.answered tag 0x06 0x74 .ok []) ∧
      u = { s.heard with streams := u.streams, light := u.light, motion := u.motion,
                         bays := u.bays,
                         drop := { s.drop with parkPin := u.drop.parkPin }, back := u.back } ∧
      u.streams = { s.streams with
        stimulusOn := on == 1, sources := sources.setWidth 3, drives := drives == 1 } ∧
      (∀ i, let before := s.streams.replaces (sensorSource i)
        let after := u.streams.replaces (sensorSource i)
        (before = after → u.light.sensor i = s.light.sensor i) ∧
        (before = false → after = true →
          u.light.sensor i = { s.light.sensor i with
            conversion := none }) ∧
        (before = true → after = false →
          u.light.sensor i = (s.light.sensor i).replacementEnds)) ∧
      (s.streams.replaces .accel = true → u.streams.replaces .accel = false →
        u.motion = { s.motion with accel := { s.motion.accel with
          condition := .starting, discards := 4,
          stale := ⟨s.motion.accel.odr.staleLimit, s.motion.accel.odr.staleLimit⟩ } }) ∧
      (s.streams.replaces .accel = false ∨ u.streams.replaces .accel = true →
        u.motion = s.motion) ∧
      (u.streams.stimulusOn = false ∨ u.streams.drives = true →
        u.drop = { s.drop with parkPin := s.drop.parkLine } ∧
        u.back = { s.back with lastSent := s.back.drive } ∧
        ∀ i, u.bay i = { s.bay i with solenoidPin := (s.bay i).solenoid }) ∧
      (u.streams.stimulusOn = true → u.streams.drives = false →
        u.drop = s.drop ∧ u.back = s.back ∧ u.bays = s.bays))

/-! ### The supply controller -/

/-- A re-evaluation (R78 to R86), with no trip deferred: the loss of supply in NORMAL (R71), its return
in BRIDGE (R72), STANDBY (R69) and STARTING (R70); the discharge roles from the selection voltages, the
share window and its hysteresis, and the kept paths; the charge role of the candidates; LAST_SUPPLY;
P_avail and P_bl, handed to the panel. Everything else of both bays but the latch, and every other
block, is as the event left it. With a trip deferred: none is left deferred on a free bus once its
condition has ended (R53). One re-evaluation is taken at the end of an event, and another after a trip
taken there: the model's reading (log 9). -/
def Obligations.ReEvaluationSetsTheSupplyPath : Prop :=
  (∀ (s : State) (ev : SupplyEvent) (i : BayId), s.due = some ev →
    let t := s.closeEvent
    t.due = none ∧ ((t.bay i).tripDeferred = true → (s.bay i).tripDeferred = true ∧
      (soleSupply t i = true ∨ (t.bay i).traffic.bus.isSome = true)) ∧
    ((s.bay i).tripDeferred = true → (t.bay i).tripDeferred = false →
      (t.bay i).state = .silent)) ∧
  ∀ (s : State) (ev : SupplyEvent), s.due = some ev → s.NoTrips →
    let t := s.closeEvent
    let exist := supplyExists s
    let started := { s.supply with
      hold := some ⟨s.supply.holdSetting.ms, s.supply.holdSetting.ms⟩ }
    let ends := fun (u : Supply) (flags : SpaceFlags) =>
      t.supply = { u with pAvail := t.supply.pAvail, pbl := t.supply.pbl } ∧ t.flags = flags
    (ev ≠ .pwrReqFall →
      (s.supply.state = .normal → exist = true → ends s.supply s.flags) ∧
      (s.supply.state = .normal → exist = false → s.supply.available = true →
        ends { s.supply with
          state := .bridge,
          bridgeRun := some ⟨1000 * s.supply.bridgeLimit, 1000 * s.supply.bridgeLimit⟩ } s.flags ∧
        platformEn t = true) ∧
      (s.supply.state = .normal → exist = false → s.supply.available = false →
        ends { s.supply with
          state := .standby, stopCause := .supplyLost, barrier := s.lines.pwrReq, hold := none,
          bridgeRun := none, save := none } (s.flags.raised .supply 0x40) ∧
        platformEn t = false) ∧
      (s.supply.state = .bridge → exist = true →
        ends { s.supply with state := .normal, hold := none, bridgeRun := none, save := none }
          s.flags ∧ platformEn t = true) ∧
      (s.supply.state = .starting → exist = false →
        ends { s.supply with hold := none } s.flags) ∧
      (s.supply.state = .starting → exist = true → ev ≠ .holdExpiry →
        (s.supply.hold = none → ends started s.flags) ∧
        (s.supply.hold.isSome = true → ends s.supply s.flags))) ∧
    (s.supply.state = .standby →
      (s.lines.pwrReq = true → exist = true → s.supply.barrier = false →
        ends { started with state := .starting } s.flags) ∧
      (s.lines.pwrReq = false ∨ exist = false ∨ s.supply.barrier = true →
        ends s.supply s.flags)) ∧
    let vHi := max (if s.bays.a.eligible then s.bays.a.selectionVoltage else 0)
      (if s.bays.b.eligible then s.bays.b.selectionVoltage else 0)
    t = { s with bays := t.bays, supply := t.supply, back := t.back, ctl := t.ctl,
                 flags := t.flags,
                 drop := { s.drop with parkPin := t.drop.parkPin }, due := none } ∧
    (∀ i, let y := s.bay i
      let z := t.bay i
      z = { y with role := z.role, charging := z.charging, latch := z.latch,
                   latchLimit := z.latchLimit, solenoid := z.solenoid,
                   solenoidPin := z.solenoidPin,
                   reasons := { y.reasons with lastSupply := soleSupply t i } } ∧
      (t.supply.state ≠ .normal ∨ t.supply.adapter.isSome = true → z.role = .off) ∧
      (t.supply.state = .normal → t.supply.adapter = none →
        (y.eligible = true → z.role =
          if vHi ≤ y.selectionVoltage + s.supply.shareWindow + (if y.role = .off then 0 else 50)
          then .candidate else .off) ∧
        (y.eligible = false → z.role =
          if y.role = .kept ∧ y.state = .identifying then .kept else .off))) ∧
    (let a := chargeCandidate s.policy t.supply s.bays.a
     let b := chargeCandidate s.policy t.supply s.bays.b
     (a = none → t.bays.a.charging = false) ∧ (b = none → t.bays.b.charging = false) ∧
     (a.isSome = true → b = none → t.bays.a.charging = true) ∧
     (b.isSome = true → a = none → t.bays.b.charging = true) ∧
     (∀ x z, a = some x → b = some z →
       t.bays.b.charging = !t.bays.a.charging ∧
       (s.bays.a.charging = true → t.bays.a.charging = decide (x < z + 10)) ∧
       (s.bays.a.charging = false → s.bays.b.charging = true →
         t.bays.b.charging = decide (z < x + 10)) ∧
       (s.bays.a.charging = false → s.bays.b.charging = false →
         t.bays.a.charging = decide (x ≤ z)))) ∧
    t.supply.pAvail = availablePower t ∧
    t.supply.pbl = min (s.back.lMax * s.back.q / 64) (t.supply.pAvail - t.supply.reserve - 5000) ∧
    t.back.pbl = t.supply.pbl

/-- The power available (R85) by supply state, with the adapter's rated power by its code (R77): in
NORMAL without an adapter the sum over the discharging bays of V times the class entry's maximum
current, V the measured voltage or else the design voltage (0 while neither is present, R85). -/
def Obligations.PowerAvailableByState : Prop :=
  ∀ s : State,
    let share := fun (y : Bay) =>
      let v := match y.record.voltage, y.record.identity with
        | some v, _ => v.value
        | none, some d => d.designMv
        | none, none => 0
      let current := match y.record.identity with
        | some d => ((s.policy.classEntry d.cls).map fun e => e.iMax.toNat).getD 0
        | none => 0
      if y.role = .off then 0 else v * current / 1000
    (s.supply.state = .standby ∨ s.supply.state = .starting ∨ s.supply.state = .save →
      availablePower s = 0) ∧
    (s.supply.state = .bridge → availablePower s = s.supply.bridgePower) ∧
    (s.supply.state = .normal →
      (s.supply.adapter = some 0 ∨ s.supply.adapter = some 1 → availablePower s = 45000) ∧
      (s.supply.adapter = some 2 → availablePower s = 65000) ∧
      (s.supply.adapter = some 3 → availablePower s = 90000) ∧
      (s.supply.adapter = none →
        availablePower s = share (s.bay .a) + share (s.bay .b)))

/-- PWR_REQ and the supply timers (R69 to R74): the start of STARTING and its hold, the stop on the
host's word, the entries to NORMAL and to SAVE, and the two ends of SAVE. A timer that does not run
has no expiry (the model's choice, log 4), and a line at its level already is no change (log 31). The
loss and the return of supply are in `Obligations.ReEvaluationSetsTheSupplyPath`. -/
def Obligations.SupplyStateFollowsItsEvents : Prop :=
  ∀ s : State, s.due = none → s.NoTrips →
    let exist := supplyExists s
    let reaches := fun (c : Instr) (ok : State → Prop) => ∃ u : State, exec c s = .next u ∧
      u = { s with lines := u.lines, bays := u.bays, supply := u.supply, back := u.back,
                   ctl := u.ctl, flags := u.flags,
                   drop := { s.drop with parkPin := u.drop.parkPin } } ∧
      (∀ i, (u.bay i).state = (s.bay i).state ∧ (u.bay i).record = (s.bay i).record ∧
        (u.bay i).traffic = (s.bay i).traffic) ∧ ok u
    (s.lines.pwrReq = true → exec .pwrReqRise s = .next s) ∧
    (s.lines.pwrReq = false → s.supply.state = .standby → exist = true →
      s.supply.barrier = false → reaches .pwrReqRise fun u => u.lines.pwrReq = true ∧
        u.supply.state = .starting ∧
        u.supply.hold = some ⟨s.supply.holdSetting.ms, s.supply.holdSetting.ms⟩ ∧
        platformEn u = false) ∧
    (s.lines.pwrReq = false → s.supply.state = .standby →
      (exist = false ∨ s.supply.barrier = true) → reaches .pwrReqRise fun u =>
        u.lines.pwrReq = true ∧ u.supply.state = .standby ∧ u.supply.barrier = s.supply.barrier) ∧
    (s.lines.pwrReq = false → exec .pwrReqFall s = .next s) ∧
    (s.lines.pwrReq = true → s.supply.state = .standby → reaches .pwrReqFall fun u =>
      u.lines.pwrReq = false ∧ u.supply.state = .standby ∧ u.supply.barrier = false ∧
        u.supply.stopCause = s.supply.stopCause) ∧
    (s.lines.pwrReq = true → s.supply.state ≠ .standby → reaches .pwrReqFall fun u =>
      u.lines.pwrReq = false ∧ u.supply.state = .standby ∧ u.supply.stopCause = .hostRequest ∧
        u.supply.barrier = false ∧ u.supply.hold = none ∧ u.supply.bridgeRun = none ∧
        u.supply.save = none ∧ u.supply.pbl = 0 ∧ platformEn u = false ∧
        u.flags = s.flags) ∧
    (s.supply.hold = none → exec .startUpHoldExpiry s = .next s) ∧
    (s.supply.hold.isSome = true → s.supply.state = .starting → exist = true →
      reaches .startUpHoldExpiry fun u => u.supply.state = .normal ∧ u.supply.hold = none ∧
        platformEn u = true) ∧
    (s.supply.bridgeRun = none → exec .bridgeRunExpiry s = .next s) ∧
    (s.supply.bridgeRun.isSome = true → s.supply.state = .bridge → exist = false →
      reaches .bridgeRunExpiry fun u => u.supply.state = .save ∧ u.supply.bridgeRun = none ∧
        u.supply.exhausted = true ∧
        u.supply.save = some ⟨1000 * s.supply.saveWindow, 1000 * s.supply.saveWindow⟩ ∧
        u.flags = s.flags.raised .supply 0x10 ∧ platformEn u = true ∧ u.supply.pbl = 0 ∧
        (s.ctl.mode ≠ .active → s.ctl.enables.getLsbD 4 = true →
          u.ctl.wake = true ∧ u.ctl.causes = s.ctl.causes ||| 0b10000)) ∧
    (s.supply.save = none → exec .saveTimerExpiry s = .next s) ∧
    (s.supply.save.isSome = true → s.supply.state = .save → exist = true →
      reaches .saveTimerExpiry fun u => u.supply.state = .normal ∧ u.supply.save = none ∧
        u.flags = s.flags.raised .supply 0x20) ∧
    (s.supply.save.isSome = true → s.supply.state = .save → exist = false →
      reaches .saveTimerExpiry fun u => u.supply.state = .standby ∧ u.supply.save = none ∧
        u.supply.stopCause = .saveEnd ∧ u.supply.barrier = s.lines.pwrReq ∧
        u.flags = s.flags.raised .supply 0x40 ∧ platformEn u = false)

/-- BRIDGE_SAMPLE (R71 to R73, R75, R76): the voltage, brought to 5,000 mV, with its time, and the next
interval; EXHAUSTED is cleared in NORMAL at the ready threshold; supply that is lost in NORMAL leaves
it for BRIDGE or STANDBY by the sample's own voltage, supply that exists in BRIDGE ends it, and a
sample below the cutoff ends BRIDGE and SAVE. That a sample above 5,000 mV counts as 5,000 is the model's choice (log 22). -/
def Obligations.BridgeSampleIsTaken : Prop :=
  ∀ (s : State) (mv : Half), s.due = none → s.NoTrips → ∃ u : State,
    exec (.bridgeSample mv) s = .next u ∧
    u = { s with bays := u.bays, supply := u.supply, back := u.back, ctl := u.ctl,
                 flags := u.flags,
                 drop := { s.drop with parkPin := u.drop.parkPin } } ∧
    u.supply.bridgeVoltage = some ⟨min 5000 mv.toNat, s.uptime⟩ ∧
    u.supply.converter = ⟨100, 100⟩ ∧ u.supply.adapter = s.supply.adapter ∧
    (s.supply.state = .normal → supplyExists s = true → u.supply.state = .normal ∧
      u.supply.exhausted =
        (s.supply.exhausted && decide (min 5000 mv.toNat < s.supply.readyThreshold))) ∧
    (s.supply.state = .normal → supplyExists s = false →
      (s.supply.readyThreshold ≤ min 5000 mv.toNat → u.supply.state = .bridge ∧
        u.supply.bridgeRun =
          some ⟨1000 * s.supply.bridgeLimit, 1000 * s.supply.bridgeLimit⟩) ∧
      (min 5000 mv.toNat < s.supply.readyThreshold → u.supply.state = .standby ∧
        u.supply.stopCause = .supplyLost ∧ u.flags = s.flags.raised .supply 0x40)) ∧
    (s.supply.state = .bridge → supplyExists s = true → u.supply.state = .normal ∧
      u.supply.bridgeRun = none) ∧
    (s.supply.state = .bridge → supplyExists s = false →
      (mv.toNat < 3300 → u.supply.state = .save ∧ u.supply.exhausted = true ∧
        u.supply.bridgeRun = none) ∧
      (3300 ≤ mv.toNat → u.supply.state = .bridge ∧ u.supply.exhausted = s.supply.exhausted)) ∧
    (s.supply.state = .save →
      (mv.toNat < 3300 → u.supply.state = .standby ∧ u.supply.stopCause = .bridgeEmpty) ∧
      (3300 ≤ mv.toNat → u.supply.state = .save))

/-! ### The bays -/

/-- CONTACT_RISE, CONTACT_FALL and LOSS_FILTER_EXPIRY (R2, R22, R27, R40 to R43): the loss filter and
its length, the contact arrival, and the contact loss: the host request on the bus is answered
BAY_ABSENT, then the queued ones in their order, a SHADOW read NO_DATA from the cleared record, and a
re-verification of the record reports NO_ANSWER. A filter that does not run has no expiry, and
a line at its level already no change: the model's reading (logs 4 and 31). -/
def Obligations.ContactMovesTheBay : Prop :=
  ∀ (s : State) (i : BayId), s.due = none →
    let y := s.bay i
    let line := s.lines.contact.get i
    let lines := fun (v : Bool) => { s.lines with contact := s.lines.contact.set i v }
    let other := s.bay (otherBay i)
    (line = true → exec (.contactRise i) s = .next s) ∧
    (line = false → y.contact = true → exec (.contactRise i) s =
      .next { s with lines := lines true, bays := s.bays.set i { y with loss := none } }) ∧
    (line = false → y.contact = false → y.state = .empty → other.tripDeferred = false →
      y.tripDeferred = false → ∃ u : State, exec (.contactRise i) s = .next u ∧
        u = { s with lines := lines true, bays := u.bays, supply := u.supply, back := u.back,
                     ctl := u.ctl, flags := u.flags,
                     drop := { s.drop with parkPin := u.drop.parkPin } } ∧
        (u.bay i).state = .seated ∧ (u.bay i).contact = true ∧ (u.bay i).loss = none ∧
        (u.bay i).timer = some ⟨.settle, ⟨s.policy.settleTime, s.policy.settleTime⟩,
          hasAction s.drop.inForce .freeze⟩ ∧
        (u.bay (otherBay i)).state = other.state ∧
        (s.ctl.mode = .active → u.ctl.causes = s.ctl.causes) ∧
        (s.ctl.mode ≠ .active → s.ctl.enables.getLsbD 0 = true → u.ctl.wake = true)) ∧
    (line = false → exec (.contactFall i) s = .next s) ∧
    (line = true → y.contact = false → exec (.contactFall i) s =
      .next { s with lines := lines false }) ∧
    (line = true → y.contact = true → exec (.contactFall i) s = .next { s with
      lines := lines false,
      bays := s.bays.set i { y with loss := some ⟨0, decide (s.motion.guard ≠ .calm)⟩ } }) ∧
    (y.loss = none ∨ line = true → exec (.lossFilterExpiry i) s = .next s) ∧
    (y.loss.isSome = true → line = false → y.state ≠ .empty → other.tripDeferred = false →
      ∃ u : State, exec (.lossFilterExpiry i) s = .next u ∧
        let y' := y.traffic
        let reported := y'.reverify = some .record ∨
          ∃ x, y'.bus = some x ∧ x.owner = .reverify .record
        let absent := fun (r : HostRequest) => hostResponse i r
          (if r.shadow = true ∧ r.write = false then .noData else .bayAbsent) []
        let answers := (match y'.bus.map Transaction.owner with
          | some (.host r true) => [hostResponse i r .bayAbsent []]
          | _ => []) ++ y'.waiting.map absent
        let sent := s.respondAll answers
        u = { s with bays := u.bays, supply := u.supply, back := u.back, ctl := u.ctl,
                     flags := u.flags, link := sent.link,
                     drop := { s.drop with
                       parkPin := u.drop.parkPin,
                       log := if reported
                         then onNewest (DropRecord.writeVerify i .noAnswer) s.drop.log
                         else s.drop.log } } ∧
        u.flags.hub = sent.flags.hub ∧
        u.flags.get (baySpace i) =
          s.flags.get (baySpace i) ||| (if y.state = .releasing then 0x10 else 0x30) ∧
        (let z := u.bay i
         z.state = .empty ∧ z.contact = false ∧ z.loss = none ∧ z.timer = none ∧
         z.record = .absent ∧ z.tripDeferred = false ∧ z.decisionDeferred = false ∧
         z.returnPending = false ∧ z.role = .off ∧ z.charging = false ∧ z.traffic.waiting = [] ∧
         z.traffic.bus = none ∧ z.traffic.failures = 0 ∧ z.traffic.ident = none ∧
         z.traffic.pollTimer = none) ∧
        (u.bay (otherBay i)).state = other.state ∧
        (u.bay (otherBay i)).record = other.record)

/-- RELEASE_INTENT_CHANGE, INTENT_FILTER_EXPIRY and RELEASE_TIMER_EXPIRY (R46 to R48, R54): the
intent filter, the release of an ONLINE bay with its latch open, the denial, and the return to
ONLINE, held back while the guard is active. A timer that does not run has no expiry, and a line at
its level already no change: the model's reading (logs 4 and 31). -/
def Obligations.ReleaseFollowsIntent : Prop :=
  ∀ (s : State) (i : BayId), s.due = none → s.NoTrips →
    let y := s.bay i
    let closed := s.lines.intent.get i
    let opens := y.latch = .unlocked ∨ y.latch = .lockFailed
    let calm := s.motion.guard = .calm
    let taken := { y with intentFilter := none, intent := closed }
    let woken := if closed then { s with ctl := s.ctl.wakeEvent .releaseIntent } else s
    let filter := Instr.intentFilterExpiry i
    let moves := fun (c : Instr) (ok : Bay → Prop) => ∃ u : State, exec c s = .next u ∧
      u = { s with bays := u.bays, supply := u.supply, back := u.back, ctl := u.ctl,
                   flags := u.flags,
                   drop := { s.drop with parkPin := u.drop.parkPin } } ∧
      (u.bay i).record = y.record ∧ (u.bay (otherBay i)).state = (s.bay (otherBay i)).state ∧
      (u.bay (otherBay i)).record = (s.bay (otherBay i)).record ∧ ok (u.bay i)
    (∀ v, (closed = v → exec (.releaseIntentChange i v) s = .next s) ∧
      (closed ≠ v → exec (.releaseIntentChange i v) s = .next { s with
        lines := { s.lines with intent := s.lines.intent.set i v },
        bays := s.bays.set i { y with
          intentFilter := if v = y.intent then none else some ⟨20, 20⟩ } })) ∧
    (y.intentFilter = none → exec filter s = .next s) ∧
    (y.intentFilter.isSome = true → closed = true → ¬ opens → exec filter s = .next { woken with
      bays := s.bays.set i taken, flags := s.flags.raised (baySpace i) 0x40 }) ∧
    (y.intentFilter.isSome = true → closed = true → opens → y.state ≠ .online →
      (y.state ≠ .releasing ∨ y.returnPending = false) →
      exec filter s = .next { woken with bays := s.bays.set i taken }) ∧
    (y.intentFilter.isSome = true → closed = true → opens → y.state = .releasing →
      y.returnPending = true → moves filter fun z => z.state = .releasing ∧
        z.returnPending = false ∧
        z.timer = some ⟨.release, ⟨1000 * s.policy.releaseTime, 1000 * s.policy.releaseTime⟩,
          hasAction s.drop.inForce .freeze⟩) ∧
    (y.intentFilter.isSome = true → closed = true → opens → y.state = .online →
      moves filter fun z => z.state = .releasing ∧ z.intent = true ∧ z.intentFilter = none ∧
        z.role = .off ∧ z.charging = false ∧
        z.timer = some ⟨.release, ⟨1000 * s.policy.releaseTime, 1000 * s.policy.releaseTime⟩,
          hasAction s.drop.inForce .freeze⟩) ∧
    (y.intentFilter.isSome = true → closed = false → y.state ≠ .releasing →
      exec filter s = .next { s with bays := s.bays.set i taken }) ∧
    (y.intentFilter.isSome = true → closed = false → y.state = .releasing →
      (calm → moves filter fun z => z.state = .online ∧ z.intent = false ∧ z.timer = none) ∧
      (¬ calm → moves filter fun z => z.state = .releasing ∧ z.intent = false ∧
        z.returnPending = true ∧ z.timer = none)) ∧
    (y.timer = none ∨ (∃ t, y.timer = some t ∧ (t.kind = .settle ∨ t.paused = true)) →
      exec (.releaseTimerExpiry i) s = .next s) ∧
    ((∃ t, y.timer = some t ∧ t.kind = .release ∧ t.paused = false) → y.state = .releasing →
      y.contact = true →
      (calm → moves (.releaseTimerExpiry i) fun z => z.state = .online ∧ z.timer = none) ∧
      (¬ calm → moves (.releaseTimerExpiry i) fun z => z.state = .releasing ∧
        z.returnPending = true ∧ z.timer = none))

/-- LOCK_CONFIRM and the two confirm limits (R60, R61, R168): what each latch state makes of them. A
limit that does not run has no expiry, and a line at its level already no change: the model's
reading (logs 4 and 31). -/
def Obligations.LatchFollowsLockConfirm : Prop :=
  ∀ (s : State) (i : BayId), s.OutputsSound →
    let y := s.bay i
    let high := s.lines.lockConfirm.get i
    let line := fun (v : Bool) => { s.lines with lockConfirm := s.lines.lockConfirm.set i v }
    let after := fun (c : Instr) (l : Lines) (f : SpaceFlags) (z : Bay) =>
      exec c s = .next { s with lines := l, flags := f, bays := s.bays.set i { z with
        solenoidPin := if undriven s then y.solenoidPin else z.solenoid } }
    let fault := s.flags.raised (baySpace i) 0x80
    (high = true → exec (.lockConfirmRise i) s = .next s) ∧
    (high = false →
      (y.latch = .engaging → after (.lockConfirmRise i) (line true) s.flags
        { y with latch := .locked, latchLimit := none }) ∧
      (y.latch ≠ .engaging → after (.lockConfirmRise i) (line true) s.flags y)) ∧
    (high = false → exec (.lockConfirmFall i) s = .next s) ∧
    (high = true →
      (y.latch = .disengaging → after (.lockConfirmFall i) (line false) s.flags
        { y with latch := .unlocked, latchLimit := none, solenoid := false }) ∧
      (y.latch = .locked → y.reasons.held = true → after (.lockConfirmFall i) (line false) s.flags
        { y with latch := .engaging, latchLimit := some ⟨100, 100⟩, solenoid := true }) ∧
      (y.latch = .unlocked ∨ y.latch = .engaging ∨ y.latch = .lockFailed →
        after (.lockConfirmFall i) (line false) s.flags y)) ∧
    (y.latchLimit = none → exec (.engageLimitExpiry i) s = .next s ∧
      exec (.disengageLimitExpiry i) s = .next s) ∧
    (y.latchLimit.isSome = true → y.latch = .engaging →
      after (.engageLimitExpiry i) s.lines fault
        { y with latch := .lockFailed, latchLimit := none, solenoid := false }) ∧
    (y.latchLimit.isSome = true → y.latch = .disengaging →
      after (.disengageLimitExpiry i) s.lines fault
        { y with latch := .unlocked, latchLimit := none, solenoid := false })

/-- ADAPTER_SENSE_CHANGE and ADAPTER_FILTER_EXPIRY (R77): the two 10 ms filters, and a change taken:
the adapter record, ADAPTER_CHANGED, and an adapter-change event. A filter that does not run has no
expiry: the model's choice (log 4). -/
def Obligations.AdapterChangesAreFiltered : Prop :=
  ∀ (s : State), s.due = none → s.NoTrips →
    let changed := fun (f : AdapterFilter) (a : Option (Fin 4)) => ∃ u : State,
      exec (.adapterFilterExpiry f) s = .next u ∧
      u = { s with bays := u.bays, supply := u.supply, back := u.back, ctl := u.ctl,
                   flags := u.flags,
                   drop := { s.drop with parkPin := u.drop.parkPin } } ∧
      u.supply.adapter = a ∧ u.supply.codeFilter = none ∧
      u.flags.supply &&& 0x80 = 0x80 ∧
      (s.ctl.mode ≠ .active → s.ctl.enables.getLsbD 2 = true → u.ctl.wake = true) ∧
      (∀ i, (u.bay i).state = (s.bay i).state ∧ (u.bay i).record = (s.bay i).record ∧
        (a.isSome = true → (u.bay i).role = .off ∧ (u.bay i).reasons.lastSupply = false))
    (∀ (present : Bool) (code : Fin 4), ∃ u : Supply,
      exec (.adapterSenseChange present code) s = .next { s with
        lines := { s.lines with adapterSense := present, ratingPins := code }, supply := u } ∧
      u = { s.supply with presenceFilter := u.presenceFilter, codeFilter := u.codeFilter } ∧
      (present = s.supply.adapter.isSome → u.presenceFilter = none) ∧
      (present ≠ s.supply.adapter.isSome → present ≠ s.lines.adapterSense →
        u.presenceFilter = some ⟨10, 10⟩) ∧
      (present ≠ s.supply.adapter.isSome → present = s.lines.adapterSense →
        s.supply.presenceFilter.isSome = true → u.presenceFilter = s.supply.presenceFilter) ∧
      (s.supply.adapter = none ∨ s.supply.adapter = some code → u.codeFilter = none) ∧
      (∀ c, s.supply.adapter = some c → code ≠ c → code ≠ s.lines.ratingPins →
        u.codeFilter = some ⟨10, 10⟩)) ∧
    (s.supply.presenceFilter = none → exec (.adapterFilterExpiry .presence) s = .next s) ∧
    (s.supply.presenceFilter.isSome = true →
      changed .presence (if s.lines.adapterSense then some s.lines.ratingPins else none)) ∧
    (s.supply.codeFilter = none ∨ s.supply.adapter = none →
      exec (.adapterFilterExpiry .code) s = .next s) ∧
    (s.supply.codeFilter.isSome = true → s.supply.adapter.isSome = true →
      changed .code (some s.lines.ratingPins))

/-! ### Pack traffic -/

/-- ALERT_ASSERTED (R13, R14), PARK_ACK_CHANGE (R147), POLL_TIMER_EXPIRY (R17, R18) and
SETTLE_TIMER_EXPIRY (R15, R42, R44): what each leaves pending, and on a free bus with nothing to go
before it the read that is granted; a settled bay without an entry to read is TABLE_INCOMPLETE. Then
how an alert read ends, with its ALERT packet (R14, R190; the word as read: log 25) or, NACK or TIMEOUT,
as a failure that is not repeated, and a poll read, with the round's next read, also after a failure
(R18), and the re-admission test (R36). A timer that does not run has no expiry, and a limit acts once
it has run down (the model's choice, log 4). -/
def Obligations.AlertsPollsAndSettles : Prop :=
  ∀ (s : State) (i : BayId), s.due = none →
    let y := s.bay i
    let free := y.traffic.bus = none ∧ y.tripDeferred = false ∧ y.traffic.waiting = []
    let limit : Timer := ⟨s.policy.transactionLimit, s.policy.transactionLimit⟩
    let own := fun (o : Owner) (e : CommandEntry) (f : SnoopField) =>
      some (⟨o, e.code, false, e.size, [], f, limit⟩ : Transaction)
    let traffic := fun (c : Instr) (t : Traffic) =>
      exec c s = .next { s with bays := s.bays.set i { y with traffic := t } }
    let poll := (pollPeriod s.policy s.ctl.mode).map fun p => (⟨p, p⟩ : Timer)
    let only := fun (u : State) =>
      u = { s with bays := u.bays, supply := u.supply, back := u.back, flags := u.flags,
                   link := u.link, drop := { s.drop with parkPin := u.drop.parkPin } } ∧
      (u.bay (otherBay i)).state = (s.bay (otherBay i)).state ∧
      (u.bay (otherBay i)).record = (s.bay (otherBay i)).record ∧
      (u.bay (otherBay i)).traffic = (s.bay (otherBay i)).traffic
    (y.state.traffic = false → exec (.alertAsserted i) s = .next s) ∧
    (y.state.traffic = true → y.traffic.bus.isSome = true →
      traffic (.alertAsserted i) { y.traffic with alert := true }) ∧
    (y.state.traffic = true → free → ∀ e, s.policy.ownEntry .alarms = some e →
      traffic (.alertAsserted i)
        { y.traffic with alert := false, bus := own .alert e .alarms }) ∧
    (∀ level, exec (.parkAckChange level) s = .next { s with
      lines := { s.lines with parkAck := level },
      drop := if level = true ∧ s.lines.parkAck = false ∧ hasAction s.drop.inForce .park = true
        then { s.drop with parkMark := true } else s.drop }) ∧
    (y.traffic.pollTimer = none → exec (.pollTimerExpiry i) s = .next s) ∧
    (y.traffic.pollTimer.isSome = true → y.traffic.bus.isSome = true →
      traffic (.pollTimerExpiry i)
        { y.traffic with pollTimer := poll, round := some (y.traffic.round.getD 0) }) ∧
    (y.traffic.pollTimer.isSome = true → y.state.traffic = true → free →
      y.traffic.alert = false → y.traffic.ident = none → y.traffic.reverify = none →
      ∀ n e, nextPoll (y.traffic.round.getD 0) s.policy.commands = some (n, e) →
        traffic (.pollTimerExpiry i) { y.traffic with
          pollTimer := poll, round := some (n + 1), lastServed := .maintenance,
          bus := own .poll e e.snoopField }) ∧
    (y.state ≠ .seated ∨ y.timerRuns .settle = false → exec (.settleTimerExpiry i) s = .next s) ∧
    (y.state = .seated → y.timerRuns .settle = true → free → y.traffic.alert = false →
      s.NoTrips →
      (∀ e, s.policy.ownEntry .cls = some e →
        ∃ u : State, exec (.settleTimerExpiry i) s = .next u ∧ only u ∧ u.link = s.link ∧
        (u.bay i).state = .identifying ∧ (u.bay i).timer = none ∧
        (u.bay i).record = { PackRecord.absent with
          suspect := y.record.suspect, outcome := y.record.outcome } ∧
        (u.bay i).traffic.bus = own (.identification 0) e .cls ∧
        (u.bay i).traffic.ident = some ⟨0, none, none, none⟩) ∧
      (s.policy.ownEntry .cls = none → y.traffic.reverify = none → y.traffic.round = none →
        ∃ u : State, exec (.settleTimerExpiry i) s = .next u ∧ only u ∧ u.link = s.link ∧
        (u.bay i).state = .quarantined ∧ (u.bay i).record.outcome = .tableIncomplete ∧
        (u.bay i).traffic.ident = none ∧ (u.bay i).traffic.bus = none)) ∧
    ∀ x, y.traffic.bus = some x → s.NoTrips → x.write = false → y.traffic.waiting = [] →
      y.traffic.alert = false → y.traffic.ident = none → y.traffic.reverify = none →
      (y.traffic.failures ≠ s.policy.lockoutLimit.get i →
        let more := if y.traffic.failures < s.policy.lockoutLimit.get i + 1
          then y.traffic.failures + 1 else y.traffic.failures
        let fails := fun (t : Traffic) =>
          traffic (.transactionCompletion i (.own .nack)) { t with failures := more } ∧
          (x.limit.left = 0 → traffic (.transactionLimitExpiry i) { t with failures := more })
        (x.owner = .alert → y.traffic.round = none → fails { y.traffic with bus := none }) ∧
        ∀ n, x.owner = .poll → y.traffic.round = some n → y.state.polls = true →
          (nextPoll n s.policy.commands = none →
            fails { y.traffic with bus := none, round := none }) ∧
          ∀ k e, nextPoll n s.policy.commands = some (k, e) →
            fails { y.traffic with
              bus := own .poll e e.snoopField, round := some (k + 1),
              lastServed := .maintenance }) ∧
      ∀ data, data.length = x.size.bytes →
        let v := leNat (data.take 2)
        let ack := exec (.transactionCompletion i (.own (.ack data))) s
        (x.owner = .alert → y.traffic.round = none → ∃ u : State, ack = .next u ∧ only u ∧
          (u.bay i).traffic.bus = none ∧ (u.bay i).traffic.failures = 0 ∧
          u.link = (if s.link.alertForwarding then (s.handAlert ⟨i, BitVec.ofNat 16 v⟩).link
            else s.link) ∧
          (y.record.identity = none → (u.bay i).record = y.record) ∧
          (y.record.identity.isSome = true →
            (u.bay i).record.alarms = some ⟨BitVec.ofNat 4 v, s.uptime⟩)) ∧
        ∀ n, x.owner = .poll → y.traffic.round = some n → y.state.polls = true →
          ∃ u : State, ack = .next u ∧ only u ∧ u.link = s.link ∧
          (u.bay i).traffic.failures = 0 ∧
          (nextPoll n s.policy.commands = none →
            (u.bay i).traffic.bus = none ∧ (u.bay i).traffic.round = none) ∧
          (∀ k e, nextPoll n s.policy.commands = some (k, e) →
            (u.bay i).traffic.bus = own .poll e e.snoopField ∧
            (u.bay i).traffic.round = some (k + 1)) ∧
          let r := y.record.writeField s.uptime v x.snoop
          let t := min 1250 (max (-400) (BitVec.ofNat 16 v).toInt)
          let back := x.snoop = .temperature ∧ s.motion.guard = .calm ∧ y.state = .quarantined ∧
            y.record.outcome = .tempOut ∧ ∃ e, classLimits s.policy y.record = some e ∧
              e.dMin.toInt + 20 ≤ t ∧ t ≤ e.dMax.toInt - 20
          let a := admissionCheck s.policy (s.bay (otherBay i)).record.identity r
          (y.record.identity = none →
            (u.bay i).record = y.record ∧ (u.bay i).state = y.state) ∧
          (y.record.identity.isSome = true → x.snoop ≠ .alarms →
            (¬ back → (u.bay i).record = r ∧ (u.bay i).state = y.state) ∧
            (back → (u.bay i).record = { r with outcome := a.2 } ∧ (u.bay i).state = a.1))

/-- TRANSACTION_COMPLETION and TRANSACTION_LIMIT_EXPIRY of a host request (R1, R2, R8): the answer, the
failure count (R20), the lockout trip at the limit plus one, its deferral and its withdrawal (R21,
R52, R53), and the snoop of a read: what each field writes with its marks, and the INHIBIT of an alarm
word (R19, R26, R29, R49). A failure at the limit raises no trip while one is raised already: the model's
choice (log 38). What the arbiter grants next (R9 to R12): an alert read before all, with the mark kept;
the oldest request that is not held, the queue keeping its order, or the preferred maintenance, in turns
by the mark; an alert read without an entry and a round without a further one are passed over, the round
with the mark kept, which is the model's choice (log 37). At entry to SILENT the requests that wait are
answered in their order and the maintenance work is discarded (R22). Premise of the other clauses: no
other work waits. On a free bus both commands do nothing, as do a late answer and an expiry whose limit
has not run down: the model's reading (logs 4 and 8). A snoop that ends the deferral of a trip is left
out. -/
def Obligations.HostTransactionEnds : Prop :=
  (∀ (r : PackRecord) (now v : Nat) (d : Identity),
    let word := BitVec.ofNat 4 v
    let pct := min 100 v
    let whole := { r with identity := some d }
    r.writeField now v .none = r ∧
    r.writeField now v .voltage = { r with voltage := some ⟨min 20000 v, now⟩ } ∧
    r.writeField now v .current =
      { r with current := some ⟨(BitVec.ofNat 16 v).toInt, now⟩ } ∧
    r.writeField now v .temperature = { r with
      temperature := some ⟨min 1250 (max (-400) (BitVec.ofNat 16 v).toInt), now⟩ } ∧
    r.writeField now v .chargePct = { r with
      chargePct := some ⟨pct, now⟩,
      depleted := r.depleted && (decide (pct < 10) || r.alarmWord.getLsbD 1) } ∧
    r.writeField now v .remaining = { r with remaining := some ⟨v, now⟩ } ∧
    r.writeField now v .full = { r with full := some ⟨v, now⟩ } ∧
    r.writeField now v .alarms = { r with
      alarms := some ⟨word, now⟩, depleted := r.depleted || word.getLsbD 1,
      chargeStop := word.getLsbD 2 } ∧
    whole.writeField now v .cls =
      { r with identity := some { d with cls := min 255 (max 1 v) } } ∧
    whole.writeField now v .designMv = { r with identity := some { d with designMv := v } } ∧
    whole.writeField now v .designMah = { r with identity := some { d with designMah := v } } ∧
    whole.writeField now v .serial = { r with identity := some { d with serial := v } }) ∧
  ∀ (s : State) (i : BayId), s.due = none →
    let y := s.bay i
    let quiet := y.traffic.waiting = [] ∧ y.traffic.alert = false ∧ y.traffic.ident = none ∧
      y.traffic.reverify = none ∧ y.traffic.round = none
    let ended := fun (n : Nat) (raised : Bool) => { s with bays := s.bays.set i { y with
      traffic := { y.traffic with bus := none, failures := n, tripRaised := raised } } }
    let answer := fun (t : State) (r : HostRequest) (o : Answer) (d : List Byte) =>
      t.answered r.tag (passDest i) r.offset o d
    let deferred := fun (t : State) (v : Bool) => { t with
      bays := t.bays.set i { t.bay i with tripDeferred := v }, due := some .other }
    (y.traffic.bus = none → exec (.transactionLimitExpiry i) s = .next s ∧
      ∀ a, exec (.transactionCompletion i (.own a)) s = .next s) ∧
    (∀ a, exec (.transactionCompletion i (.late a)) s = .next s) ∧
    ∀ x, y.traffic.bus = some x →
      (x.limit.left ≠ 0 → exec (.transactionLimitExpiry i) s = .next s) ∧
      (∀ r, x.owner = .host r true → y.state.traffic = true → s.NoTrips →
        let t := y.traffic
        let held := fun (h : HostRequest) => s.holdMask.getLsbD h.cls = true
        let allHeld := ∀ h ∈ t.waiting, s.holdMask.getLsbD h.cls = true
        let grants := fun (o : Owner) (code : Byte) (write : Bool) (size : XferSize)
            (data : List Byte) (f : SnoopField) =>
          some (⟨o, code, write, size, data, f,
            ⟨s.policy.transactionLimit, s.policy.transactionLimit⟩⟩ : Transaction)
        let own := fun (o : Owner) (e : CommandEntry) (f : SnoopField) =>
          grants o e.code false e.size [] f
        let idle := t.ident = none ∧ t.reverify = none ∧ t.round = none
        let arbiter := fun (c : Instr) (o : Answer) (n : Nat) (raised : Bool) =>
          let goes := fun (t' : Traffic) => exec c s = .next (answer { s with
            bays := s.bays.set i { y with
              traffic := { t' with failures := n, tripRaised := raised } } } r o [])
          let again := fun (t' : Traffic) => exec c s =
            exec c { s with bays := s.bays.set i { y with traffic := t' } }
          (t.alert = true →
            (∀ e, s.policy.ownEntry .alarms = some e →
              goes { t with alert := false, bus := own .alert e .alarms }) ∧
            (s.policy.ownEntry .alarms = none → again { t with alert := false })) ∧
          (t.alert = false →
            (idle → allHeld → goes { t with bus := none }) ∧
            (idle ∨ t.lastServed = .maintenance →
              ∀ (before : List HostRequest) (q : HostRequest) (after : List HostRequest),
                t.waiting = before ++ q :: after → (∀ h ∈ before, held h) → ¬ held q →
                goes { t with
                  waiting := before ++ after, lastServed := .host,
                  bus := grants (.host q true) (q.offset.setWidth 8) q.write
                    (if q.count = 2 then .word else .block q.count) q.data q.snoop }) ∧
            (t.lastServed = .host ∨ allHeld →
              (∀ d e, t.ident = some d → s.policy.ownEntry (identField d.next) = some e →
                goes { t with
                  lastServed := .maintenance,
                  bus := own (.identification d.next) e (identField d.next) }) ∧
              (t.ident = none → ∀ dest e, t.reverify = some dest →
                s.policy.ownEntry .serial = some e →
                goes { t with
                  reverify := none, lastServed := .maintenance,
                  bus := own (.reverify dest) e .serial }) ∧
              (t.ident = none → t.reverify = none → ∀ k, t.round = some k →
                (∀ m e, nextPoll k s.policy.commands = some (m, e) →
                  goes { t with
                    round := some (m + 1), lastServed := .maintenance,
                    bus := own .poll e e.snoopField }) ∧
                (nextPoll k s.policy.commands = none → again { t with round := none }))))
        let limit := s.policy.lockoutLimit.get i
        let more := if t.failures < limit + 1 then t.failures + 1 else t.failures
        (∀ data, x.write = true →
          arbiter (.transactionCompletion i (.own (.ack data))) .ok 0 false) ∧
        (t.failures ≠ limit →
          arbiter (.transactionCompletion i (.own .nack)) .nack more t.tripRaised ∧
          (x.limit.left = 0 → arbiter (.transactionLimitExpiry i) .timeout more t.tripRaised)) ∧
        (t.failures = limit → t.tripRaised = false →
          ¬ ((y.state = .online ∨ (y.state = .identifying ∧ y.role = .kept)) ∧
            soleSupply s i = true) →
          let silent := fun (h : HostRequest) =>
            let a := if h.shadow = true ∧ h.write = false
              then shadowAnswer s.policy y.record (h.offset.setWidth 8) h.snoop else (.silent, [])
            hostResponse i h a.1 a.2
          let ends := fun (c : Instr) (o : Answer) =>
            let sent := (answer s r o []).respondAll (t.waiting.map silent)
            ∃ u : State, exec c s = .next u ∧
            u = { s with bays := u.bays, supply := u.supply, back := u.back, flags := u.flags,
                         link := sent.link,
                         drop := { s.drop with
                           parkPin := u.drop.parkPin,
                           log := if t.reverify = some .record
                             then onNewest (DropRecord.writeVerify i .noAnswer) s.drop.log
                             else s.drop.log } } ∧
            u.flags.hub = sent.flags.hub ∧ (u.bay i).state = .silent ∧
            (u.bay i).record = y.record ∧ (u.bay i).timer = none ∧
            let z := (u.bay i).traffic
            z.waiting = [] ∧ z.bus = none ∧ z.alert = false ∧ z.ident = none ∧
            z.reverify = none ∧ z.round = none ∧ z.pollTimer = none ∧
            z.failures = limit + 1 ∧ z.tripRaised = true
          ends (.transactionCompletion i (.own .nack)) .nack ∧
          (x.limit.left = 0 → ends (.transactionLimitExpiry i) .timeout))) ∧
      ∀ r, quiet →
        let n := y.traffic.failures
        let limit := s.policy.lockoutLimit.get i
        let more := if n < limit + 1 then n + 1 else n
        let ack := fun (data : List Byte) => exec (.transactionCompletion i (.own (.ack data))) s
        let only := fun (u : State) (o : Answer) (data : List Byte) =>
          u = { s with bays := u.bays, supply := u.supply, back := u.back, flags := u.flags,
                       link := (answer s r o data).link,
                       drop := { s.drop with parkPin := u.drop.parkPin } } ∧
          (u.bay i).traffic.bus = none ∧
          (u.bay (otherBay i)).state = (s.bay (otherBay i)).state ∧
          (u.bay (otherBay i)).record = (s.bay (otherBay i)).record
        let fails := fun (c : Instr) (o : Answer) =>
          let lasts := (y.state = .online ∨ (y.state = .identifying ∧ y.role = .kept)) ∧
            soleSupply s i = true
          let out := answer (ended (n + 1) true) r o []
          (n ≠ limit → exec c s = .next (answer (ended more y.traffic.tripRaised) r o [])) ∧
          (n = limit → y.traffic.tripRaised = true ∨ y.state.traffic = false →
            exec c s = .next out) ∧
          (n = limit → y.traffic.tripRaised = false → y.state.traffic = true →
            (lasts → exec c s = .next (deferred
              { out with flags := out.flags.raised (baySpace i) 0x100 } true).closeEvent) ∧
            (¬ lasts → ∃ u : State, exec c s = .next u ∧ only u o [] ∧
              (u.bay i).state = .silent ∧ (u.bay i).record = y.record ∧
              (u.bay i).tripDeferred = false ∧ (u.bay i).traffic.failures = n + 1 ∧
              (u.bay i).traffic.tripRaised = true ∧ (u.bay i).role = .off ∧
              u.flags.get (baySpace i) = s.flags.get (baySpace i) ||| 0x10))
        (x.owner = .host r true → s.NoTrips → fails (.transactionCompletion i (.own .nack)) .nack ∧
          (x.limit.left = 0 → fails (.transactionLimitExpiry i) .timeout)) ∧
        (x.owner = .host r false → s.NoTrips → n ≠ limit →
          exec (.transactionCompletion i (.own .nack)) s = .next (ended more y.traffic.tripRaised) ∧
          (x.limit.left = 0 →
            exec (.transactionLimitExpiry i) s = .next (ended more y.traffic.tripRaised))) ∧
        (∀ data, x.owner = .host r true → x.write = true →
          (s.NoTrips → ack data = .next (answer (ended 0 false) r .ok [])) ∧
          (y.tripDeferred = true → ack data =
            .next (deferred (answer (ended 0 false) r .ok []) false).closeEvent)) ∧
        (∀ data, x.owner = .host r true → x.write = false → data.length = x.size.bytes →
          s.NoTrips → (x.snoop = .none ∨ y.record.identity = none) →
          ack data = .next (answer (ended 0 false) r .ok data)) ∧
        (∀ data, x.owner = .host r true → x.write = false → data.length = x.size.bytes →
          s.NoTrips → x.snoop ≠ .none → y.record.identity.isSome = true →
          ∃ u : State, ack data = .next u ∧ only u .ok data ∧
            (u.bay i).traffic.failures = 0 ∧ (u.bay i).traffic.tripRaised = false ∧
            let q := y.record.writeField s.uptime (leNat (data.take 2)) x.snoop
            let word := BitVec.ofNat 4 (leNat (data.take 2))
            let inhibits := x.snoop = .alarms ∧
              (word.getLsbD 0 = true ∨ word.getLsbD 3 = true) ∧
              (y.state = .online ∨ y.state = .quarantined ∨ y.state = .releasing)
            (¬ inhibits → (u.bay i).record = q ∧ (u.bay i).state = y.state) ∧
            (inhibits → (u.bay i).state = .inhibited ∧ (u.bay i).timer = none ∧
              (u.bay i).record = { q with
                outcome := if word.getLsbD 3 = true then .cellFault else .overTemp }))

/-- An identification's reads (R15, R25, R26, R44, R54): each acknowledged step is gathered and the
next read granted; SERIAL completes the identity part, from which VOLTAGE and TEMPERATURE are written;
the last read ends in the admission check with the guard CALM, and in DECISION_DEFERRED otherwise; a
failed read, NACK or TIMEOUT, is made again; a step for which no entry is found ends in QUARANTINED
with TABLE_INCOMPLETE. An expiry acts once its limit has run down (log 4). -/
def Obligations.IdentificationRunsItsReads : Prop :=
  ∀ (s : State) (i : BayId) (x : Transaction) (d : Identification) (data : List Byte),
    s.due = none → s.NoTrips →
    let y := s.bay i
    let v := leNat (data.take 2)
    let own := fun (n : Nat) (e : CommandEntry) =>
      some (⟨.identification n, e.code, false, e.size, [], identField n,
        ⟨s.policy.transactionLimit, s.policy.transactionLimit⟩⟩ : Transaction)
    let left := fun (d' : Identification) (e : CommandEntry) (n k : Nat) (raised : Bool) =>
      { s with bays := s.bays.set i { y with traffic := { y.traffic with
        bus := own n e, ident := some d', failures := k, tripRaised := raised,
        lastServed := .maintenance } } }
    let ack := exec (.transactionCompletion i (.own (.ack data))) s
    let n := y.traffic.failures
    let more := if n < s.policy.lockoutLimit.get i + 1 then n + 1 else n
    let incomplete := fun (c : Instr) (k : Nat) => ∃ u : State, exec c s = .next u ∧
      (u.bay i).state = .quarantined ∧
      (u.bay i).record = { y.record with outcome := .tableIncomplete } ∧
      (u.bay i).traffic.ident = none ∧ (u.bay i).traffic.bus = none ∧
      (u.bay i).traffic.failures = k ∧
      u.flags.get (baySpace i) = s.flags.get (baySpace i) ||| 0x10
    let writes := fun (f : SnoopField) (k : Nat) (e : CommandEntry) => ∃ u : State,
      ack = .next u ∧ (u.bay i).record = y.record.writeField s.uptime v f ∧
      (u.bay i).traffic.ident = some { d with next := k } ∧ (u.bay i).traffic.bus = own k e ∧
      (u.bay i).traffic.failures = 0 ∧ (u.bay i).state = .identifying
    y.traffic.bus = some x → y.traffic.ident = some d → y.state = .identifying →
    y.traffic.waiting = [] → y.traffic.alert = false → x.write = false →
    data.length = x.size.bytes →
    (∀ e, d.next = 0 → x.owner = .identification 0 →
      s.policy.ownEntry .designMv = some e →
      ack = .next (left { d with next := 1, cls := some (min 255 (max 1 v)) } e 1 0 false)) ∧
    (∀ e, d.next = 1 → x.owner = .identification 1 →
      s.policy.ownEntry .designMah = some e →
      ack = .next (left { d with next := 2, designMv := some v } e 2 0 false)) ∧
    (∀ e, d.next = 2 → x.owner = .identification 2 → s.policy.ownEntry .serial = some e →
      ack = .next (left { d with next := 3, designMah := some v } e 3 0 false)) ∧
    (∀ e c mv mah, d = ⟨3, some c, some mv, some mah⟩ → x.owner = .identification 3 →
      s.policy.ownEntry .voltage = some e → ∃ u : State, ack = .next u ∧
      (u.bay i).record = { y.record with identity := some ⟨c, mv, mah, v⟩ } ∧
      (u.bay i).traffic.ident = some { d with next := 4 } ∧ (u.bay i).traffic.bus = own 4 e ∧
      (u.bay i).state = .identifying) ∧
    (∀ e, d.next = 4 → x.owner = .identification 4 → y.record.identity.isSome = true →
      s.policy.ownEntry .temperature = some e → writes .voltage 5 e) ∧
    (∀ e, d.next = 5 → x.owner = .identification 5 → y.record.identity.isSome = true →
      s.policy.ownEntry .alarms = some e → writes .temperature 6 e) ∧
    (d.next = 6 → x.owner = .identification 6 → y.record.identity.isSome = true →
      y.traffic.reverify = none → y.traffic.round = none → ∃ u : State, ack = .next u ∧
      let r := y.record.writeField s.uptime v .alarms
      let a := admissionCheck s.policy (s.bay (otherBay i)).record.identity r
      (u.bay i).traffic.ident = none ∧
      (s.motion.guard = .calm →
        (u.bay i).state = a.1 ∧ (u.bay i).record = { r with outcome := a.2 }) ∧
      (s.motion.guard ≠ .calm → (u.bay i).state = .identifying ∧ (u.bay i).record = r ∧
        (u.bay i).decisionDeferred = true)) ∧
    (x.owner = .identification d.next → d.next < 3 → y.traffic.reverify = none →
      y.traffic.round = none → s.policy.ownEntry (identField (d.next + 1)) = none →
      incomplete (.transactionCompletion i (.own (.ack data))) 0) ∧
    (x.owner = .identification d.next → n ≠ s.policy.lockoutLimit.get i →
      let failed := fun (c : Instr) =>
        (∀ e, s.policy.ownEntry (identField d.next) = some e →
          exec c s = .next (left d e d.next more y.traffic.tripRaised)) ∧
        (s.policy.ownEntry (identField d.next) = none → y.traffic.reverify = none →
          y.traffic.round = none → incomplete c more)
      failed (.transactionCompletion i (.own .nack)) ∧
      (x.limit.left = 0 → failed (.transactionLimitExpiry i)))

/-- The admission check (R33, R34): its conditions in their order, each with its state and cause. An
absent alarm word counts as no alarm, and a pack without its identity part as an unknown class. -/
def Obligations.AdmissionCheckInOrder : Prop :=
  ∀ (p : Policy) (other : Option Identity) (r : PackRecord),
    let bad := fun (o : AdmissionOutcome) => (BayState.quarantined, o)
    let check := admissionCheck p other r
    let cellFault := r.alarmWord.getLsbD 3
    let overTemp := r.alarmWord.getLsbD 0
    (r.alarms = none → r.alarmWord = 0) ∧ (∀ w, r.alarms = some w → r.alarmWord = w.value) ∧
    (cellFault = true → check = (.inhibited, .cellFault)) ∧
    (cellFault = false → overTemp = true → check = (.inhibited, .overTemp)) ∧
    (cellFault = false → overTemp = false → r.identity = none → check = bad .unknownClass) ∧
    (∀ d, cellFault = false → overTemp = false → r.identity = some d →
      (p.classEntry d.cls = none → check = bad .unknownClass) ∧
      ∀ e, p.classEntry d.cls = some e →
        (other.map Identity.serial = some d.serial → check = bad .duplicateSerial) ∧
        (other.map Identity.serial ≠ some d.serial →
          let vOk := ∃ v, r.voltage = some v ∧ e.vMin.toNat ≤ v.value ∧ v.value ≤ e.vMax.toNat
          let tOk := ∃ t, r.temperature = some t ∧ e.dMin.toInt ≤ t.value ∧
            t.value ≤ e.dMax.toInt
          (¬ vOk → check = bad .voltageOut) ∧ (vOk → ¬ tOk → check = bad .tempOut) ∧
          (vOk → tOk → check = (.online, .none))))

/-! ### Time -/

/-- UPTIME_TICK (R176): the uptime rises by one and saturates; every running timer loses a
millisecond, a paused one waits (R55), a loss filter grows older (R40). That the tick runs the timers
down is the model's reading (log 5). -/
def Obligations.UptimeTickRunsTheTimers : Prop :=
  ∀ s : State, ∃ u : State, exec .uptimeTick s = .next u ∧
    let down := fun (t : Timer) => ({ t with left := t.left - 1 } : Timer)
    u = { s with uptime := min 4294967295 (s.uptime + 1), bays := u.bays,
                 link := { s.link with interByte := s.link.interByte.map down },
                 supply := { s.supply with
                   hold := s.supply.hold.map down, bridgeRun := s.supply.bridgeRun.map down,
                   save := s.supply.save.map down,
                   presenceFilter := s.supply.presenceFilter.map down,
                   codeFilter := s.supply.codeFilter.map down,
                   converter := down s.supply.converter },
                 light := { s.light with
                   front := { s.light.front with
                     stale := s.light.front.stale.map down,
                     conversion := s.light.front.conversion.map down },
                   rear := { s.light.rear with
                     stale := s.light.rear.stale.map down,
                     conversion := s.light.rear.conversion.map down } },
                 back := { s.back with tick := s.back.tick.map down },
                 motion := { s.motion with accel := { s.motion.accel with
                   stale := down s.motion.accel.stale } } } ∧
    ∀ i, u.bay i = { s.bay i with
      loss := (s.bay i).loss.map fun f => { f with elapsed := f.elapsed + 1 },
      intentFilter := (s.bay i).intentFilter.map down,
      timer := (s.bay i).timer.map fun t =>
        if t.paused then t else { t with timer := down t.timer },
      latchLimit := (s.bay i).latchLimit.map down,
      traffic := { (s.bay i).traffic with
        pollTimer := (s.bay i).traffic.pollTimer.map down,
        bus := (s.bay i).traffic.bus.map fun x => { x with limit := down x.limit } } }

/-! ### Light -/

/-- LIGHT_SAMPLE_ARRIVAL, CONVERSION_LIMIT_EXPIRY, SENSOR_REFUSAL and LIGHT_STALE_EXPIRY (R96 to R98,
R100 to R103): the discarded and the accepted sample with its illuminance, step and θ, the failed
conversion with its fault, and the end of freshness. A late sample is discarded without effect, and so
is one with no conversion in progress; that the command says which sample is late is the model's
reading (log 8). An expiry or a refusal without a conversion, an expiry of a limit that
has not run down, and a stale expiry without a timer change nothing (R96; the model's choice, log 4). -/
def Obligations.LightSensorsFollowTheirEvents : Prop :=
  ∀ (s : State) (i : SensorId) (count : Half) (g : Gain) (t : Integration) (theta : Byte),
    let r := s.light.sensor i
    let ms := match r.step with | 0 => 25 | 1 => 100 | 2 => 100 | 3 => 100 | 4 => 100 | _ => 200
    let started := some (⟨ms + 25, ms + 25⟩ : Timer)
    let arrival := Instr.lightSampleArrival i (.own count) g t theta
    let sets := fun (c : Instr) (f : SpaceFlags) (r' : Sensor) => exec c s = .next { s with
      light := s.light.onSensor i fun _ => r', flags := f }
    let failed := fun (c : Instr) =>
      (r.failures < 2 → sets c s.flags
        { r with failures := r.failures + 1, conversion := started }) ∧
      (2 ≤ r.failures → sets c
        (if r.condition = .faulted then s.flags else s.flags.raised .light 0x10)
        { r with failures := 3, condition := .faulted, conversion := started })
    exec (.lightSampleArrival i (.late count) g t theta) s = .next s ∧
    (r.conversion = none → exec arrival s = .next s) ∧
    (r.conversion.isSome = true → r.discardOwed = true → sets arrival s.flags { r with
      failures := 0, discardOwed := false, conversion := started,
      condition := if r.condition = .starting ∨ r.condition = .faulted then .noSample
        else r.condition,
      stale := if r.condition = .starting ∨ r.condition = .faulted then none else r.stale }) ∧
    (r.conversion.isSome = true → r.discardOwed = false → ∃ u : Light,
      exec arrival s = .next { s with light := u } ∧
      u = { s.light with
        front := u.front, rear := u.rear,
        theta := if i = .front
          then some ⟨min 125 (max (-40) theta.toInt), s.uptime⟩ else s.light.theta } ∧
      (∀ j, j ≠ i → u.sensor j = s.light.sensor j) ∧
      let lux := if count = 65535 ∧ g = .g1 ∧ t = .t1 then 200000
        else min 200000 (count.toNat * r.trim / (1024 * Gain.value g * Integration.value t))
      let step := if 60000 < count.toNat then r.step - 1
        else if count.toNat < 2000 then min 5 (r.step + 1) else r.step
      let ms' := match step with
        | 0 => 25 | 1 => 100 | 2 => 100 | 3 => 100 | 4 => 100 | _ => 200
      u.sensor i = { r with
        sample := some ⟨count.toNat, g, t, decide (count = 65535), s.uptime, lux⟩, step := step,
        failures := 0, condition := .fresh,
        stale := some ⟨s.light.staleLimit, s.light.staleLimit⟩,
        conversion := some ⟨ms' + 25, ms' + 25⟩ }) ∧
    (r.conversion = none → exec (.conversionLimitExpiry i) s = .next s ∧
      exec (.sensorRefusal i) s = .next s) ∧
    (∀ c, r.conversion = some c →
      (c.left ≠ 0 → exec (.conversionLimitExpiry i) s = .next s) ∧
      (c.left = 0 → failed (.conversionLimitExpiry i)) ∧
      failed (.sensorRefusal i)) ∧
    (r.stale = none → exec (.lightStaleExpiry i) s = .next s) ∧
    (r.stale.isSome = true → sets (.lightStaleExpiry i) s.flags { r with
      stale := none, condition := if r.condition = .fresh then .stale else r.condition })

/-! ### The panel -/

/-- BRIGHTNESS_TICK (R104, R105, R110 to R119, R121): fusion, the filter, and, while the panel is ON
with A present, the stages, each from the one before: the curve, the bias, the thermal ceiling, the
floor, the clamp of L_out to L_pow, the slew and the drive word. A LIGHT stream that is disabled takes
nothing; an enabled one is the subject of `Obligations.StreamsForwardTheirItems`. A tick timer that
does not run has no expiry: the model's choice (log 4). -/
def Obligations.BrightnessTickRunsThePipeline : Prop :=
  ∀ s : State,
    (s.back.tick = none → exec .brightnessTick s = .next s) ∧
    (s.back.tick.isSome = true → ∃ u : State,
      exec .brightnessTick s = .next u ∧
      let k := s.back
      let lux := fun (r : Sensor) =>
        if r.condition = .fresh then r.sample.map LightSample.lux else none
      let weighted := (lux s.light.rear).map fun e => e * s.light.weight / 256
      let e := match lux s.light.front, weighted with
        | some f, some w => some (max f w)
        | some f, none => some f
        | none, w => w
      let a := match k.filtered, e with
        | none, e => e
        | some a, none => some a
        | some a, some e => some (
            if a < e then a + max 1 ((e - a) / 2 ^ k.riseShift)
            else if e < a then a - max 1 ((a - e) / 2 ^ k.fallShift) else a)
      let ticked := { k with filtered := a, tick := some ⟨k.tickPeriod, k.tickPeriod⟩ }
      u = { s with flags := if e = none then s.flags.raised .light 0x20 else s.flags,
                   back := u.back, streams := u.streams, link := u.link } ∧
      (s.streams.light.enabled = false → u.streams = s.streams ∧ u.link = s.link) ∧
      (k.on = false ∨ a = none → u.back = ticked) ∧
      (k.on = true → ∀ v, a = some v →
        let theta : Int := match s.light.theta with | some t => t.value | none => 25
        let n := curveAt k.working v
        let t := min k.lMax ((n * (100 + k.bias)) / 100).toNat
        let lf := min 300 k.lMax
        let lth := if theta ≤ 60 then k.lMax else if 85 ≤ theta then lf
          else k.lMax - (theta - 60).toNat * (k.lMax - lf) / 25
        let floored := max k.lMin (min t lth)
        let lpow := min k.lMax (k.pbl * 64 / k.q)
        let target := min floored lpow
        let clamped := min k.lout lpow
        let lout := if clamped < target then min target (clamped + k.rUp)
          else max target (clamped - k.rDn)
        let drive := lout * 4095 / k.lMax
        u.back = { ticked with
          lpow := lpow, stages := some ⟨n, t, lth, floored, target⟩, lout := lout,
          drive := drive, lastSent := if undriven s then k.lastSent else drive }))

/-- The working curve read at A (R113): the first luminance up to the first point, the last from the
last point on, and in between the segment's line with its quotient rounded toward minus infinity,
which lies between the segment's two luminances; the default curve's points; and that the tick reads
the working curve. -/
def Obligations.CurveIsReadBetweenItsPoints : Prop :=
  (∀ (pts : List CurvePoint) (a : Nat), curveValid pts →
    (∀ p, pts.head? = some p → a ≤ p.lux → curveAt pts a = p.nits) ∧
    (∀ p, pts.getLast? = some p → p.lux ≤ a → curveAt pts a = p.nits) ∧
    (∀ (n : Nat) (p q : CurvePoint), pts[n]? = some p → pts[n + 1]? = some q → p.lux ≤ a →
      a < q.lux →
      (curveAt pts a : Int) =
        p.nits + (((a : Int) - p.lux) * ((q.nits : Int) - p.nits)) / ((q.lux : Int) - p.lux) ∧
      min p.nits q.nits ≤ curveAt pts a ∧ curveAt pts a ≤ max p.nits q.nits)) ∧
  State.reset.back.working = [⟨0, 40⟩, ⟨1000, 200⟩, ⟨10000, 600⟩, ⟨50000, 1100⟩, ⟨100000, 1500⟩] ∧
  (∀ (s : State) (a : Nat), s.back.tick.isSome = true → s.back.on = true →
    s.back.filtered = some a → s.light.front.condition ≠ .fresh →
    s.light.rear.condition ≠ .fresh → ∃ u : State, exec .brightnessTick s = .next u ∧
      u.back.stages.map Stages.n = some (curveAt s.back.working a))

/-! ### The drop guard -/

/-- ACCEL_SAMPLE_ARRIVAL and ACCEL_STALE_EXPIRY up to the guard (R129 to R131, R134, R135, R139, R141
to R143): a replaced sensor's sample is discarded; a STARTING sensor discards, a STALE one starts
again; an accepted sample in CALM below both thresholds' effect leaves CALM and counts the free-fall
run. An expiry makes the sensor STALE: a fall is reported SENSOR_LOST with the samples counted, an
impact window ends with what it has, and from every state the guard is CALM after it. After an arrival
the timer has not run down and the expiry finds nothing to end (R131; log 4). -/
def Obligations.AccelerometerFollowsItsEvents : Prop :=
  ∀ (s : State) (x y z : Half), s.due = none →
    let c := s.motion.accel
    let w := s.motion.work
    let k := s.motion.conv
    let fresh : Timer := ⟨c.odr.staleLimit, c.odr.staleLimit⟩
    let lost := { c with condition := .stale, discards := 4, stale := fresh }
    let m2 := x.toInt.natAbs ^ 2 + y.toInt.natAbs ^ 2 + z.toInt.natAbs ^ 2
    let sq := fun (mg : Nat) => (mg * 2048 / 1000) ^ 2
    let n := (s.motion.freeFallTime * c.odr.hz + 999) / 1000
    let arrival := Instr.accelSampleArrival x y z
    (s.streams.replaces .accel = true → exec arrival s = .next s) ∧
    (s.streams.replaces .accel = false →
      (c.condition = .starting → exec arrival s = .next { s with motion := { s.motion with
        accel := { c with
          stale := fresh, discards := c.discards - 1,
          condition := if c.discards - 1 = 0 then .running else .starting } } }) ∧
      (c.condition = .stale → exec arrival s = .next { s with motion := { s.motion with
        accel := { c with stale := fresh, discards := 3, condition := .starting } } }) ∧
      (c.condition = .running → s.motion.guard = .calm → m2 < sq s.motion.hardMg →
        (m2 < sq s.motion.freeFallMg → s.motion.freeFallRun + 1 < n) →
        ∃ u : State, exec arrival s = .next u ∧
        u = { s with streams := u.streams, link := u.link, motion := { s.motion with
          freeFallRun := if m2 < sq s.motion.freeFallMg then s.motion.freeFallRun + 1 else 0,
          accel := { c with
            stale := fresh,
            latest := some ⟨⟨x.toInt, y.toInt, z.toInt, m2⟩, s.uptime⟩ } } } ∧
        (s.streams.accel.enabled = false → u.streams = s.streams ∧ u.link = s.link))) ∧
    (c.stale.left ≠ 0 → exec .accelStaleExpiry s = .next s) ∧
    (c.stale.left = 0 → s.motion.guard = .calm → exec .accelStaleExpiry s = .next { s with
      flags := s.flags.raised .motion 0x10,
      motion := { s.motion with freeFallRun := 0, accel := lost } }) ∧
    (c.stale.left = 0 → s.motion.guard ≠ .calm → ∃ u : State, exec .accelStaleExpiry s = .next u ∧
      u.motion.guard = .calm ∧ u.motion.work = .clear ∧
      u.drop.inForce = 0 ∧ u.drop.episode = 0 ∧ u.drop.episodeRecord = false ∧
      u.drop.parkLine = false ∧ u.flags.motion &&& 0x10 = 0x10 ∧
      (c.pendingOdr = none → u.motion.accel = lost) ∧
      (∀ o, c.pendingOdr = some o → u.motion.accel = if o = c.odr
        then { lost with pendingOdr := none }
        else { lost with pendingOdr := none, condition := .starting, odr := o,
                         stale := ⟨o.staleLimit, o.staleLimit⟩ }) ∧
      (s.motion.guard = .settling → s.CalmAgain u ∧ u.drop.drops = s.drop.drops ∧
        u.flags.motion = s.flags.motion ||| 0x10) ∧
      let reported := fun (q : DropRecord) => u.drop.log.getLast? = some q ∧
        u.drop.log.length = min 16 (s.drop.log.length + 1) ∧
        u.drop.drops = min 65535 (s.drop.drops + 1) ∧ q.sequence = u.drop.drops ∧
        u.flags.motion = s.flags.motion ||| 0x30
      (∀ f, s.motion.guard = .falling → w.fallCount = some f → s.drop.log.length ≤ 16 →
        s.CalmAgain u ∧ ∃ q, reported q ∧ q.kind = .sensorLost ∧
          q.fallTime = some (f * c.odr.periodUs / 1000) ∧ q.height = none ∧ q.peak = none ∧
          q.severity = none ∧ q.actions = s.drop.episode) ∧
      (∀ p kd, s.motion.guard = .impact → w.windowPeak = some p → w.kind = some kd →
        w.severity = none → s.drop.log.length ≤ 16 → ∃ q, reported q ∧ q.kind = kd.record ∧
          q.peak = some (isqrt p.m2 * 1000 / 2048) ∧ q.severity = some
            (if k.severe2 ≤ p.m2 then .severe else if k.hard2 ≤ p.m2 then .hard else .light)))

/-- The guard takes each accepted sample (R132, R134 to R142, R145, R146): a knock and a fall begin, in
DORMANT without PARK; a fall goes on, is caught, is too long, or ends in an impact; a window goes on and
ends, the first with its severity, trigger and record, a later one with its update; a settle counts on,
is struck again, becomes a new fall, or ends. At a settle's end the actions are withdrawn (R150), the
hold among them, so that the oldest request that waited is granted (R10), the re-verification starts
(R151), and the bay manager takes its part (R41, R57). Premises: the sensor
RUNNING and not replaced, no trip deferred. The model's readings: the free-fall run goes on in every
state (log 17), the value of the open record peak is free (log 36), the blocks' order at the return
(logs 14 and 16: where it is open, nothing is said). -/
def Obligations.GuardTakesEachSample : Prop :=
  (∀ (d : DropLog) (a b c e f g : BitVec 6), d.table = [a, b, c, e, f, g] →
    d.entry .freeFall = a ∧ d.entry .impactLight = b ∧ d.entry .impactHard = c ∧
    d.entry .impactSevere = e ∧ d.entry .knockHard = f ∧ d.entry .knockSevere = g) ∧
  ∀ (s : State) (x y z : Half), s.due = none → s.NoTrips →
    s.streams.replaces .accel = false → s.motion.accel.condition = .running →
    let m2 := x.toInt.natAbs ^ 2 + y.toInt.natAbs ^ 2 + z.toInt.natAbs ^ 2
    let a : Accel3 := ⟨x.toInt, y.toInt, z.toInt, m2⟩
    let sq := fun (mg : Nat) => (mg * 2048 / 1000) ^ 2
    let n := (s.motion.freeFallTime * s.motion.accel.odr.hz + 999) / 1000
    let w := s.motion.work
    let k := s.motion.conv
    let g := s.motion.guard
    let period := s.motion.accel.odr.periodUs
    let run := if m2 < k.freeFall2 then min k.freeFallN (s.motion.freeFallRun + 1) else 0
    let falls := m2 < k.freeFall2 ∧ k.freeFallN ≤ s.motion.freeFallRun + 1
    let taken := { s.motion.accel with
      latest := some ⟨a, s.uptime⟩,
      stale := ⟨s.motion.accel.odr.staleLimit, s.motion.accel.odr.staleLimit⟩ }
    ∃ u : State, exec (.accelSampleArrival x y z) s = .next u ∧
    u.uptime = s.uptime ∧ u.lines = s.lines ∧ u.policy = s.policy ∧ u.light = s.light ∧
    u.streams.light = s.streams.light ∧ u.store = s.store ∧
    (s.streams.accel.enabled = false → u.streams = s.streams) ∧
    u.motion.accel.latest = some ⟨a, s.uptime⟩ ∧
    (u.motion.guard ≠ .calm ∨ s.motion.accel.pendingOdr = none → u.motion.accel = taken) ∧
    (g ≠ .calm → u.motion.guard = .calm → ∀ o, s.motion.accel.pendingOdr = some o →
      u.motion.accel = if o = s.motion.accel.odr then { taken with pendingOdr := none }
        else { taken with pendingOdr := none, condition := .starting, discards := 4, odr := o,
                          stale := ⟨o.staleLimit, o.staleLimit⟩ }) ∧
    let same := u.drop = s.drop ∧ u.bays = s.bays ∧ u.flags.motion = s.flags.motion
    let triggers := fun (t : Trigger) (before : BitVec 6) =>
      let entry := s.drop.entry t
      let takes := if s.ctl.mode = .dormant then entry &&& 0b111110 else entry
      u.drop.inForce = s.drop.inForce ||| (takes &&& 0b001111) ∧
      u.drop.episode = before ||| takes ||| (entry &&& s.drop.inForce) ∧
      (hasAction takes .park = false → u.drop.parkLine = s.drop.parkLine ∧
        u.drop.parkMark = s.drop.parkMark) ∧
      (hasAction takes .suspect = true → ∀ i, (s.bay i).contact = true →
        (u.bay i).record.suspect = true) ∧
      (s.drop.inForce = 0 →
        (hasAction takes .park = true → u.drop.parkLine = true ∧
          u.drop.parkMark = s.lines.parkAck) ∧
        (hasAction takes .lock = true → (∀ i, (u.bay i).reasons.guard = true) ∧
          u.drop.priorLock = ⟨s.bays.a.latch == .locked, s.bays.b.latch == .locked⟩) ∧
        (hasAction takes .freeze = true → ∀ i,
          (u.bay i).timer = (s.bay i).timer.map fun t => { t with paused := true }) ∧
        (hasAction takes .hold = true → u.holdMask = s.drop.holdClasses))
    let reported := fun (q : DropRecord) => u.drop.log.getLast? = some q ∧
      u.drop.log.length = min 16 (s.drop.log.length + 1) ∧
      u.drop.drops = min 65535 (s.drop.drops + 1) ∧ q.sequence = u.drop.drops ∧
      u.flags.motion = s.flags.motion ||| 0x20
    (g = .calm → sq s.motion.hardMg ≤ m2 →
      u.motion.guard = .impact ∧ u.motion.freeFallRun = 0 ∧
      u.motion.work = { Working.clear with
        converted := some s.motion.convert, kind := some .knock, windowPeak := some a,
        recordPeak := u.motion.work.recordPeak, windowCount := some 1,
        snapshot := some (takeSnapshot s) } ∧
      u.motion.work.recordPeak.isSome = true ∧ u.drop = s.drop ∧
      ∀ i, u.bay i = { s.bay i with
        loss := (s.bay i).loss.map fun f => { f with long := true } }) ∧
    (g = .calm → m2 < sq s.motion.hardMg → m2 < sq s.motion.freeFallMg →
      n ≤ s.motion.freeFallRun + 1 →
      u.motion.guard = .falling ∧ u.motion.work = { Working.clear with
        converted := some s.motion.convert,
        fallCount := some (min n (s.motion.freeFallRun + 1)), catchRun := some 0 } ∧
      triggers .freeFall s.drop.episode ∧
      (s.drop.episodeRecord = false → u.drop.log = s.drop.log) ∧
      ∀ i, (u.bay i).state = (s.bay i).state ∧
        (u.bay i).loss = (s.bay i).loss.map fun f => { f with long := true }) ∧
    (g = .falling →
      let count := w.fallCount.getD 0 + 1
      let catches := if k.freeFall2 ≤ m2 then w.catchRun.getD 0 + 1 else 0
      let ms := (count - catches) * period / 1000
      let fell := fun (q : DropRecord) => q.height = none ∧ q.peak = none ∧ q.axis = none ∧
        q.severity = none ∧ q.actions = s.drop.episode ∧
        q.snapshot = (takeSnapshot s).record
      (k.light2 ≤ m2 → u.motion.guard = .impact ∧ u.motion.freeFallRun = 0 ∧ same ∧
        u.motion.work = { w with
          kind := some .fallImpact, windowPeak := some a,
          recordPeak := u.motion.work.recordPeak, windowCount := some 1,
          snapshot := some (takeSnapshot s) } ∧
        u.motion.work.recordPeak.isSome = true) ∧
      (m2 < k.light2 → catches < k.catchN → count < k.maxFallN →
        u.motion.guard = .falling ∧ u.motion.freeFallRun = run ∧ same ∧
        u.motion.work = { w with fallCount := some count, catchRun := some catches }) ∧
      (m2 < k.light2 → k.catchN ≤ catches → s.CalmAgain u ∧ u.motion.freeFallRun = run ∧
        (ms < 100 → u.drop.drops = s.drop.drops ∧ u.flags.motion = s.flags.motion ∧
          u.drop.log.length = s.drop.log.length) ∧
        (100 ≤ ms → s.drop.log.length ≤ 16 → ∃ q, reported q ∧ fell q ∧ q.kind = .caught ∧
          q.fallTime = some ms)) ∧
      (m2 < k.light2 → catches < k.catchN → k.maxFallN ≤ count → s.CalmAgain u ∧
        (s.drop.log.length ≤ 16 → ∃ q, reported q ∧ fell q ∧ q.kind = .longFall ∧
          q.fallTime = some (count * period / 1000)))) ∧
    (g = .impact →
      let count := w.windowCount.getD 0 + 1
      let peak := match w.windowPeak with
        | some p => if p.m2 < m2 then a else p
        | none => a
      let sevOf := fun (m : Nat) =>
        if k.severe2 ≤ m then Severity.severe else if k.hard2 ≤ m then .hard else .light
      let trigger := fun (kd : ImpactKind) (v : Severity) => match kd, v with
        | .fallImpact, .light => Trigger.impactLight
        | .fallImpact, .hard => .impactHard
        | .fallImpact, .severe => .impactSevere
        | .knock, .severe => .knockSevere
        | .knock, _ => .knockHard
      let settles := fun (best : Accel3) (v : Severity) (m : Option Bool) =>
        u.motion.guard = .settling ∧ u.motion.freeFallRun = run ∧
        u.motion.work = { w with
          windowPeak := some peak, recordPeak := some best, severity := some v,
          multiple := m, windowCount := none, settleCount := some 0 }
      (count < k.windowN → u.motion.guard = .impact ∧ u.motion.freeFallRun = run ∧ same ∧
        u.motion.work = { w with windowCount := some count, windowPeak := some peak }) ∧
      (∀ kd, k.windowN ≤ count → w.kind = some kd → w.severity = none →
        let v := sevOf peak.m2
        settles peak v (some false) ∧ triggers (trigger kd v) s.drop.episode ∧
        u.drop.episodeRecord = true ∧
        (v = .light → u.ctl = s.ctl) ∧ (v ≠ .light → u.ctl = s.ctl.wakeEvent .drop) ∧
        (s.drop.log.length ≤ 16 → ∃ q, reported q ∧ q.kind = kd.record ∧
          q.severity = some v ∧ q.peak = some (isqrt peak.m2 * 1000 / 2048) ∧
          q.axis = some (peakAxis peak) ∧ q.actions = u.drop.episode ∧
          (kd = .knock → q.fallTime = none) ∧
          (kd = .fallImpact → q.fallTime = w.fallCount.map fun f => f * period / 1000) ∧
          ∀ p, w.snapshot = some p → q.snapshot = p.record)) ∧
      (∀ kd old was, k.windowN ≤ count → w.kind = some kd → w.severity = some was →
        w.recordPeak = some old →
        let best := if old.m2 < peak.m2 then peak else old
        let v := if old.m2 < peak.m2 then sevOf peak.m2 else was
        settles best v w.multiple ∧ u.drop.drops = s.drop.drops ∧
        (was.code < v.code → triggers (trigger kd v) s.drop.episode) ∧
        (v.code ≤ was.code → u.drop.inForce = s.drop.inForce ∧
          u.drop.episode = s.drop.episode) ∧
        (s.drop.episodeRecord = false → u.drop.log = s.drop.log) ∧
        (s.drop.episodeRecord = true → ∀ q, s.drop.log.getLast? = some q → ∃ q',
          u.drop.log.getLast? = some q' ∧ u.drop.log.length = s.drop.log.length ∧
          q' = { q with
            peak := some (isqrt best.m2 * 1000 / 2048), axis := some (peakAxis best),
            severity := some v, actions := q'.actions, isOpen := q'.isOpen,
            flags := if w.multiple = some true then q.flags ||| 0b001000 else q.flags }))) ∧
    (g = .settling →
      let settled := w.settleCount.getD 0 + 1
      (k.light2 ≤ m2 → u.motion.guard = .impact ∧ u.motion.freeFallRun = 0 ∧ same ∧
        u.motion.work = { w with
          windowPeak := some a, windowCount := some 1, settleCount := none,
          multiple := some true }) ∧
      (m2 < k.light2 → falls → u.motion.guard = .falling ∧ u.motion.work = { Working.clear with
          converted := some k, fallCount := some run, catchRun := some 0 } ∧
        triggers .freeFall 0 ∧ u.drop.episodeRecord = false ∧
        u.drop.log = if s.drop.holdsOpen then onNewest DropRecord.interrupt s.drop.log
          else s.drop.log) ∧
      (m2 < k.light2 → ¬ falls → settled < k.settleN →
        u.motion.guard = .settling ∧ u.motion.freeFallRun = run ∧ same ∧
        u.motion.work = { w with settleCount := some settled }) ∧
      (m2 < k.light2 → ¬ falls → k.settleN ≤ settled → s.CalmAgain u ∧
        u.motion.freeFallRun = run ∧ u.drop.drops = s.drop.drops ∧
        ∀ i, (s.bay i).traffic.ident = none →
          let y := s.bay i
          let z := u.bay i
          let t := y.traffic
          let other := s.bay (otherBay i)
          (y.lossEndsAtReturn = true ↔
            ∃ f, y.loss = some f ∧ f.long = true ∧ 5 ≤ f.elapsed) ∧
          (y.lossEndsAtReturn = true → y.state ≠ .empty → z.state = .empty ∧
            z.contact = false ∧ z.loss = none ∧ z.record = .absent ∧ z.timer = none ∧
            u.flags.get (baySpace i) = s.flags.get (baySpace i) |||
              (if y.state = .releasing then 0x10 else 0x30)) ∧
          (y.lossEndsAtReturn = false → other.lossEndsAtReturn = false →
            z.loss = (y.loss.map fun f => { f with long := false }) ∧
            z.contact = y.contact ∧
            let a := admissionCheck s.policy other.record.identity y.record
            let back := y.state = .releasing ∧ y.returnPending = true ∧ y.contact = true
            let again := y.state = .quarantined ∧ y.record.outcome = .tempOut ∧
              y.record.temperature.isSome = true ∧ readmissionPasses s.policy y.record = true
            let decides := y.decisionDeferred = true
            (decides ∨ again → z.record = { y.record with outcome := a.2 } ∧ z.state = a.1 ∧
              z.decisionDeferred = false) ∧
            (¬ decides → ¬ again → z.record = y.record) ∧
            (¬ decides → back → z.state = .online ∧ z.returnPending = false) ∧
            (¬ decides → ¬ back → ¬ again → z.state = y.state ∧
              z.timer = y.timer.map fun t => { t with paused := false }) ∧
            (s.drop.episodeRecord = false → hasAction s.drop.inForce .hold = true →
              y.state.traffic = true → t.bus = none → t.alert = false → t.reverify = none →
              t.round = none → ∀ q rest, t.waiting = q :: rest →
              z.traffic.waiting = rest ∧ z.traffic.lastServed = .host ∧
              ∃ x, z.traffic.bus = some x ∧ x.owner = .host q true ∧
                x.code = q.offset.setWidth 8) ∧
            (s.drop.episodeRecord = true → ∀ q, s.drop.log.getLast? = some q →
              (hasAction q.actions .reverify = false → t.reverify = none →
                z.traffic.reverify = none) ∧
              (hasAction q.actions .reverify = true → q.isOpen = true →
                q.verify.get i = none → t.reverify = none →
                ∃ q', u.drop.log.getLast? = some q' ∧
                (q.snapshot.state.get i ≠ .online ∨ y.contact = false →
                  q'.verify.get i = some .notApplicable) ∧
                (q.snapshot.state.get i = .online → y.contact = true →
                  (y.state.traffic = false → q'.verify.get i = some .noAnswer) ∧
                  (y.state.traffic = true → t.bus.isSome = true →
                    z.traffic.reverify = some .record ∧ z.traffic.bus = t.bus ∧
                    q'.verify.get i = none) ∧
                  (y.state.traffic = true → t.bus = none → t.waiting = [] →
                    t.alert = false → t.round = none →
                    (∀ e, s.policy.ownEntry .serial = some e → z.traffic.reverify = none ∧
                      q'.verify.get i = none ∧
                      z.traffic.bus = some ⟨.reverify .record, e.code, false, e.size, [],
                        .serial, ⟨s.policy.transactionLimit, s.policy.transactionLimit⟩⟩) ∧
                    (s.policy.ownEntry .serial = none →
                      q'.verify.get i = some .noAnswer))))))))

/-- A record report creates a record (R153 to R155, R157, R159): isqrt is the largest integer whose
square does not exceed its argument; the record's figures are computed from the report; it joins at
the newest end with the next sequence, the oldest of sixteen leaves, an OPEN record is closed as
INTERRUPTED first, DROP_RECORDED is set, and HARD and SEVERE hand on a drop event. A record update and
the record-ended notice (R156); a verify outcome written (R152), and the ends of a re-verification
read that give it (R16, R45): a changed serial sends the bay to identification as a new pack, which
without a used CLASS entry ends at once in TABLE_INCOMPLETE (R15, R44). That a withdrawn
re-verification whose serial differs leaves the bay in its state, and that one whose record left the
log still moves it, is the model's reading (log 27). An expiry acts once its limit has run down
(log 4). -/
def Obligations.ReportsBecomeRecords : Prop :=
  (∀ m, m < 2 ^ 32 → isqrt m * isqrt m ≤ m ∧ m < (isqrt m + 1) * (isqrt m + 1)) ∧
  (∀ (s : State) (r : DropReport), s.drop.log.length ≤ 16 →
    let t := s.createRecord r
    let old := if s.drop.holdsOpen then onNewest DropRecord.interrupt s.drop.log else s.drop.log
    ∃ q : DropRecord, t.drop.log = old.drop (old.length - 15) ++ [q] ∧
      t.drop.log.length = min 16 (s.drop.log.length + 1) ∧
      q.sequence = min 65535 (s.drop.drops + 1) ∧ t.drop.drops = min 65535 (s.drop.drops + 1) ∧
      q.kind = r.kind ∧ q.severity = r.severity ∧ q.uptimeS = s.uptime / 1000 ∧
      (r.kind = .knock → q.fallTime = none) ∧
      (r.kind ≠ .knock → q.fallTime = r.fallSamples.map fun n => n * r.periodUs / 1000) ∧
      (r.kind ≠ .fallImpact → q.height = none) ∧
      (r.kind = .fallImpact → q.height =
        r.fallSamples.map fun n => 9807 * (n * r.periodUs) ^ 2 / 2000000000000) ∧
      q.peak = r.peak.map (fun p => isqrt p.m2 * 1000 / 2048) ∧ q.axis = r.peak.map peakAxis ∧
      q.flags = recordFlags r.snapshot s.streams.stimulusOn (s.ctl.mode == .dormant) ∧
      q.snapshot = r.snapshot.record ∧ q.verify = ⟨none, none⟩ ∧ q.actions = s.drop.episode ∧
      q.isOpen = hasAction s.drop.episode .reverify ∧ t.drop.episodeRecord = true ∧
      (s.LogSound → ∀ o ∈ old, o.isOpen = false) ∧
      t.flags = s.flags.raised .motion 0x20 ∧
      (r.severity = some .hard ∨ r.severity = some .severe → t.ctl = s.ctl.wakeEvent .drop) ∧
      (r.severity = none ∨ r.severity = some .light → t.ctl = s.ctl)) ∧
  (∀ (s : State) (old : List DropRecord) (q : DropRecord), s.drop.log = old ++ [q] →
    let newest := fun (t : State) (q' : DropRecord) => t.drop.log = old ++ [q']
    (∀ peak v multiple,
      let t := s.updateRecord peak v multiple
      (s.drop.episodeRecord = false → t = s) ∧
      (s.drop.episodeRecord = true →
        t = { s with drop := { s.drop with log := t.drop.log }, flags := t.flags,
                     ctl := t.ctl } ∧
        newest t { q with
          peak := some (isqrt peak.m2 * 1000 / 2048), axis := some (peakAxis peak),
          severity := some v, flags := if multiple then q.flags ||| 0b001000 else q.flags } ∧
        ∀ was, q.severity = some was →
          (v.code ≤ was.code → t.flags = s.flags ∧ t.ctl = s.ctl) ∧
          (was.code < v.code → t.flags = s.flags.raised .motion 0x20 ∧
            t.ctl = if was = .light then s.ctl.wakeEvent .drop else s.ctl))) ∧
    (let t := s.recordEnded
     t.drop.episode = 0 ∧ t.drop.episodeRecord = false ∧ t.drop.inForce = s.drop.inForce ∧
      (q.isOpen = false → newest t q ∧ t.bays = s.bays) ∧
      (q.isOpen = true → newest t { q with
          isOpen := false,
          verify := ⟨some (q.verify.a.getD .interrupted), some (q.verify.b.getD .interrupted)⟩ } ∧
        ∀ i, (t.bay i).traffic.reverify ≠ some .record ∧
          (∀ x, (t.bay i).traffic.bus = some x → x.owner ≠ .reverify .record) ∧
          (t.bay i).traffic.bus.isSome = (s.bay i).traffic.bus.isSome)) ∧
    ∀ i o,
      (q.isOpen = true → q.verify.get i = none → newest (s.report i .record o) { q with
        verify := q.verify.set i (some o), isOpen := (q.verify.get (otherBay i)).isNone }) ∧
      (q.isOpen = false ∨ (q.verify.get i).isSome = true → newest (s.report i .record o) q) ∧
      s.report i .removed o = s ∧ s.report i .withdrawn o = s) ∧
  ∀ (s : State) (i : BayId) (x : Transaction) (dest : ReverifyDest) (data : List Byte),
    s.due = none → s.NoTrips → (s.bay i).traffic.bus = some x → x.owner = .reverify dest →
    x.write = false → data.length = x.size.bytes → (s.bay i).traffic.waiting = [] →
    (s.bay i).traffic.alert = false → (s.bay i).traffic.ident = none →
    (s.bay i).traffic.reverify = none → (s.bay i).traffic.round = none →
    let y := s.bay i
    let n := y.traffic.failures
    let v := leNat (data.take 2)
    let failed := fun (t : State) => { t with bays := s.bays.set i { y with
      traffic := { y.traffic with
        bus := none,
        failures := if n < s.policy.lockoutLimit.get i + 1 then n + 1 else n } } }
    let ack := fun (o : VerifyOutcome) (ok : State → Prop) => ∃ u : State,
      exec (.transactionCompletion i (.own (.ack data))) s = .next u ∧
      u.drop.log = (s.report i dest o).drop.log ∧ (u.bay i).traffic.failures = 0 ∧ ok u
    let serials := fun (q : PackRecord) =>
      { q with identity := q.identity.map fun d => { d with serial := v } }
    (n ≠ s.policy.lockoutLimit.get i →
      exec (.transactionCompletion i (.own .nack)) s = .next (failed (s.report i dest .noAnswer)) ∧
      (x.limit.left = 0 →
        exec (.transactionLimitExpiry i) s = .next (failed (s.report i dest .noAnswer)))) ∧
    ((∃ d, y.record.identity = some d ∧ d.serial = v) →
      ack .verified fun u => (u.bay i).record = y.record ∧ (u.bay i).state = y.state ∧
        (u.bay i).traffic.bus = none) ∧
    ((∀ d, y.record.identity = some d → d.serial ≠ v) →
      (dest = .withdrawn ∨ y.state.traffic = false → ack .changed fun u =>
        (u.bay i).record = serials y.record ∧ (u.bay i).state = y.state ∧
        (u.bay i).traffic.bus = none) ∧
      (dest ≠ .withdrawn → y.state.traffic = true → ∀ e, s.policy.ownEntry .cls = some e →
        ack .changed fun u => (u.bay i).state = .identifying ∧
          (u.bay i).record = { PackRecord.absent with
            suspect := y.record.suspect, outcome := y.record.outcome } ∧
          (u.bay i).timer = none ∧
          (u.bay i).traffic.ident = some ⟨0, none, none, none⟩ ∧
          (u.bay i).traffic.bus = some ⟨.identification 0, e.code, false, e.size, [], .cls,
            ⟨s.policy.transactionLimit, s.policy.transactionLimit⟩⟩) ∧
      (dest ≠ .withdrawn → y.state.traffic = true → s.policy.ownEntry .cls = none →
        ack .changed fun u => (u.bay i).state = .quarantined ∧
          (u.bay i).record = { PackRecord.absent with
            suspect := y.record.suspect, outcome := .tableIncomplete } ∧
          (u.bay i).timer = none ∧ (u.bay i).traffic.ident = none ∧
          (u.bay i).traffic.bus = none))

/-! ### The streams -/

/-- An enabled stream takes each item outside DORMANT, and a disabled one none (R162 to R164, R189): the
item that brings the count to the divider is forwarded under the next number, 1 after 65,535, with the
values of that moment; it replaces what waits in the stream's slot, or is sent at once by an idle
transmitter. An ACCEL item carries the GUARD flag where its sample leaves the guard active. What the
link holds is not said where the guard's return also takes a contact loss (R41). -/
def Obligations.StreamsForwardTheirItems : Prop :=
  ∀ s : State, s.due = none →
    let next := fun (n : Nat) => if 65535 ≤ n then 1 else n + 1
    let taken := fun (c : StreamCtl) => if c.divider ≤ c.count + 1
      then { c with count := 0, forward := next c.forward } else { c with count := c.count + 1 }
    (s.ctl.mode ≠ .dormant → s.streams.light.enabled = true → s.back.tick.isSome = true →
      ∃ u : State,
      exec .brightnessTick s = .next u ∧
      let c := s.streams.light
      let lux := fun (r : Sensor) =>
        if r.condition = .fresh then r.sample.map LightSample.lux else none
      let item : LightItem := ⟨next c.forward, s.uptime, lux s.light.front, lux s.light.rear,
        u.back.filtered, u.back.lout⟩
      u.streams = { s.streams with light := taken c } ∧
      (c.count + 1 < c.divider → u.link = s.link) ∧
      (c.divider ≤ c.count + 1 →
        (s.link.sending.isSome = true ∨ s.lines.resetN = false →
          u.link = { s.link with lightSlot := some item }) ∧
        (s.link.sending = none → s.lines.resetN = true → s.link.responses = [] →
          s.link.alerts = [] → s.link.accelSlot = none →
          u.link = { s.link with lightSlot := none, sending := some (.lightSample item) }))) ∧
    ∀ x y z : Half,
      let m2 := x.toInt.natAbs ^ 2 + y.toInt.natAbs ^ 2 + z.toInt.natAbs ^ 2
      let sq := fun (mg : Nat) => (mg * 2048 / 1000) ^ 2
      let c := s.streams.accel
      s.streams.replaces .accel = false → s.motion.accel.condition = .running → s.NoTrips →
      ∃ u : State, exec (.accelSampleArrival x y z) s = .next u ∧
        let item : AccelItem :=
          ⟨next c.forward, s.uptime, x.toInt, y.toInt, z.toInt, u.motion.guard != .calm, false⟩
        let takes := c.enabled = true ∧ s.ctl.mode ≠ .dormant
        (s.motion.guard = .calm → m2 < sq s.motion.hardMg → sq s.motion.freeFallMg ≤ m2 →
          u.motion.guard = .calm) ∧
        (takes → u.streams = { s.streams with accel := taken c }) ∧
        (¬ takes → u.streams = s.streams) ∧
        (s.motion.guard = .calm ∨ u.motion.guard ≠ .calm ∨
            (∀ i, (s.bay i).lossEndsAtReturn = false) →
          (¬ takes → u.link = s.link) ∧
          (takes → c.count + 1 < c.divider → u.link = s.link) ∧
          (takes → c.divider ≤ c.count + 1 →
            (s.link.sending.isSome = true ∨ s.lines.resetN = false →
              u.link = { s.link with accelSlot := some item }) ∧
            (s.link.sending = none → s.lines.resetN = true → s.link.responses = [] →
              s.link.alerts = [] →
              u.link = { s.link with
                accelSlot := none, sending := some (.accelSample item) })))
end

