-- ==== Sys2Proof/Laws/State.lean ====
section
/-!
SUPPORT. One lemma for each part that a named update of the state writes, and one that says which
parts it leaves, so that no later proof unfolds a record update.
-/

namespace Sys2Proof.Machine

/-! ### Pairs by bay -/

@[simp] theorem Both.get_a {α : Type} (p : Both α) : p.get .a = p.a := rfl
@[simp] theorem Both.get_b {α : Type} (p : Both α) : p.get .b = p.b := rfl
@[simp] theorem Both.set_a {α : Type} (p : Both α) (v : α) : p.set .a v = ⟨v, p.b⟩ := rfl
@[simp] theorem Both.set_b {α : Type} (p : Both α) (v : α) : p.set .b v = ⟨p.a, v⟩ := rfl
@[simp] theorem Both.get_set {α : Type} (p : Both α) (i : BayId) (v : α) : (p.set i v).get i = v := by
  cases i <;> rfl
theorem Both.get_set_ne {α : Type} (p : Both α) {i j : BayId} (h : j ≠ i) (v : α) :
    (p.set i v).get j = p.get j := by
  cases i <;> cases j <;> simp_all
@[simp] theorem otherBay_a : otherBay .a = .b := rfl
@[simp] theorem otherBay_b : otherBay .b = .a := rfl
@[simp] theorem State.bay_a (s : State) : s.bay .a = s.bays.a := rfl
@[simp] theorem State.bay_b (s : State) : s.bay .b = s.bays.b := rfl

/-! ### Bays -/

@[simp] theorem State.onBay_bays (s : State) (i : BayId) (f : Bay → Bay) :
    (s.onBay i f).bays = s.bays.set i (f (s.bays.get i)) := by simp only [State.onBay]
@[simp] theorem State.onBay_bay (s : State) (i : BayId) (f : Bay → Bay) :
    (s.onBay i f).bay i = f (s.bay i) := by cases i <;> rfl
theorem State.onBay_bay_ne (s : State) {i j : BayId} (h : j ≠ i) (f : Bay → Bay) :
    (s.onBay i f).bay j = s.bay j := by cases i <;> cases j <;> simp_all

@[simp] theorem State.onBay_frame (s : State) (i : BayId) (f : Bay → Bay) :
    (s.onBay i f).pending = s.pending ∧ (s.onBay i f).lines = s.lines ∧
    (s.onBay i f).uptime = s.uptime ∧ (s.onBay i f).ctl = s.ctl ∧ (s.onBay i f).store = s.store ∧
    (s.onBay i f).link = s.link ∧ (s.onBay i f).flags = s.flags ∧
    (s.onBay i f).policy = s.policy ∧ (s.onBay i f).holdMask = s.holdMask ∧
    (s.onBay i f).supply = s.supply ∧ (s.onBay i f).light = s.light ∧
    (s.onBay i f).back = s.back ∧ (s.onBay i f).motion = s.motion ∧ (s.onBay i f).drop = s.drop ∧
    (s.onBay i f).streams = s.streams ∧ (s.onBay i f).due = s.due ∧
    (s.onBay i f).choice = s.choice :=
  by and_intros <;> rfl

theorem State.onTraffic_eq (s : State) (i : BayId) (f : Traffic → Traffic) :
    s.onTraffic i f = s.onBay i fun y => { y with traffic := f y.traffic } := rfl
@[simp] theorem State.onTraffic_bays (s : State) (i : BayId) (f : Traffic → Traffic) :
    (s.onTraffic i f).bays = s.bays.set i { s.bays.get i with traffic := f (s.bays.get i).traffic } := by
  simp only [State.onTraffic, State.onBay]
@[simp] theorem State.onTraffic_bay (s : State) (i : BayId) (f : Traffic → Traffic) :
    (s.onTraffic i f).bay i = { s.bay i with traffic := f (s.bay i).traffic } := by cases i <;> rfl
theorem State.onTraffic_bay_ne (s : State) {i j : BayId} (h : j ≠ i) (f : Traffic → Traffic) :
    (s.onTraffic i f).bay j = s.bay j := State.onBay_bay_ne s h _

@[simp] theorem State.onTraffic_frame (s : State) (i : BayId) (f : Traffic → Traffic) :
    (s.onTraffic i f).pending = s.pending ∧ (s.onTraffic i f).lines = s.lines ∧
    (s.onTraffic i f).uptime = s.uptime ∧ (s.onTraffic i f).ctl = s.ctl ∧
    (s.onTraffic i f).store = s.store ∧ (s.onTraffic i f).link = s.link ∧
    (s.onTraffic i f).flags = s.flags ∧ (s.onTraffic i f).policy = s.policy ∧
    (s.onTraffic i f).holdMask = s.holdMask ∧ (s.onTraffic i f).supply = s.supply ∧
    (s.onTraffic i f).light = s.light ∧ (s.onTraffic i f).back = s.back ∧
    (s.onTraffic i f).motion = s.motion ∧ (s.onTraffic i f).drop = s.drop ∧
    (s.onTraffic i f).streams = s.streams ∧ (s.onTraffic i f).due = s.due ∧
    (s.onTraffic i f).choice = s.choice :=
  by and_intros <;> rfl

theorem State.onRecord_eq (s : State) (i : BayId) (f : PackRecord → PackRecord) :
    s.onRecord i f = s.onBay i fun y => { y with record := f y.record } := rfl
@[simp] theorem State.onRecord_bays (s : State) (i : BayId) (f : PackRecord → PackRecord) :
    (s.onRecord i f).bays = s.bays.set i { s.bays.get i with record := f (s.bays.get i).record } := by
  simp only [State.onRecord, State.onBay]
@[simp] theorem State.onRecord_bay (s : State) (i : BayId) (f : PackRecord → PackRecord) :
    (s.onRecord i f).bay i = { s.bay i with record := f (s.bay i).record } := by cases i <;> rfl
theorem State.onRecord_bay_ne (s : State) {i j : BayId} (h : j ≠ i) (f : PackRecord → PackRecord) :
    (s.onRecord i f).bay j = s.bay j := State.onBay_bay_ne s h _

@[simp] theorem State.onRecord_frame (s : State) (i : BayId) (f : PackRecord → PackRecord) :
    (s.onRecord i f).pending = s.pending ∧ (s.onRecord i f).lines = s.lines ∧
    (s.onRecord i f).uptime = s.uptime ∧ (s.onRecord i f).ctl = s.ctl ∧
    (s.onRecord i f).store = s.store ∧ (s.onRecord i f).link = s.link ∧
    (s.onRecord i f).flags = s.flags ∧ (s.onRecord i f).policy = s.policy ∧
    (s.onRecord i f).holdMask = s.holdMask ∧ (s.onRecord i f).supply = s.supply ∧
    (s.onRecord i f).light = s.light ∧ (s.onRecord i f).back = s.back ∧
    (s.onRecord i f).motion = s.motion ∧ (s.onRecord i f).drop = s.drop ∧
    (s.onRecord i f).streams = s.streams ∧ (s.onRecord i f).due = s.due ∧
    (s.onRecord i f).choice = s.choice :=
  by and_intros <;> rfl

/-! ### The other blocks -/

@[simp] theorem State.onLines_lines (s : State) (f : Lines → Lines) :
    (s.onLines f).lines = f s.lines := by simp [State.onLines]
@[simp] theorem State.onLines_frame (s : State) (f : Lines → Lines) :
    (s.onLines f).pending = s.pending ∧ (s.onLines f).uptime = s.uptime ∧
    (s.onLines f).ctl = s.ctl ∧ (s.onLines f).store = s.store ∧ (s.onLines f).link = s.link ∧
    (s.onLines f).flags = s.flags ∧ (s.onLines f).policy = s.policy ∧
    (s.onLines f).holdMask = s.holdMask ∧ (s.onLines f).bays = s.bays ∧
    (s.onLines f).supply = s.supply ∧ (s.onLines f).light = s.light ∧
    (s.onLines f).back = s.back ∧ (s.onLines f).motion = s.motion ∧ (s.onLines f).drop = s.drop ∧
    (s.onLines f).streams = s.streams ∧ (s.onLines f).due = s.due ∧
    (s.onLines f).choice = s.choice :=
  by and_intros <;> rfl

@[simp] theorem State.onCtl_ctl (s : State) (f : ModeCtl → ModeCtl) :
    (s.onCtl f).ctl = f s.ctl := by simp [State.onCtl]
@[simp] theorem State.onCtl_frame (s : State) (f : ModeCtl → ModeCtl) :
    (s.onCtl f).pending = s.pending ∧ (s.onCtl f).lines = s.lines ∧
    (s.onCtl f).uptime = s.uptime ∧ (s.onCtl f).store = s.store ∧ (s.onCtl f).link = s.link ∧
    (s.onCtl f).flags = s.flags ∧ (s.onCtl f).policy = s.policy ∧
    (s.onCtl f).holdMask = s.holdMask ∧ (s.onCtl f).bays = s.bays ∧
    (s.onCtl f).supply = s.supply ∧ (s.onCtl f).light = s.light ∧ (s.onCtl f).back = s.back ∧
    (s.onCtl f).motion = s.motion ∧ (s.onCtl f).drop = s.drop ∧ (s.onCtl f).streams = s.streams ∧
    (s.onCtl f).due = s.due ∧ (s.onCtl f).choice = s.choice :=
  by and_intros <;> rfl

@[simp] theorem State.onLink_link (s : State) (f : Link → Link) :
    (s.onLink f).link = f s.link := by simp [State.onLink]
@[simp] theorem State.onLink_frame (s : State) (f : Link → Link) :
    (s.onLink f).pending = s.pending ∧ (s.onLink f).lines = s.lines ∧
    (s.onLink f).uptime = s.uptime ∧ (s.onLink f).ctl = s.ctl ∧ (s.onLink f).store = s.store ∧
    (s.onLink f).flags = s.flags ∧ (s.onLink f).policy = s.policy ∧
    (s.onLink f).holdMask = s.holdMask ∧ (s.onLink f).bays = s.bays ∧
    (s.onLink f).supply = s.supply ∧ (s.onLink f).light = s.light ∧ (s.onLink f).back = s.back ∧
    (s.onLink f).motion = s.motion ∧ (s.onLink f).drop = s.drop ∧
    (s.onLink f).streams = s.streams ∧ (s.onLink f).due = s.due ∧ (s.onLink f).choice = s.choice :=
  by and_intros <;> rfl

@[simp] theorem State.onFlags_flags (s : State) (f : SpaceFlags → SpaceFlags) :
    (s.onFlags f).flags = f s.flags := by simp [State.onFlags]
@[simp] theorem State.onFlags_frame (s : State) (f : SpaceFlags → SpaceFlags) :
    (s.onFlags f).pending = s.pending ∧ (s.onFlags f).lines = s.lines ∧
    (s.onFlags f).uptime = s.uptime ∧ (s.onFlags f).ctl = s.ctl ∧ (s.onFlags f).store = s.store ∧
    (s.onFlags f).link = s.link ∧ (s.onFlags f).policy = s.policy ∧
    (s.onFlags f).holdMask = s.holdMask ∧ (s.onFlags f).bays = s.bays ∧
    (s.onFlags f).supply = s.supply ∧ (s.onFlags f).light = s.light ∧
    (s.onFlags f).back = s.back ∧ (s.onFlags f).motion = s.motion ∧ (s.onFlags f).drop = s.drop ∧
    (s.onFlags f).streams = s.streams ∧ (s.onFlags f).due = s.due ∧
    (s.onFlags f).choice = s.choice :=
  by and_intros <;> rfl

@[simp] theorem State.onPolicy_policy (s : State) (f : Policy → Policy) :
    (s.onPolicy f).policy = f s.policy := by simp [State.onPolicy]
@[simp] theorem State.onPolicy_frame (s : State) (f : Policy → Policy) :
    (s.onPolicy f).pending = s.pending ∧ (s.onPolicy f).lines = s.lines ∧
    (s.onPolicy f).uptime = s.uptime ∧ (s.onPolicy f).ctl = s.ctl ∧
    (s.onPolicy f).store = s.store ∧ (s.onPolicy f).link = s.link ∧
    (s.onPolicy f).flags = s.flags ∧ (s.onPolicy f).holdMask = s.holdMask ∧
    (s.onPolicy f).bays = s.bays ∧ (s.onPolicy f).supply = s.supply ∧
    (s.onPolicy f).light = s.light ∧ (s.onPolicy f).back = s.back ∧
    (s.onPolicy f).motion = s.motion ∧ (s.onPolicy f).drop = s.drop ∧
    (s.onPolicy f).streams = s.streams ∧ (s.onPolicy f).due = s.due ∧
    (s.onPolicy f).choice = s.choice :=
  by and_intros <;> rfl

@[simp] theorem State.onSupply_supply (s : State) (f : Supply → Supply) :
    (s.onSupply f).supply = f s.supply := by simp [State.onSupply]
@[simp] theorem State.onSupply_frame (s : State) (f : Supply → Supply) :
    (s.onSupply f).pending = s.pending ∧ (s.onSupply f).lines = s.lines ∧
    (s.onSupply f).uptime = s.uptime ∧ (s.onSupply f).ctl = s.ctl ∧
    (s.onSupply f).store = s.store ∧ (s.onSupply f).link = s.link ∧
    (s.onSupply f).flags = s.flags ∧ (s.onSupply f).policy = s.policy ∧
    (s.onSupply f).holdMask = s.holdMask ∧ (s.onSupply f).bays = s.bays ∧
    (s.onSupply f).light = s.light ∧ (s.onSupply f).back = s.back ∧
    (s.onSupply f).motion = s.motion ∧ (s.onSupply f).drop = s.drop ∧
    (s.onSupply f).streams = s.streams ∧ (s.onSupply f).due = s.due ∧
    (s.onSupply f).choice = s.choice :=
  by and_intros <;> rfl

@[simp] theorem State.onLight_light (s : State) (f : Light → Light) :
    (s.onLight f).light = f s.light := by simp [State.onLight]
@[simp] theorem State.onLight_frame (s : State) (f : Light → Light) :
    (s.onLight f).pending = s.pending ∧ (s.onLight f).lines = s.lines ∧
    (s.onLight f).uptime = s.uptime ∧ (s.onLight f).ctl = s.ctl ∧ (s.onLight f).store = s.store ∧
    (s.onLight f).link = s.link ∧ (s.onLight f).flags = s.flags ∧
    (s.onLight f).policy = s.policy ∧ (s.onLight f).holdMask = s.holdMask ∧
    (s.onLight f).bays = s.bays ∧ (s.onLight f).supply = s.supply ∧ (s.onLight f).back = s.back ∧
    (s.onLight f).motion = s.motion ∧ (s.onLight f).drop = s.drop ∧
    (s.onLight f).streams = s.streams ∧ (s.onLight f).due = s.due ∧
    (s.onLight f).choice = s.choice :=
  by and_intros <;> rfl

@[simp] theorem State.onBack_back (s : State) (f : Backlight → Backlight) :
    (s.onBack f).back = f s.back := by simp [State.onBack]
@[simp] theorem State.onBack_frame (s : State) (f : Backlight → Backlight) :
    (s.onBack f).pending = s.pending ∧ (s.onBack f).lines = s.lines ∧
    (s.onBack f).uptime = s.uptime ∧ (s.onBack f).ctl = s.ctl ∧ (s.onBack f).store = s.store ∧
    (s.onBack f).link = s.link ∧ (s.onBack f).flags = s.flags ∧ (s.onBack f).policy = s.policy ∧
    (s.onBack f).holdMask = s.holdMask ∧ (s.onBack f).bays = s.bays ∧
    (s.onBack f).supply = s.supply ∧ (s.onBack f).light = s.light ∧
    (s.onBack f).motion = s.motion ∧ (s.onBack f).drop = s.drop ∧
    (s.onBack f).streams = s.streams ∧ (s.onBack f).due = s.due ∧ (s.onBack f).choice = s.choice :=
  by and_intros <;> rfl

@[simp] theorem State.onMotion_motion (s : State) (f : Motion → Motion) :
    (s.onMotion f).motion = f s.motion := by simp [State.onMotion]
@[simp] theorem State.onMotion_frame (s : State) (f : Motion → Motion) :
    (s.onMotion f).pending = s.pending ∧ (s.onMotion f).lines = s.lines ∧
    (s.onMotion f).uptime = s.uptime ∧ (s.onMotion f).ctl = s.ctl ∧
    (s.onMotion f).store = s.store ∧ (s.onMotion f).link = s.link ∧
    (s.onMotion f).flags = s.flags ∧ (s.onMotion f).policy = s.policy ∧
    (s.onMotion f).holdMask = s.holdMask ∧ (s.onMotion f).bays = s.bays ∧
    (s.onMotion f).supply = s.supply ∧ (s.onMotion f).light = s.light ∧
    (s.onMotion f).back = s.back ∧ (s.onMotion f).drop = s.drop ∧
    (s.onMotion f).streams = s.streams ∧ (s.onMotion f).due = s.due ∧
    (s.onMotion f).choice = s.choice :=
  by and_intros <;> rfl

@[simp] theorem State.onDrop_drop (s : State) (f : DropLog → DropLog) :
    (s.onDrop f).drop = f s.drop := by simp [State.onDrop]
@[simp] theorem State.onDrop_frame (s : State) (f : DropLog → DropLog) :
    (s.onDrop f).pending = s.pending ∧ (s.onDrop f).lines = s.lines ∧
    (s.onDrop f).uptime = s.uptime ∧ (s.onDrop f).ctl = s.ctl ∧ (s.onDrop f).store = s.store ∧
    (s.onDrop f).link = s.link ∧ (s.onDrop f).flags = s.flags ∧ (s.onDrop f).policy = s.policy ∧
    (s.onDrop f).holdMask = s.holdMask ∧ (s.onDrop f).bays = s.bays ∧
    (s.onDrop f).supply = s.supply ∧ (s.onDrop f).light = s.light ∧ (s.onDrop f).back = s.back ∧
    (s.onDrop f).motion = s.motion ∧ (s.onDrop f).streams = s.streams ∧ (s.onDrop f).due = s.due ∧
    (s.onDrop f).choice = s.choice :=
  by and_intros <;> rfl

@[simp] theorem State.onStreams_streams (s : State) (f : Streams → Streams) :
    (s.onStreams f).streams = f s.streams := by simp [State.onStreams]
@[simp] theorem State.onStreams_frame (s : State) (f : Streams → Streams) :
    (s.onStreams f).pending = s.pending ∧ (s.onStreams f).lines = s.lines ∧
    (s.onStreams f).uptime = s.uptime ∧ (s.onStreams f).ctl = s.ctl ∧
    (s.onStreams f).store = s.store ∧ (s.onStreams f).link = s.link ∧
    (s.onStreams f).flags = s.flags ∧ (s.onStreams f).policy = s.policy ∧
    (s.onStreams f).holdMask = s.holdMask ∧ (s.onStreams f).bays = s.bays ∧
    (s.onStreams f).supply = s.supply ∧ (s.onStreams f).light = s.light ∧
    (s.onStreams f).back = s.back ∧ (s.onStreams f).motion = s.motion ∧
    (s.onStreams f).drop = s.drop ∧ (s.onStreams f).due = s.due ∧
    (s.onStreams f).choice = s.choice :=
  by and_intros <;> rfl

@[simp] theorem State.withHoldMask_holdMask (s : State) (m : BitVec 4) :
    (s.withHoldMask m).holdMask = m := by simp only [State.withHoldMask]
@[simp] theorem State.withHoldMask_frame (s : State) (m : BitVec 4) :
    (s.withHoldMask m).pending = s.pending ∧ (s.withHoldMask m).lines = s.lines ∧
    (s.withHoldMask m).uptime = s.uptime ∧ (s.withHoldMask m).ctl = s.ctl ∧
    (s.withHoldMask m).store = s.store ∧ (s.withHoldMask m).link = s.link ∧
    (s.withHoldMask m).flags = s.flags ∧ (s.withHoldMask m).policy = s.policy ∧
    (s.withHoldMask m).bays = s.bays ∧ (s.withHoldMask m).supply = s.supply ∧
    (s.withHoldMask m).light = s.light ∧ (s.withHoldMask m).back = s.back ∧
    (s.withHoldMask m).motion = s.motion ∧ (s.withHoldMask m).drop = s.drop ∧
    (s.withHoldMask m).streams = s.streams ∧ (s.withHoldMask m).due = s.due ∧
    (s.withHoldMask m).choice = s.choice :=
  by and_intros <;> rfl

@[simp] theorem State.withUptime_uptime (s : State) (t : Nat) : (s.withUptime t).uptime = t := by simp only [State.withUptime]
@[simp] theorem State.withUptime_frame (s : State) (t : Nat) :
    (s.withUptime t).pending = s.pending ∧ (s.withUptime t).lines = s.lines ∧
    (s.withUptime t).ctl = s.ctl ∧ (s.withUptime t).store = s.store ∧
    (s.withUptime t).link = s.link ∧ (s.withUptime t).flags = s.flags ∧
    (s.withUptime t).policy = s.policy ∧ (s.withUptime t).holdMask = s.holdMask ∧
    (s.withUptime t).bays = s.bays ∧ (s.withUptime t).supply = s.supply ∧
    (s.withUptime t).light = s.light ∧ (s.withUptime t).back = s.back ∧
    (s.withUptime t).motion = s.motion ∧ (s.withUptime t).drop = s.drop ∧
    (s.withUptime t).streams = s.streams ∧ (s.withUptime t).due = s.due ∧
    (s.withUptime t).choice = s.choice :=
  by and_intros <;> rfl

@[simp] theorem State.bumpChoice_choice (s : State) : s.bumpChoice.choice = s.choice + 1 := by simp only [State.bumpChoice]
@[simp] theorem State.bumpChoice_frame (s : State) :
    (s.bumpChoice).pending = s.pending ∧ (s.bumpChoice).lines = s.lines ∧
    (s.bumpChoice).uptime = s.uptime ∧ (s.bumpChoice).ctl = s.ctl ∧
    (s.bumpChoice).store = s.store ∧ (s.bumpChoice).link = s.link ∧
    (s.bumpChoice).flags = s.flags ∧ (s.bumpChoice).policy = s.policy ∧
    (s.bumpChoice).holdMask = s.holdMask ∧ (s.bumpChoice).bays = s.bays ∧
    (s.bumpChoice).supply = s.supply ∧ (s.bumpChoice).light = s.light ∧
    (s.bumpChoice).back = s.back ∧ (s.bumpChoice).motion = s.motion ∧
    (s.bumpChoice).drop = s.drop ∧ (s.bumpChoice).streams = s.streams ∧ (s.bumpChoice).due = s.due :=
  by and_intros <;> rfl

@[simp] theorem State.owe_frame (s : State) (e : SupplyEvent) :
    (s.owe e).pending = s.pending ∧ (s.owe e).lines = s.lines ∧ (s.owe e).uptime = s.uptime ∧
    (s.owe e).ctl = s.ctl ∧ (s.owe e).store = s.store ∧ (s.owe e).link = s.link ∧
    (s.owe e).flags = s.flags ∧ (s.owe e).policy = s.policy ∧ (s.owe e).holdMask = s.holdMask ∧
    (s.owe e).bays = s.bays ∧ (s.owe e).supply = s.supply ∧ (s.owe e).light = s.light ∧
    (s.owe e).back = s.back ∧ (s.owe e).motion = s.motion ∧ (s.owe e).drop = s.drop ∧
    (s.owe e).streams = s.streams ∧ (s.owe e).choice = s.choice :=
  by and_intros <;> rfl

@[simp] theorem State.settled_due (s : State) : s.settled.due = none := by simp only [State.settled]
@[simp] theorem State.settled_frame (s : State) :
    (s.settled).pending = s.pending ∧ (s.settled).lines = s.lines ∧
    (s.settled).uptime = s.uptime ∧ (s.settled).ctl = s.ctl ∧ (s.settled).store = s.store ∧
    (s.settled).link = s.link ∧ (s.settled).flags = s.flags ∧ (s.settled).policy = s.policy ∧
    (s.settled).holdMask = s.holdMask ∧ (s.settled).bays = s.bays ∧
    (s.settled).supply = s.supply ∧ (s.settled).light = s.light ∧ (s.settled).back = s.back ∧
    (s.settled).motion = s.motion ∧ (s.settled).drop = s.drop ∧ (s.settled).streams = s.streams ∧
    (s.settled).choice = s.choice :=
  by and_intros <;> rfl

/-- An owed re-evaluation: the event is the one already owed, or a new one (log 9). -/
theorem State.owe_due (s : State) (e : SupplyEvent) :
    (s.owe e).due = match s.due with
      | some d => if d = .other then some e else some d
      | none => some e := rfl

/-! ### Sticky flags -/

@[simp] theorem SpaceFlags.get_set (fs : SpaceFlags) (sp : Space) (v : Half) :
    (fs.set sp v).get sp = v := by cases sp <;> rfl
theorem SpaceFlags.get_set_ne (fs : SpaceFlags) {sp sp' : Space} (h : sp' ≠ sp) (v : Half) :
    (fs.set sp v).get sp' = fs.get sp' := by cases sp <;> cases sp' <;> simp_all [SpaceFlags.get, SpaceFlags.set]
@[simp] theorem SpaceFlags.clear_get (sp : Space) : SpaceFlags.clear.get sp = 0 := by cases sp <;> rfl

@[simp] theorem State.raise_frame (s : State) (sp : Space) (f : Flag) :
    (s.raise sp f).pending = s.pending ∧ (s.raise sp f).lines = s.lines ∧
    (s.raise sp f).uptime = s.uptime ∧ (s.raise sp f).ctl = s.ctl ∧
    (s.raise sp f).store = s.store ∧ (s.raise sp f).link = s.link ∧
    (s.raise sp f).policy = s.policy ∧ (s.raise sp f).holdMask = s.holdMask ∧
    (s.raise sp f).bays = s.bays ∧ (s.raise sp f).supply = s.supply ∧
    (s.raise sp f).light = s.light ∧ (s.raise sp f).back = s.back ∧
    (s.raise sp f).motion = s.motion ∧ (s.raise sp f).drop = s.drop ∧
    (s.raise sp f).streams = s.streams ∧ (s.raise sp f).due = s.due ∧
    (s.raise sp f).choice = s.choice :=
  by and_intros <;> rfl

/-- Setting a flag: the flag joins its space's set (R185). -/
@[simp] theorem State.raise_flags (s : State) (sp : Space) (f : Flag) :
    (s.raise sp f).flags = s.flags.set sp (s.flags.get sp ||| f.mask) := by
  simp only [State.raise, State.onFlags]
@[simp] theorem State.clearFlags_frame (s : State) (sp : Space) (m : Half) :
    (s.clearFlags sp m).pending = s.pending ∧ (s.clearFlags sp m).lines = s.lines ∧
    (s.clearFlags sp m).uptime = s.uptime ∧ (s.clearFlags sp m).ctl = s.ctl ∧
    (s.clearFlags sp m).store = s.store ∧ (s.clearFlags sp m).link = s.link ∧
    (s.clearFlags sp m).policy = s.policy ∧ (s.clearFlags sp m).holdMask = s.holdMask ∧
    (s.clearFlags sp m).bays = s.bays ∧ (s.clearFlags sp m).supply = s.supply ∧
    (s.clearFlags sp m).light = s.light ∧ (s.clearFlags sp m).back = s.back ∧
    (s.clearFlags sp m).motion = s.motion ∧ (s.clearFlags sp m).drop = s.drop ∧
    (s.clearFlags sp m).streams = s.streams ∧ (s.clearFlags sp m).due = s.due ∧
    (s.clearFlags sp m).choice = s.choice :=
  by and_intros <;> rfl

@[simp] theorem State.clearFlags_flags (s : State) (sp : Space) (m : Half) :
    (s.clearFlags sp m).flags = s.flags.set sp (s.flags.get sp &&& ~~~m) := by
  simp only [State.clearFlags, State.onFlags]
@[simp] theorem State.clearAllFlags_flags (s : State) : s.clearAllFlags.flags = .clear := by
  simp only [State.clearAllFlags, State.onFlags]
@[simp] theorem State.clearAllFlags_frame (s : State) :
    (s.clearAllFlags).pending = s.pending ∧ (s.clearAllFlags).lines = s.lines ∧
    (s.clearAllFlags).uptime = s.uptime ∧ (s.clearAllFlags).ctl = s.ctl ∧
    (s.clearAllFlags).store = s.store ∧ (s.clearAllFlags).link = s.link ∧
    (s.clearAllFlags).policy = s.policy ∧ (s.clearAllFlags).holdMask = s.holdMask ∧
    (s.clearAllFlags).bays = s.bays ∧ (s.clearAllFlags).supply = s.supply ∧
    (s.clearAllFlags).light = s.light ∧ (s.clearAllFlags).back = s.back ∧
    (s.clearAllFlags).motion = s.motion ∧ (s.clearAllFlags).drop = s.drop ∧
    (s.clearAllFlags).streams = s.streams ∧ (s.clearAllFlags).due = s.due ∧
    (s.clearAllFlags).choice = s.choice :=
  by and_intros <;> rfl

end Sys2Proof.Machine
end

