-- ==== Sys2Proof/Laws/BayFrames.lean ====
section
/-!
SUPPORT. For each operation of the latch, the bay manager, the supply controller and the pack traffic unit, which parts of the state it leaves as they are.
-/

namespace Sys2Proof.Machine

@[simp] theorem State.wakeEvent_frame (s : State) (k : WakeKind) :
    (State.wakeEvent s k).pending = s.pending ∧ (State.wakeEvent s k).lines = s.lines ∧
    (State.wakeEvent s k).uptime = s.uptime ∧ (State.wakeEvent s k).store = s.store ∧
    (State.wakeEvent s k).link = s.link ∧ (State.wakeEvent s k).flags = s.flags ∧
    (State.wakeEvent s k).policy = s.policy ∧ (State.wakeEvent s k).holdMask = s.holdMask ∧
    (State.wakeEvent s k).bays = s.bays ∧ (State.wakeEvent s k).supply = s.supply ∧
    (State.wakeEvent s k).light = s.light ∧ (State.wakeEvent s k).back = s.back ∧
    (State.wakeEvent s k).motion = s.motion ∧ (State.wakeEvent s k).drop = s.drop ∧
    (State.wakeEvent s k).streams = s.streams ∧ (State.wakeEvent s k).due = s.due ∧
    (State.wakeEvent s k).choice = s.choice := by
  simp only [State.wakeEvent]
  simp

@[simp] theorem State.syncPins_frame (s : State) :
    (State.syncPins s).pending = s.pending ∧ (State.syncPins s).lines = s.lines ∧
    (State.syncPins s).uptime = s.uptime ∧ (State.syncPins s).ctl = s.ctl ∧
    (State.syncPins s).store = s.store ∧ (State.syncPins s).link = s.link ∧
    (State.syncPins s).flags = s.flags ∧ (State.syncPins s).policy = s.policy ∧
    (State.syncPins s).holdMask = s.holdMask ∧ (State.syncPins s).supply = s.supply ∧
    (State.syncPins s).light = s.light ∧ (State.syncPins s).back = s.back ∧
    (State.syncPins s).motion = s.motion ∧ (State.syncPins s).streams = s.streams ∧
    (State.syncPins s).due = s.due ∧ (State.syncPins s).choice = s.choice := by
  simp only [State.syncPins]
  (repeat' split) <;> simp

@[simp] theorem State.transmit_frame (s : State) :
    (State.transmit s).pending = s.pending ∧ (State.transmit s).lines = s.lines ∧
    (State.transmit s).uptime = s.uptime ∧ (State.transmit s).ctl = s.ctl ∧
    (State.transmit s).store = s.store ∧ (State.transmit s).flags = s.flags ∧
    (State.transmit s).policy = s.policy ∧ (State.transmit s).holdMask = s.holdMask ∧
    (State.transmit s).bays = s.bays ∧ (State.transmit s).supply = s.supply ∧
    (State.transmit s).light = s.light ∧ (State.transmit s).back = s.back ∧
    (State.transmit s).motion = s.motion ∧ (State.transmit s).drop = s.drop ∧
    (State.transmit s).streams = s.streams ∧ (State.transmit s).due = s.due ∧
    (State.transmit s).choice = s.choice := by
  simp only [State.transmit]
  (repeat' split) <;> simp

@[simp] theorem State.respond_frame (s : State) (r : Response) :
    (State.respond s r).pending = s.pending ∧ (State.respond s r).lines = s.lines ∧
    (State.respond s r).uptime = s.uptime ∧ (State.respond s r).ctl = s.ctl ∧
    (State.respond s r).store = s.store ∧ (State.respond s r).policy = s.policy ∧
    (State.respond s r).holdMask = s.holdMask ∧ (State.respond s r).bays = s.bays ∧
    (State.respond s r).supply = s.supply ∧ (State.respond s r).light = s.light ∧
    (State.respond s r).back = s.back ∧ (State.respond s r).motion = s.motion ∧
    (State.respond s r).drop = s.drop ∧ (State.respond s r).streams = s.streams ∧
    (State.respond s r).due = s.due ∧ (State.respond s r).choice = s.choice := by
  simp only [State.respond]
  (repeat' split) <;> simp

@[simp] theorem State.handAlert_frame (s : State) (p : AlertPacket) :
    (State.handAlert s p).pending = s.pending ∧ (State.handAlert s p).lines = s.lines ∧
    (State.handAlert s p).uptime = s.uptime ∧ (State.handAlert s p).ctl = s.ctl ∧
    (State.handAlert s p).store = s.store ∧ (State.handAlert s p).flags = s.flags ∧
    (State.handAlert s p).policy = s.policy ∧ (State.handAlert s p).holdMask = s.holdMask ∧
    (State.handAlert s p).bays = s.bays ∧ (State.handAlert s p).supply = s.supply ∧
    (State.handAlert s p).light = s.light ∧ (State.handAlert s p).back = s.back ∧
    (State.handAlert s p).motion = s.motion ∧ (State.handAlert s p).drop = s.drop ∧
    (State.handAlert s p).streams = s.streams ∧ (State.handAlert s p).due = s.due ∧
    (State.handAlert s p).choice = s.choice := by
  simp only [State.handAlert]
  simp

@[simp] theorem State.report_frame (s : State) (i : BayId) (dest : ReverifyDest) (o : VerifyOutcome) :
    (State.report s i dest o).pending = s.pending ∧ (State.report s i dest o).lines = s.lines ∧
    (State.report s i dest o).uptime = s.uptime ∧ (State.report s i dest o).ctl = s.ctl ∧
    (State.report s i dest o).store = s.store ∧ (State.report s i dest o).link = s.link ∧
    (State.report s i dest o).flags = s.flags ∧ (State.report s i dest o).policy = s.policy ∧
    (State.report s i dest o).holdMask = s.holdMask ∧ (State.report s i dest o).bays = s.bays ∧
    (State.report s i dest o).supply = s.supply ∧ (State.report s i dest o).light = s.light ∧
    (State.report s i dest o).back = s.back ∧ (State.report s i dest o).motion = s.motion ∧
    (State.report s i dest o).streams = s.streams ∧ (State.report s i dest o).due = s.due ∧
    (State.report s i dest o).choice = s.choice := by
  simp only [State.report]
  (repeat' split) <;> simp

@[simp] theorem State.setReasons_frame (s : State) (i : BayId) (f : LockReasons → LockReasons) :
    (State.setReasons s i f).pending = s.pending ∧ (State.setReasons s i f).lines = s.lines ∧
    (State.setReasons s i f).uptime = s.uptime ∧ (State.setReasons s i f).ctl = s.ctl ∧
    (State.setReasons s i f).store = s.store ∧ (State.setReasons s i f).link = s.link ∧
    (State.setReasons s i f).flags = s.flags ∧ (State.setReasons s i f).policy = s.policy ∧
    (State.setReasons s i f).holdMask = s.holdMask ∧ (State.setReasons s i f).supply = s.supply ∧
    (State.setReasons s i f).light = s.light ∧ (State.setReasons s i f).back = s.back ∧
    (State.setReasons s i f).motion = s.motion ∧ (State.setReasons s i f).streams = s.streams ∧
    (State.setReasons s i f).due = s.due ∧ (State.setReasons s i f).choice = s.choice := by
  simp only [State.setReasons]
  simp

@[simp] theorem State.answerFromRecord_frame (s : State) (i : BayId) (other : Answer) (r : HostRequest) :
    (State.answerFromRecord s i other r).pending = s.pending ∧
    (State.answerFromRecord s i other r).lines = s.lines ∧
    (State.answerFromRecord s i other r).uptime = s.uptime ∧
    (State.answerFromRecord s i other r).ctl = s.ctl ∧
    (State.answerFromRecord s i other r).store = s.store ∧
    (State.answerFromRecord s i other r).policy = s.policy ∧
    (State.answerFromRecord s i other r).holdMask = s.holdMask ∧
    (State.answerFromRecord s i other r).bays = s.bays ∧
    (State.answerFromRecord s i other r).supply = s.supply ∧
    (State.answerFromRecord s i other r).light = s.light ∧
    (State.answerFromRecord s i other r).back = s.back ∧
    (State.answerFromRecord s i other r).motion = s.motion ∧
    (State.answerFromRecord s i other r).drop = s.drop ∧
    (State.answerFromRecord s i other r).streams = s.streams ∧
    (State.answerFromRecord s i other r).due = s.due ∧
    (State.answerFromRecord s i other r).choice = s.choice := by
  simp only [State.answerFromRecord]
  (repeat' split) <;> simp

@[simp] theorem State.answerQueue_frame (s : State) (i : BayId) (other : Answer) (q : List HostRequest) :
    (State.answerQueue s i other q).pending = s.pending ∧
    (State.answerQueue s i other q).lines = s.lines ∧
    (State.answerQueue s i other q).uptime = s.uptime ∧
    (State.answerQueue s i other q).ctl = s.ctl ∧
    (State.answerQueue s i other q).store = s.store ∧
    (State.answerQueue s i other q).policy = s.policy ∧
    (State.answerQueue s i other q).holdMask = s.holdMask ∧
    (State.answerQueue s i other q).bays = s.bays ∧
    (State.answerQueue s i other q).supply = s.supply ∧
    (State.answerQueue s i other q).light = s.light ∧
    (State.answerQueue s i other q).back = s.back ∧
    (State.answerQueue s i other q).motion = s.motion ∧
    (State.answerQueue s i other q).drop = s.drop ∧
    (State.answerQueue s i other q).streams = s.streams ∧
    (State.answerQueue s i other q).due = s.due ∧
    (State.answerQueue s i other q).choice = s.choice := by
  induction q generalizing s with
  | nil => simp [State.answerQueue]
  | cons r rs ih => simp [State.answerQueue, ih]

@[simp] theorem State.reportLost_frame (s : State) (i : BayId) (t : Traffic) :
    (State.reportLost s i t).pending = s.pending ∧ (State.reportLost s i t).lines = s.lines ∧
    (State.reportLost s i t).uptime = s.uptime ∧ (State.reportLost s i t).ctl = s.ctl ∧
    (State.reportLost s i t).store = s.store ∧ (State.reportLost s i t).link = s.link ∧
    (State.reportLost s i t).flags = s.flags ∧ (State.reportLost s i t).policy = s.policy ∧
    (State.reportLost s i t).holdMask = s.holdMask ∧ (State.reportLost s i t).bays = s.bays ∧
    (State.reportLost s i t).supply = s.supply ∧ (State.reportLost s i t).light = s.light ∧
    (State.reportLost s i t).back = s.back ∧ (State.reportLost s i t).motion = s.motion ∧
    (State.reportLost s i t).streams = s.streams ∧ (State.reportLost s i t).due = s.due ∧
    (State.reportLost s i t).choice = s.choice := by
  simp only [State.reportLost]
  (repeat' split) <;> simp

@[simp] theorem State.settleSilent_frame (s : State) (i : BayId) :
    (State.settleSilent s i).pending = s.pending ∧ (State.settleSilent s i).lines = s.lines ∧
    (State.settleSilent s i).uptime = s.uptime ∧ (State.settleSilent s i).ctl = s.ctl ∧
    (State.settleSilent s i).store = s.store ∧ (State.settleSilent s i).policy = s.policy ∧
    (State.settleSilent s i).holdMask = s.holdMask ∧ (State.settleSilent s i).supply = s.supply ∧
    (State.settleSilent s i).light = s.light ∧ (State.settleSilent s i).back = s.back ∧
    (State.settleSilent s i).motion = s.motion ∧ (State.settleSilent s i).streams = s.streams ∧
    (State.settleSilent s i).choice = s.choice := by
  simp only [State.settleSilent]
  simp

@[simp] theorem State.settleEmpty_frame (s : State) (i : BayId) :
    (State.settleEmpty s i).pending = s.pending ∧ (State.settleEmpty s i).lines = s.lines ∧
    (State.settleEmpty s i).uptime = s.uptime ∧ (State.settleEmpty s i).ctl = s.ctl ∧
    (State.settleEmpty s i).store = s.store ∧ (State.settleEmpty s i).policy = s.policy ∧
    (State.settleEmpty s i).holdMask = s.holdMask ∧ (State.settleEmpty s i).supply = s.supply ∧
    (State.settleEmpty s i).light = s.light ∧ (State.settleEmpty s i).back = s.back ∧
    (State.settleEmpty s i).motion = s.motion ∧ (State.settleEmpty s i).streams = s.streams ∧
    (State.settleEmpty s i).choice = s.choice := by
  simp only [State.settleEmpty]
  (repeat' split) <;> simp

@[simp] theorem State.moveBay_frame (s : State) (i : BayId) (new : BayState) :
    (State.moveBay s i new).pending = s.pending ∧ (State.moveBay s i new).lines = s.lines ∧
    (State.moveBay s i new).uptime = s.uptime ∧ (State.moveBay s i new).ctl = s.ctl ∧
    (State.moveBay s i new).store = s.store ∧ (State.moveBay s i new).link = s.link ∧
    (State.moveBay s i new).policy = s.policy ∧ (State.moveBay s i new).holdMask = s.holdMask ∧
    (State.moveBay s i new).supply = s.supply ∧ (State.moveBay s i new).light = s.light ∧
    (State.moveBay s i new).back = s.back ∧ (State.moveBay s i new).motion = s.motion ∧
    (State.moveBay s i new).streams = s.streams ∧ (State.moveBay s i new).choice = s.choice := by
  simp only [State.moveBay]
  (repeat' split) <;> simp

@[simp] theorem State.onIndications_frame (s : State) (i : BayId) (f : Bay → Bay) :
    (State.onIndications s i f).pending = s.pending ∧
    (State.onIndications s i f).lines = s.lines ∧ (State.onIndications s i f).uptime = s.uptime ∧
    (State.onIndications s i f).ctl = s.ctl ∧ (State.onIndications s i f).store = s.store ∧
    (State.onIndications s i f).link = s.link ∧ (State.onIndications s i f).flags = s.flags ∧
    (State.onIndications s i f).policy = s.policy ∧
    (State.onIndications s i f).holdMask = s.holdMask ∧
    (State.onIndications s i f).supply = s.supply ∧ (State.onIndications s i f).light = s.light ∧
    (State.onIndications s i f).back = s.back ∧ (State.onIndications s i f).motion = s.motion ∧
    (State.onIndications s i f).drop = s.drop ∧ (State.onIndications s i f).streams = s.streams ∧
    (State.onIndications s i f).choice = s.choice := by
  simp only [State.onIndications]
  simp

@[simp] theorem State.enterIdentifying_frame (s : State) (i : BayId) :
    (State.enterIdentifying s i).pending = s.pending ∧
    (State.enterIdentifying s i).lines = s.lines ∧
    (State.enterIdentifying s i).uptime = s.uptime ∧ (State.enterIdentifying s i).ctl = s.ctl ∧
    (State.enterIdentifying s i).store = s.store ∧ (State.enterIdentifying s i).link = s.link ∧
    (State.enterIdentifying s i).policy = s.policy ∧
    (State.enterIdentifying s i).holdMask = s.holdMask ∧
    (State.enterIdentifying s i).supply = s.supply ∧
    (State.enterIdentifying s i).light = s.light ∧ (State.enterIdentifying s i).back = s.back ∧
    (State.enterIdentifying s i).motion = s.motion ∧
    (State.enterIdentifying s i).streams = s.streams ∧
    (State.enterIdentifying s i).choice = s.choice := by
  simp only [State.enterIdentifying]
  simp

@[simp] theorem State.startSettle_frame (s : State) (i : BayId) :
    (State.startSettle s i).pending = s.pending ∧ (State.startSettle s i).lines = s.lines ∧
    (State.startSettle s i).uptime = s.uptime ∧ (State.startSettle s i).ctl = s.ctl ∧
    (State.startSettle s i).store = s.store ∧ (State.startSettle s i).link = s.link ∧
    (State.startSettle s i).flags = s.flags ∧ (State.startSettle s i).policy = s.policy ∧
    (State.startSettle s i).holdMask = s.holdMask ∧ (State.startSettle s i).supply = s.supply ∧
    (State.startSettle s i).light = s.light ∧ (State.startSettle s i).back = s.back ∧
    (State.startSettle s i).motion = s.motion ∧ (State.startSettle s i).drop = s.drop ∧
    (State.startSettle s i).streams = s.streams ∧ (State.startSettle s i).due = s.due ∧
    (State.startSettle s i).choice = s.choice := by
  simp only [State.startSettle]
  simp

@[simp] theorem State.startRelease_frame (s : State) (i : BayId) :
    (State.startRelease s i).pending = s.pending ∧ (State.startRelease s i).lines = s.lines ∧
    (State.startRelease s i).uptime = s.uptime ∧ (State.startRelease s i).ctl = s.ctl ∧
    (State.startRelease s i).store = s.store ∧ (State.startRelease s i).link = s.link ∧
    (State.startRelease s i).flags = s.flags ∧ (State.startRelease s i).policy = s.policy ∧
    (State.startRelease s i).holdMask = s.holdMask ∧ (State.startRelease s i).supply = s.supply ∧
    (State.startRelease s i).light = s.light ∧ (State.startRelease s i).back = s.back ∧
    (State.startRelease s i).motion = s.motion ∧ (State.startRelease s i).drop = s.drop ∧
    (State.startRelease s i).streams = s.streams ∧ (State.startRelease s i).due = s.due ∧
    (State.startRelease s i).choice = s.choice := by
  simp only [State.startRelease]
  simp

@[simp] theorem State.contactArrival_frame (s : State) (i : BayId) :
    (State.contactArrival s i).pending = s.pending ∧ (State.contactArrival s i).lines = s.lines ∧
    (State.contactArrival s i).uptime = s.uptime ∧ (State.contactArrival s i).store = s.store ∧
    (State.contactArrival s i).link = s.link ∧ (State.contactArrival s i).policy = s.policy ∧
    (State.contactArrival s i).holdMask = s.holdMask ∧
    (State.contactArrival s i).supply = s.supply ∧ (State.contactArrival s i).light = s.light ∧
    (State.contactArrival s i).back = s.back ∧ (State.contactArrival s i).motion = s.motion ∧
    (State.contactArrival s i).streams = s.streams ∧ (State.contactArrival s i).choice = s.choice := by
  simp only [State.contactArrival]
  (repeat' split) <;> simp

@[simp] theorem State.contactLoss_frame (s : State) (i : BayId) :
    (State.contactLoss s i).pending = s.pending ∧ (State.contactLoss s i).lines = s.lines ∧
    (State.contactLoss s i).uptime = s.uptime ∧ (State.contactLoss s i).ctl = s.ctl ∧
    (State.contactLoss s i).store = s.store ∧ (State.contactLoss s i).policy = s.policy ∧
    (State.contactLoss s i).holdMask = s.holdMask ∧ (State.contactLoss s i).supply = s.supply ∧
    (State.contactLoss s i).light = s.light ∧ (State.contactLoss s i).back = s.back ∧
    (State.contactLoss s i).motion = s.motion ∧ (State.contactLoss s i).streams = s.streams ∧
    (State.contactLoss s i).choice = s.choice := by
  simp only [State.contactLoss]
  (repeat' split) <;> simp

@[simp] theorem State.takeCheck_frame (s : State) (i : BayId) :
    (State.takeCheck s i).pending = s.pending ∧ (State.takeCheck s i).lines = s.lines ∧
    (State.takeCheck s i).uptime = s.uptime ∧ (State.takeCheck s i).ctl = s.ctl ∧
    (State.takeCheck s i).store = s.store ∧ (State.takeCheck s i).link = s.link ∧
    (State.takeCheck s i).policy = s.policy ∧ (State.takeCheck s i).holdMask = s.holdMask ∧
    (State.takeCheck s i).supply = s.supply ∧ (State.takeCheck s i).light = s.light ∧
    (State.takeCheck s i).back = s.back ∧ (State.takeCheck s i).motion = s.motion ∧
    (State.takeCheck s i).streams = s.streams ∧ (State.takeCheck s i).choice = s.choice := by
  simp only [State.takeCheck]
  simp

@[simp] theorem State.readmissionTest_frame (s : State) (i : BayId) :
    (State.readmissionTest s i).pending = s.pending ∧
    (State.readmissionTest s i).lines = s.lines ∧ (State.readmissionTest s i).uptime = s.uptime ∧
    (State.readmissionTest s i).ctl = s.ctl ∧ (State.readmissionTest s i).store = s.store ∧
    (State.readmissionTest s i).link = s.link ∧ (State.readmissionTest s i).policy = s.policy ∧
    (State.readmissionTest s i).holdMask = s.holdMask ∧
    (State.readmissionTest s i).supply = s.supply ∧ (State.readmissionTest s i).light = s.light ∧
    (State.readmissionTest s i).back = s.back ∧ (State.readmissionTest s i).motion = s.motion ∧
    (State.readmissionTest s i).streams = s.streams ∧
    (State.readmissionTest s i).choice = s.choice := by
  simp only [State.readmissionTest]
  (repeat' split) <;> simp

@[simp] theorem State.identificationDone_frame (s : State) (i : BayId) :
    (State.identificationDone s i).pending = s.pending ∧
    (State.identificationDone s i).lines = s.lines ∧
    (State.identificationDone s i).uptime = s.uptime ∧
    (State.identificationDone s i).ctl = s.ctl ∧ (State.identificationDone s i).store = s.store ∧
    (State.identificationDone s i).link = s.link ∧
    (State.identificationDone s i).policy = s.policy ∧
    (State.identificationDone s i).holdMask = s.holdMask ∧
    (State.identificationDone s i).supply = s.supply ∧
    (State.identificationDone s i).light = s.light ∧
    (State.identificationDone s i).back = s.back ∧
    (State.identificationDone s i).motion = s.motion ∧
    (State.identificationDone s i).streams = s.streams ∧
    (State.identificationDone s i).choice = s.choice := by
  simp only [State.identificationDone]
  (repeat' split) <;> simp

@[simp] theorem State.tableIncomplete_frame (s : State) (i : BayId) :
    (State.tableIncomplete s i).pending = s.pending ∧
    (State.tableIncomplete s i).lines = s.lines ∧ (State.tableIncomplete s i).uptime = s.uptime ∧
    (State.tableIncomplete s i).ctl = s.ctl ∧ (State.tableIncomplete s i).store = s.store ∧
    (State.tableIncomplete s i).link = s.link ∧ (State.tableIncomplete s i).policy = s.policy ∧
    (State.tableIncomplete s i).holdMask = s.holdMask ∧
    (State.tableIncomplete s i).supply = s.supply ∧ (State.tableIncomplete s i).light = s.light ∧
    (State.tableIncomplete s i).back = s.back ∧ (State.tableIncomplete s i).motion = s.motion ∧
    (State.tableIncomplete s i).streams = s.streams ∧
    (State.tableIncomplete s i).choice = s.choice := by
  simp only [State.tableIncomplete]
  simp

@[simp] theorem State.alarmWritten_frame (s : State) (i : BayId) :
    (State.alarmWritten s i).pending = s.pending ∧ (State.alarmWritten s i).lines = s.lines ∧
    (State.alarmWritten s i).uptime = s.uptime ∧ (State.alarmWritten s i).ctl = s.ctl ∧
    (State.alarmWritten s i).store = s.store ∧ (State.alarmWritten s i).link = s.link ∧
    (State.alarmWritten s i).policy = s.policy ∧ (State.alarmWritten s i).holdMask = s.holdMask ∧
    (State.alarmWritten s i).supply = s.supply ∧ (State.alarmWritten s i).light = s.light ∧
    (State.alarmWritten s i).back = s.back ∧ (State.alarmWritten s i).motion = s.motion ∧
    (State.alarmWritten s i).streams = s.streams ∧ (State.alarmWritten s i).choice = s.choice := by
  simp only [State.alarmWritten]
  (repeat' split) <;> simp

@[simp] theorem State.takeTrip_frame (s : State) (i : BayId) :
    (State.takeTrip s i).pending = s.pending ∧ (State.takeTrip s i).lines = s.lines ∧
    (State.takeTrip s i).uptime = s.uptime ∧ (State.takeTrip s i).ctl = s.ctl ∧
    (State.takeTrip s i).store = s.store ∧ (State.takeTrip s i).policy = s.policy ∧
    (State.takeTrip s i).holdMask = s.holdMask ∧ (State.takeTrip s i).supply = s.supply ∧
    (State.takeTrip s i).light = s.light ∧ (State.takeTrip s i).back = s.back ∧
    (State.takeTrip s i).motion = s.motion ∧ (State.takeTrip s i).streams = s.streams ∧
    (State.takeTrip s i).choice = s.choice := by
  simp only [State.takeTrip]
  simp

@[simp] theorem State.tripRaised_frame (s : State) (i : BayId) :
    (State.tripRaised s i).pending = s.pending ∧ (State.tripRaised s i).lines = s.lines ∧
    (State.tripRaised s i).uptime = s.uptime ∧ (State.tripRaised s i).ctl = s.ctl ∧
    (State.tripRaised s i).store = s.store ∧ (State.tripRaised s i).policy = s.policy ∧
    (State.tripRaised s i).holdMask = s.holdMask ∧ (State.tripRaised s i).supply = s.supply ∧
    (State.tripRaised s i).light = s.light ∧ (State.tripRaised s i).back = s.back ∧
    (State.tripRaised s i).motion = s.motion ∧ (State.tripRaised s i).streams = s.streams ∧
    (State.tripRaised s i).choice = s.choice := by
  simp only [State.tripRaised]
  (repeat' split) <;> simp

@[simp] theorem State.raiseTrip_frame (s : State) (i : BayId) :
    (State.raiseTrip s i).pending = s.pending ∧ (State.raiseTrip s i).lines = s.lines ∧
    (State.raiseTrip s i).uptime = s.uptime ∧ (State.raiseTrip s i).ctl = s.ctl ∧
    (State.raiseTrip s i).store = s.store ∧ (State.raiseTrip s i).policy = s.policy ∧
    (State.raiseTrip s i).holdMask = s.holdMask ∧ (State.raiseTrip s i).supply = s.supply ∧
    (State.raiseTrip s i).light = s.light ∧ (State.raiseTrip s i).back = s.back ∧
    (State.raiseTrip s i).motion = s.motion ∧ (State.raiseTrip s i).streams = s.streams ∧
    (State.raiseTrip s i).choice = s.choice := by
  simp only [State.raiseTrip]
  (repeat' split) <;> simp

@[simp] theorem State.countFailure_frame (s : State) (i : BayId) :
    (State.countFailure s i).pending = s.pending ∧ (State.countFailure s i).lines = s.lines ∧
    (State.countFailure s i).uptime = s.uptime ∧ (State.countFailure s i).ctl = s.ctl ∧
    (State.countFailure s i).store = s.store ∧ (State.countFailure s i).policy = s.policy ∧
    (State.countFailure s i).holdMask = s.holdMask ∧ (State.countFailure s i).supply = s.supply ∧
    (State.countFailure s i).light = s.light ∧ (State.countFailure s i).back = s.back ∧
    (State.countFailure s i).motion = s.motion ∧ (State.countFailure s i).streams = s.streams ∧
    (State.countFailure s i).choice = s.choice := by
  simp only [State.countFailure]
  (repeat' split) <;> simp

@[simp] theorem State.countAck_frame (s : State) (i : BayId) :
    (State.countAck s i).pending = s.pending ∧ (State.countAck s i).lines = s.lines ∧
    (State.countAck s i).uptime = s.uptime ∧ (State.countAck s i).ctl = s.ctl ∧
    (State.countAck s i).store = s.store ∧ (State.countAck s i).link = s.link ∧
    (State.countAck s i).flags = s.flags ∧ (State.countAck s i).policy = s.policy ∧
    (State.countAck s i).holdMask = s.holdMask ∧ (State.countAck s i).supply = s.supply ∧
    (State.countAck s i).light = s.light ∧ (State.countAck s i).back = s.back ∧
    (State.countAck s i).motion = s.motion ∧ (State.countAck s i).drop = s.drop ∧
    (State.countAck s i).streams = s.streams ∧ (State.countAck s i).choice = s.choice := by
  simp only [State.countAck]
  (repeat' split) <;> simp

@[simp] theorem State.lockoutLimitWritten_frame (s : State) (i : BayId) :
    (State.lockoutLimitWritten s i).pending = s.pending ∧
    (State.lockoutLimitWritten s i).lines = s.lines ∧
    (State.lockoutLimitWritten s i).uptime = s.uptime ∧
    (State.lockoutLimitWritten s i).ctl = s.ctl ∧
    (State.lockoutLimitWritten s i).store = s.store ∧
    (State.lockoutLimitWritten s i).policy = s.policy ∧
    (State.lockoutLimitWritten s i).holdMask = s.holdMask ∧
    (State.lockoutLimitWritten s i).supply = s.supply ∧
    (State.lockoutLimitWritten s i).light = s.light ∧
    (State.lockoutLimitWritten s i).back = s.back ∧
    (State.lockoutLimitWritten s i).motion = s.motion ∧
    (State.lockoutLimitWritten s i).streams = s.streams ∧
    (State.lockoutLimitWritten s i).choice = s.choice := by
  simp only [State.lockoutLimitWritten]
  (repeat' split) <;> simp

@[simp] theorem State.endDeferral_frame (s : State) (i : BayId) :
    (State.endDeferral s i).pending = s.pending ∧ (State.endDeferral s i).lines = s.lines ∧
    (State.endDeferral s i).uptime = s.uptime ∧ (State.endDeferral s i).ctl = s.ctl ∧
    (State.endDeferral s i).store = s.store ∧ (State.endDeferral s i).policy = s.policy ∧
    (State.endDeferral s i).holdMask = s.holdMask ∧ (State.endDeferral s i).supply = s.supply ∧
    (State.endDeferral s i).light = s.light ∧ (State.endDeferral s i).back = s.back ∧
    (State.endDeferral s i).motion = s.motion ∧ (State.endDeferral s i).streams = s.streams ∧
    (State.endDeferral s i).choice = s.choice := by
  simp only [State.endDeferral]
  (repeat' split) <;> simp

@[simp] theorem State.enterStandby_frame (s : State) (cause : StopCause) :
    (State.enterStandby s cause).pending = s.pending ∧
    (State.enterStandby s cause).lines = s.lines ∧
    (State.enterStandby s cause).uptime = s.uptime ∧ (State.enterStandby s cause).ctl = s.ctl ∧
    (State.enterStandby s cause).store = s.store ∧ (State.enterStandby s cause).link = s.link ∧
    (State.enterStandby s cause).policy = s.policy ∧
    (State.enterStandby s cause).holdMask = s.holdMask ∧
    (State.enterStandby s cause).bays = s.bays ∧ (State.enterStandby s cause).light = s.light ∧
    (State.enterStandby s cause).back = s.back ∧ (State.enterStandby s cause).motion = s.motion ∧
    (State.enterStandby s cause).drop = s.drop ∧
    (State.enterStandby s cause).streams = s.streams ∧ (State.enterStandby s cause).due = s.due ∧
    (State.enterStandby s cause).choice = s.choice := by
  simp only [State.enterStandby]
  (repeat' split) <;> simp

@[simp] theorem State.enterSave_frame (s : State) :
    (State.enterSave s).pending = s.pending ∧ (State.enterSave s).lines = s.lines ∧
    (State.enterSave s).uptime = s.uptime ∧ (State.enterSave s).store = s.store ∧
    (State.enterSave s).link = s.link ∧ (State.enterSave s).policy = s.policy ∧
    (State.enterSave s).holdMask = s.holdMask ∧ (State.enterSave s).bays = s.bays ∧
    (State.enterSave s).light = s.light ∧ (State.enterSave s).back = s.back ∧
    (State.enterSave s).motion = s.motion ∧ (State.enterSave s).drop = s.drop ∧
    (State.enterSave s).streams = s.streams ∧ (State.enterSave s).due = s.due ∧
    (State.enterSave s).choice = s.choice := by
  simp only [State.enterSave]
  simp

@[simp] theorem State.supplyTransition_frame (ev : SupplyEvent) (s : State) :
    (State.supplyTransition ev s).pending = s.pending ∧
    (State.supplyTransition ev s).lines = s.lines ∧
    (State.supplyTransition ev s).uptime = s.uptime ∧
    (State.supplyTransition ev s).store = s.store ∧ (State.supplyTransition ev s).link = s.link ∧
    (State.supplyTransition ev s).policy = s.policy ∧
    (State.supplyTransition ev s).holdMask = s.holdMask ∧
    (State.supplyTransition ev s).bays = s.bays ∧ (State.supplyTransition ev s).light = s.light ∧
    (State.supplyTransition ev s).back = s.back ∧
    (State.supplyTransition ev s).motion = s.motion ∧
    (State.supplyTransition ev s).drop = s.drop ∧
    (State.supplyTransition ev s).streams = s.streams ∧
    (State.supplyTransition ev s).due = s.due ∧ (State.supplyTransition ev s).choice = s.choice := by
  simp only [State.supplyTransition]
  (repeat' split) <;> simp

@[simp] theorem State.selectDischarge_frame (s : State) :
    (State.selectDischarge s).pending = s.pending ∧ (State.selectDischarge s).lines = s.lines ∧
    (State.selectDischarge s).uptime = s.uptime ∧ (State.selectDischarge s).ctl = s.ctl ∧
    (State.selectDischarge s).store = s.store ∧ (State.selectDischarge s).link = s.link ∧
    (State.selectDischarge s).flags = s.flags ∧ (State.selectDischarge s).policy = s.policy ∧
    (State.selectDischarge s).holdMask = s.holdMask ∧
    (State.selectDischarge s).supply = s.supply ∧ (State.selectDischarge s).light = s.light ∧
    (State.selectDischarge s).back = s.back ∧ (State.selectDischarge s).motion = s.motion ∧
    (State.selectDischarge s).drop = s.drop ∧ (State.selectDischarge s).streams = s.streams ∧
    (State.selectDischarge s).due = s.due ∧ (State.selectDischarge s).choice = s.choice := by
  simp only [State.selectDischarge]
  (repeat' split) <;> simp

@[simp] theorem State.selectCharge_frame (s : State) :
    (State.selectCharge s).pending = s.pending ∧ (State.selectCharge s).lines = s.lines ∧
    (State.selectCharge s).uptime = s.uptime ∧ (State.selectCharge s).ctl = s.ctl ∧
    (State.selectCharge s).store = s.store ∧ (State.selectCharge s).link = s.link ∧
    (State.selectCharge s).flags = s.flags ∧ (State.selectCharge s).policy = s.policy ∧
    (State.selectCharge s).holdMask = s.holdMask ∧ (State.selectCharge s).supply = s.supply ∧
    (State.selectCharge s).light = s.light ∧ (State.selectCharge s).back = s.back ∧
    (State.selectCharge s).motion = s.motion ∧ (State.selectCharge s).drop = s.drop ∧
    (State.selectCharge s).streams = s.streams ∧ (State.selectCharge s).due = s.due ∧
    (State.selectCharge s).choice = s.choice := by
  simp only [State.selectCharge]
  simp

@[simp] theorem State.setLastSupply_frame (base : LockReasons → LockReasons) (s : State) :
    (State.setLastSupply base s).pending = s.pending ∧
    (State.setLastSupply base s).lines = s.lines ∧
    (State.setLastSupply base s).uptime = s.uptime ∧ (State.setLastSupply base s).ctl = s.ctl ∧
    (State.setLastSupply base s).store = s.store ∧ (State.setLastSupply base s).link = s.link ∧
    (State.setLastSupply base s).flags = s.flags ∧
    (State.setLastSupply base s).policy = s.policy ∧
    (State.setLastSupply base s).holdMask = s.holdMask ∧
    (State.setLastSupply base s).supply = s.supply ∧
    (State.setLastSupply base s).light = s.light ∧ (State.setLastSupply base s).back = s.back ∧
    (State.setLastSupply base s).motion = s.motion ∧
    (State.setLastSupply base s).streams = s.streams ∧ (State.setLastSupply base s).due = s.due ∧
    (State.setLastSupply base s).choice = s.choice := by
  simp only [State.setLastSupply]
  simp

@[simp] theorem State.allowPower_frame (s : State) :
    (State.allowPower s).pending = s.pending ∧ (State.allowPower s).lines = s.lines ∧
    (State.allowPower s).uptime = s.uptime ∧ (State.allowPower s).ctl = s.ctl ∧
    (State.allowPower s).store = s.store ∧ (State.allowPower s).link = s.link ∧
    (State.allowPower s).flags = s.flags ∧ (State.allowPower s).policy = s.policy ∧
    (State.allowPower s).holdMask = s.holdMask ∧ (State.allowPower s).bays = s.bays ∧
    (State.allowPower s).light = s.light ∧ (State.allowPower s).motion = s.motion ∧
    (State.allowPower s).drop = s.drop ∧ (State.allowPower s).streams = s.streams ∧
    (State.allowPower s).due = s.due ∧ (State.allowPower s).choice = s.choice := by
  simp only [State.allowPower]
  (repeat' split) <;> simp

@[simp] theorem State.reevaluate_frame (ev : SupplyEvent) (s : State) :
    (State.reevaluate ev s).pending = s.pending ∧ (State.reevaluate ev s).lines = s.lines ∧
    (State.reevaluate ev s).uptime = s.uptime ∧ (State.reevaluate ev s).store = s.store ∧
    (State.reevaluate ev s).link = s.link ∧ (State.reevaluate ev s).policy = s.policy ∧
    (State.reevaluate ev s).holdMask = s.holdMask ∧ (State.reevaluate ev s).light = s.light ∧
    (State.reevaluate ev s).motion = s.motion ∧ (State.reevaluate ev s).streams = s.streams ∧
    (State.reevaluate ev s).due = s.due ∧ (State.reevaluate ev s).choice = s.choice := by
  simp only [State.reevaluate]
  simp

theorem State.closeEventIn_frame (n : Nat) (s : State) :
    (State.closeEventIn n s).pending = s.pending ∧ (State.closeEventIn n s).lines = s.lines ∧
    (State.closeEventIn n s).uptime = s.uptime ∧ (State.closeEventIn n s).store = s.store ∧
    (State.closeEventIn n s).policy = s.policy ∧ (State.closeEventIn n s).holdMask = s.holdMask ∧
    (State.closeEventIn n s).light = s.light ∧ (State.closeEventIn n s).motion = s.motion ∧
    (State.closeEventIn n s).streams = s.streams ∧ (State.closeEventIn n s).choice = s.choice := by
  induction n generalizing s with
  | zero => simp [State.closeEventIn]
  | succ n ih =>
    simp only [State.closeEventIn]
    split
    · simp
    · simp [ih]

@[simp] theorem State.closeEvent_frame (s : State) :
    (State.closeEvent s).pending = s.pending ∧ (State.closeEvent s).lines = s.lines ∧
    (State.closeEvent s).uptime = s.uptime ∧ (State.closeEvent s).store = s.store ∧
    (State.closeEvent s).policy = s.policy ∧ (State.closeEvent s).holdMask = s.holdMask ∧
    (State.closeEvent s).light = s.light ∧ (State.closeEvent s).motion = s.motion ∧
    (State.closeEvent s).streams = s.streams ∧ (State.closeEvent s).choice = s.choice := by
  simp [State.closeEvent, State.closeEventIn_frame]

@[simp] theorem State.grant_frame (s : State) (i : BayId) (x : Transaction) (f : Traffic → Traffic) :
    (State.grant s i x f).pending = s.pending ∧ (State.grant s i x f).lines = s.lines ∧
    (State.grant s i x f).uptime = s.uptime ∧ (State.grant s i x f).ctl = s.ctl ∧
    (State.grant s i x f).store = s.store ∧ (State.grant s i x f).link = s.link ∧
    (State.grant s i x f).flags = s.flags ∧ (State.grant s i x f).policy = s.policy ∧
    (State.grant s i x f).holdMask = s.holdMask ∧ (State.grant s i x f).supply = s.supply ∧
    (State.grant s i x f).light = s.light ∧ (State.grant s i x f).back = s.back ∧
    (State.grant s i x f).motion = s.motion ∧ (State.grant s i x f).drop = s.drop ∧
    (State.grant s i x f).streams = s.streams ∧ (State.grant s i x f).due = s.due ∧
    (State.grant s i x f).choice = s.choice := by
  simp only [State.grant]
  simp

@[simp] theorem State.serveMaintenance_frame (s : State) (i : BayId) :
    (State.serveMaintenance s i).1.pending = s.pending ∧
    (State.serveMaintenance s i).1.lines = s.lines ∧
    (State.serveMaintenance s i).1.uptime = s.uptime ∧
    (State.serveMaintenance s i).1.ctl = s.ctl ∧ (State.serveMaintenance s i).1.store = s.store ∧
    (State.serveMaintenance s i).1.link = s.link ∧
    (State.serveMaintenance s i).1.policy = s.policy ∧
    (State.serveMaintenance s i).1.holdMask = s.holdMask ∧
    (State.serveMaintenance s i).1.supply = s.supply ∧
    (State.serveMaintenance s i).1.light = s.light ∧
    (State.serveMaintenance s i).1.back = s.back ∧
    (State.serveMaintenance s i).1.motion = s.motion ∧
    (State.serveMaintenance s i).1.streams = s.streams ∧
    (State.serveMaintenance s i).1.choice = s.choice := by
  simp only [State.serveMaintenance]
  (repeat' split) <;> simp

@[simp] theorem State.arbitrateOnce_frame (s : State) (i : BayId) :
    (State.arbitrateOnce s i).1.pending = s.pending ∧
    (State.arbitrateOnce s i).1.lines = s.lines ∧ (State.arbitrateOnce s i).1.uptime = s.uptime ∧
    (State.arbitrateOnce s i).1.ctl = s.ctl ∧ (State.arbitrateOnce s i).1.store = s.store ∧
    (State.arbitrateOnce s i).1.link = s.link ∧ (State.arbitrateOnce s i).1.policy = s.policy ∧
    (State.arbitrateOnce s i).1.holdMask = s.holdMask ∧
    (State.arbitrateOnce s i).1.supply = s.supply ∧ (State.arbitrateOnce s i).1.light = s.light ∧
    (State.arbitrateOnce s i).1.back = s.back ∧ (State.arbitrateOnce s i).1.motion = s.motion ∧
    (State.arbitrateOnce s i).1.streams = s.streams ∧
    (State.arbitrateOnce s i).1.choice = s.choice := by
  simp only [State.arbitrateOnce]
  (repeat' split) <;> simp

theorem State.arbitrateIn_frame (i : BayId) (n : Nat) (s : State) :
    (State.arbitrateIn i n s).pending = s.pending ∧ (State.arbitrateIn i n s).lines = s.lines ∧
    (State.arbitrateIn i n s).uptime = s.uptime ∧ (State.arbitrateIn i n s).ctl = s.ctl ∧
    (State.arbitrateIn i n s).store = s.store ∧ (State.arbitrateIn i n s).link = s.link ∧
    (State.arbitrateIn i n s).policy = s.policy ∧
    (State.arbitrateIn i n s).holdMask = s.holdMask ∧
    (State.arbitrateIn i n s).supply = s.supply ∧ (State.arbitrateIn i n s).light = s.light ∧
    (State.arbitrateIn i n s).back = s.back ∧ (State.arbitrateIn i n s).motion = s.motion ∧
    (State.arbitrateIn i n s).streams = s.streams ∧ (State.arbitrateIn i n s).choice = s.choice := by
  induction n generalizing s with
  | zero => simp [State.arbitrateIn]
  | succ n ih =>
    simp only [State.arbitrateIn]
    split
    · simp
    · simp [ih]

@[simp] theorem State.arbitrate_frame (s : State) (i : BayId) :
    (State.arbitrate s i).pending = s.pending ∧ (State.arbitrate s i).lines = s.lines ∧
    (State.arbitrate s i).uptime = s.uptime ∧ (State.arbitrate s i).ctl = s.ctl ∧
    (State.arbitrate s i).store = s.store ∧ (State.arbitrate s i).link = s.link ∧
    (State.arbitrate s i).policy = s.policy ∧ (State.arbitrate s i).holdMask = s.holdMask ∧
    (State.arbitrate s i).supply = s.supply ∧ (State.arbitrate s i).light = s.light ∧
    (State.arbitrate s i).back = s.back ∧ (State.arbitrate s i).motion = s.motion ∧
    (State.arbitrate s i).streams = s.streams ∧ (State.arbitrate s i).choice = s.choice := by
  simp [State.arbitrate, State.arbitrateIn_frame]

@[simp] theorem State.arbitrateBoth_frame (s : State) :
    (State.arbitrateBoth s).pending = s.pending ∧ (State.arbitrateBoth s).lines = s.lines ∧
    (State.arbitrateBoth s).uptime = s.uptime ∧ (State.arbitrateBoth s).ctl = s.ctl ∧
    (State.arbitrateBoth s).store = s.store ∧ (State.arbitrateBoth s).link = s.link ∧
    (State.arbitrateBoth s).policy = s.policy ∧ (State.arbitrateBoth s).holdMask = s.holdMask ∧
    (State.arbitrateBoth s).supply = s.supply ∧ (State.arbitrateBoth s).light = s.light ∧
    (State.arbitrateBoth s).back = s.back ∧ (State.arbitrateBoth s).motion = s.motion ∧
    (State.arbitrateBoth s).streams = s.streams ∧ (State.arbitrateBoth s).choice = s.choice := by
  simp only [State.arbitrateBoth]
  simp

@[simp] theorem State.requestReverify_frame (s : State) (i : BayId) :
    (State.requestReverify s i).pending = s.pending ∧
    (State.requestReverify s i).lines = s.lines ∧ (State.requestReverify s i).uptime = s.uptime ∧
    (State.requestReverify s i).ctl = s.ctl ∧ (State.requestReverify s i).store = s.store ∧
    (State.requestReverify s i).link = s.link ∧ (State.requestReverify s i).policy = s.policy ∧
    (State.requestReverify s i).holdMask = s.holdMask ∧
    (State.requestReverify s i).supply = s.supply ∧ (State.requestReverify s i).light = s.light ∧
    (State.requestReverify s i).back = s.back ∧ (State.requestReverify s i).motion = s.motion ∧
    (State.requestReverify s i).streams = s.streams ∧
    (State.requestReverify s i).choice = s.choice := by
  simp only [State.requestReverify]
  (repeat' split) <;> simp

@[simp] theorem State.writeRecord_frame (s : State) (i : BayId) (f : SnoopField) (v : Nat) :
    (State.writeRecord s i f v).pending = s.pending ∧
    (State.writeRecord s i f v).lines = s.lines ∧ (State.writeRecord s i f v).uptime = s.uptime ∧
    (State.writeRecord s i f v).ctl = s.ctl ∧ (State.writeRecord s i f v).store = s.store ∧
    (State.writeRecord s i f v).link = s.link ∧ (State.writeRecord s i f v).flags = s.flags ∧
    (State.writeRecord s i f v).policy = s.policy ∧
    (State.writeRecord s i f v).holdMask = s.holdMask ∧
    (State.writeRecord s i f v).supply = s.supply ∧ (State.writeRecord s i f v).light = s.light ∧
    (State.writeRecord s i f v).back = s.back ∧ (State.writeRecord s i f v).motion = s.motion ∧
    (State.writeRecord s i f v).drop = s.drop ∧ (State.writeRecord s i f v).streams = s.streams ∧
    (State.writeRecord s i f v).choice = s.choice := by
  simp only [State.writeRecord]
  (repeat' split) <;> simp

@[simp] theorem State.snoop_frame (s : State) (i : BayId) (f : SnoopField) (data : List Byte) :
    (State.snoop s i f data).pending = s.pending ∧ (State.snoop s i f data).lines = s.lines ∧
    (State.snoop s i f data).uptime = s.uptime ∧ (State.snoop s i f data).ctl = s.ctl ∧
    (State.snoop s i f data).store = s.store ∧ (State.snoop s i f data).link = s.link ∧
    (State.snoop s i f data).policy = s.policy ∧ (State.snoop s i f data).holdMask = s.holdMask ∧
    (State.snoop s i f data).supply = s.supply ∧ (State.snoop s i f data).light = s.light ∧
    (State.snoop s i f data).back = s.back ∧ (State.snoop s i f data).motion = s.motion ∧
    (State.snoop s i f data).streams = s.streams ∧ (State.snoop s i f data).choice = s.choice := by
  simp only [State.snoop]
  (repeat' split) <;> simp

@[simp] theorem State.identificationRead_frame (s : State) (i : BayId) (n : Nat) (data : List Byte) :
    (State.identificationRead s i n data).pending = s.pending ∧
    (State.identificationRead s i n data).lines = s.lines ∧
    (State.identificationRead s i n data).uptime = s.uptime ∧
    (State.identificationRead s i n data).ctl = s.ctl ∧
    (State.identificationRead s i n data).store = s.store ∧
    (State.identificationRead s i n data).link = s.link ∧
    (State.identificationRead s i n data).policy = s.policy ∧
    (State.identificationRead s i n data).holdMask = s.holdMask ∧
    (State.identificationRead s i n data).supply = s.supply ∧
    (State.identificationRead s i n data).light = s.light ∧
    (State.identificationRead s i n data).back = s.back ∧
    (State.identificationRead s i n data).motion = s.motion ∧
    (State.identificationRead s i n data).streams = s.streams ∧
    (State.identificationRead s i n data).choice = s.choice := by
  simp only [State.identificationRead]
  (repeat' split) <;> simp

@[simp] theorem State.respondHost_frame (s : State) (i : BayId) (r : HostRequest) (deliver : Bool) (o : Answer) (data : List Byte) :
    (State.respondHost s i r deliver o data).pending = s.pending ∧
    (State.respondHost s i r deliver o data).lines = s.lines ∧
    (State.respondHost s i r deliver o data).uptime = s.uptime ∧
    (State.respondHost s i r deliver o data).ctl = s.ctl ∧
    (State.respondHost s i r deliver o data).store = s.store ∧
    (State.respondHost s i r deliver o data).policy = s.policy ∧
    (State.respondHost s i r deliver o data).holdMask = s.holdMask ∧
    (State.respondHost s i r deliver o data).bays = s.bays ∧
    (State.respondHost s i r deliver o data).supply = s.supply ∧
    (State.respondHost s i r deliver o data).light = s.light ∧
    (State.respondHost s i r deliver o data).back = s.back ∧
    (State.respondHost s i r deliver o data).motion = s.motion ∧
    (State.respondHost s i r deliver o data).drop = s.drop ∧
    (State.respondHost s i r deliver o data).streams = s.streams ∧
    (State.respondHost s i r deliver o data).due = s.due ∧
    (State.respondHost s i r deliver o data).choice = s.choice := by
  simp only [State.respondHost]
  (repeat' split) <;> simp

@[simp] theorem State.endRound_frame (s : State) (i : BayId) :
    (State.endRound s i).pending = s.pending ∧ (State.endRound s i).lines = s.lines ∧
    (State.endRound s i).uptime = s.uptime ∧ (State.endRound s i).ctl = s.ctl ∧
    (State.endRound s i).store = s.store ∧ (State.endRound s i).link = s.link ∧
    (State.endRound s i).flags = s.flags ∧ (State.endRound s i).policy = s.policy ∧
    (State.endRound s i).holdMask = s.holdMask ∧ (State.endRound s i).supply = s.supply ∧
    (State.endRound s i).light = s.light ∧ (State.endRound s i).back = s.back ∧
    (State.endRound s i).motion = s.motion ∧ (State.endRound s i).drop = s.drop ∧
    (State.endRound s i).streams = s.streams ∧ (State.endRound s i).due = s.due ∧
    (State.endRound s i).choice = s.choice := by
  simp only [State.endRound]
  (repeat' split) <;> simp

@[simp] theorem State.reverifyRead_frame (s : State) (i : BayId) (dest : ReverifyDest) (data : List Byte) :
    (State.reverifyRead s i dest data).pending = s.pending ∧
    (State.reverifyRead s i dest data).lines = s.lines ∧
    (State.reverifyRead s i dest data).uptime = s.uptime ∧
    (State.reverifyRead s i dest data).ctl = s.ctl ∧
    (State.reverifyRead s i dest data).store = s.store ∧
    (State.reverifyRead s i dest data).link = s.link ∧
    (State.reverifyRead s i dest data).policy = s.policy ∧
    (State.reverifyRead s i dest data).holdMask = s.holdMask ∧
    (State.reverifyRead s i dest data).supply = s.supply ∧
    (State.reverifyRead s i dest data).light = s.light ∧
    (State.reverifyRead s i dest data).back = s.back ∧
    (State.reverifyRead s i dest data).motion = s.motion ∧
    (State.reverifyRead s i dest data).streams = s.streams ∧
    (State.reverifyRead s i dest data).choice = s.choice := by
  simp only [State.reverifyRead]
  (repeat' split) <;> simp

@[simp] theorem State.pollRead_frame (s : State) (i : BayId) (f : SnoopField) (data : List Byte) :
    (State.pollRead s i f data).pending = s.pending ∧
    (State.pollRead s i f data).lines = s.lines ∧ (State.pollRead s i f data).uptime = s.uptime ∧
    (State.pollRead s i f data).ctl = s.ctl ∧ (State.pollRead s i f data).store = s.store ∧
    (State.pollRead s i f data).link = s.link ∧ (State.pollRead s i f data).policy = s.policy ∧
    (State.pollRead s i f data).holdMask = s.holdMask ∧
    (State.pollRead s i f data).supply = s.supply ∧ (State.pollRead s i f data).light = s.light ∧
    (State.pollRead s i f data).back = s.back ∧ (State.pollRead s i f data).motion = s.motion ∧
    (State.pollRead s i f data).streams = s.streams ∧
    (State.pollRead s i f data).choice = s.choice := by
  simp only [State.pollRead]
  (repeat' split) <;> simp

@[simp] theorem State.alertRead_frame (s : State) (i : BayId) (data : List Byte) :
    (State.alertRead s i data).pending = s.pending ∧ (State.alertRead s i data).lines = s.lines ∧
    (State.alertRead s i data).uptime = s.uptime ∧ (State.alertRead s i data).ctl = s.ctl ∧
    (State.alertRead s i data).store = s.store ∧ (State.alertRead s i data).policy = s.policy ∧
    (State.alertRead s i data).holdMask = s.holdMask ∧
    (State.alertRead s i data).supply = s.supply ∧ (State.alertRead s i data).light = s.light ∧
    (State.alertRead s i data).back = s.back ∧ (State.alertRead s i data).motion = s.motion ∧
    (State.alertRead s i data).streams = s.streams ∧ (State.alertRead s i data).choice = s.choice := by
  simp only [State.alertRead]
  (repeat' split) <;> simp

@[simp] theorem State.acknowledged_frame (s : State) (i : BayId) (x : Transaction) (data : List Byte) :
    (State.acknowledged s i x data).pending = s.pending ∧
    (State.acknowledged s i x data).lines = s.lines ∧
    (State.acknowledged s i x data).uptime = s.uptime ∧
    (State.acknowledged s i x data).ctl = s.ctl ∧
    (State.acknowledged s i x data).store = s.store ∧
    (State.acknowledged s i x data).policy = s.policy ∧
    (State.acknowledged s i x data).holdMask = s.holdMask ∧
    (State.acknowledged s i x data).supply = s.supply ∧
    (State.acknowledged s i x data).light = s.light ∧
    (State.acknowledged s i x data).back = s.back ∧
    (State.acknowledged s i x data).motion = s.motion ∧
    (State.acknowledged s i x data).streams = s.streams ∧
    (State.acknowledged s i x data).choice = s.choice := by
  simp only [State.acknowledged]
  (repeat' split) <;> simp

@[simp] theorem State.failed_frame (s : State) (i : BayId) (x : Transaction) (o : Answer) :
    (State.failed s i x o).pending = s.pending ∧ (State.failed s i x o).lines = s.lines ∧
    (State.failed s i x o).uptime = s.uptime ∧ (State.failed s i x o).ctl = s.ctl ∧
    (State.failed s i x o).store = s.store ∧ (State.failed s i x o).policy = s.policy ∧
    (State.failed s i x o).holdMask = s.holdMask ∧ (State.failed s i x o).supply = s.supply ∧
    (State.failed s i x o).light = s.light ∧ (State.failed s i x o).back = s.back ∧
    (State.failed s i x o).motion = s.motion ∧ (State.failed s i x o).streams = s.streams ∧
    (State.failed s i x o).due = s.due ∧ (State.failed s i x o).choice = s.choice := by
  simp only [State.failed]
  (repeat' split) <;> simp

@[simp] theorem State.complete_frame (s : State) (i : BayId) (e : Ending) :
    (State.complete s i e).pending = s.pending ∧ (State.complete s i e).lines = s.lines ∧
    (State.complete s i e).uptime = s.uptime ∧ (State.complete s i e).ctl = s.ctl ∧
    (State.complete s i e).store = s.store ∧ (State.complete s i e).policy = s.policy ∧
    (State.complete s i e).holdMask = s.holdMask ∧ (State.complete s i e).supply = s.supply ∧
    (State.complete s i e).light = s.light ∧ (State.complete s i e).back = s.back ∧
    (State.complete s i e).motion = s.motion ∧ (State.complete s i e).streams = s.streams ∧
    (State.complete s i e).choice = s.choice := by
  simp only [State.complete]
  (repeat' split) <;> simp

@[simp] theorem State.answerFlags_frame (s : State) (sp : Space) (o : Answer) :
    (State.answerFlags s sp o).pending = s.pending ∧ (State.answerFlags s sp o).lines = s.lines ∧
    (State.answerFlags s sp o).uptime = s.uptime ∧ (State.answerFlags s sp o).ctl = s.ctl ∧
    (State.answerFlags s sp o).store = s.store ∧ (State.answerFlags s sp o).link = s.link ∧
    (State.answerFlags s sp o).policy = s.policy ∧
    (State.answerFlags s sp o).holdMask = s.holdMask ∧ (State.answerFlags s sp o).bays = s.bays ∧
    (State.answerFlags s sp o).supply = s.supply ∧ (State.answerFlags s sp o).light = s.light ∧
    (State.answerFlags s sp o).back = s.back ∧ (State.answerFlags s sp o).motion = s.motion ∧
    (State.answerFlags s sp o).drop = s.drop ∧ (State.answerFlags s sp o).streams = s.streams ∧
    (State.answerFlags s sp o).due = s.due ∧ (State.answerFlags s sp o).choice = s.choice := by
  simp only [State.answerFlags]
  (repeat' split) <;> simp

@[simp] theorem State.admitRequest_frame (s : State) (i : BayId) (k : Lookup) (r : HostRequest) :
    (State.admitRequest s i k r).pending = s.pending ∧
    (State.admitRequest s i k r).lines = s.lines ∧
    (State.admitRequest s i k r).uptime = s.uptime ∧ (State.admitRequest s i k r).ctl = s.ctl ∧
    (State.admitRequest s i k r).store = s.store ∧
    (State.admitRequest s i k r).policy = s.policy ∧
    (State.admitRequest s i k r).holdMask = s.holdMask ∧
    (State.admitRequest s i k r).supply = s.supply ∧
    (State.admitRequest s i k r).light = s.light ∧ (State.admitRequest s i k r).back = s.back ∧
    (State.admitRequest s i k r).motion = s.motion ∧
    (State.admitRequest s i k r).streams = s.streams ∧
    (State.admitRequest s i k r).choice = s.choice := by
  simp only [State.admitRequest]
  (repeat' split) <;> simp

@[simp] theorem State.packRequest_frame (s : State) (i : BayId) (tag : Byte) (offset : Half) (write : Bool) (count : Nat) (data : List Byte) :
    (State.packRequest s i tag offset write count data).pending = s.pending ∧
    (State.packRequest s i tag offset write count data).lines = s.lines ∧
    (State.packRequest s i tag offset write count data).uptime = s.uptime ∧
    (State.packRequest s i tag offset write count data).ctl = s.ctl ∧
    (State.packRequest s i tag offset write count data).store = s.store ∧
    (State.packRequest s i tag offset write count data).policy = s.policy ∧
    (State.packRequest s i tag offset write count data).holdMask = s.holdMask ∧
    (State.packRequest s i tag offset write count data).supply = s.supply ∧
    (State.packRequest s i tag offset write count data).light = s.light ∧
    (State.packRequest s i tag offset write count data).back = s.back ∧
    (State.packRequest s i tag offset write count data).motion = s.motion ∧
    (State.packRequest s i tag offset write count data).streams = s.streams ∧
    (State.packRequest s i tag offset write count data).choice = s.choice := by
  simp only [State.packRequest]
  (repeat' split) <;> simp

end Sys2Proof.Machine
end

