-- ==== Sys2Proof/Laws/MotionFrames.lean ====
section
/-!
SUPPORT. For each operation of the drop log unit, the stream unit, the motion unit and the light unit, which parts of the state it leaves as they are.
-/

namespace Sys2Proof.Machine

@[simp] theorem State.takeLock_frame (s : State) :
    (State.takeLock s).pending = s.pending ∧ (State.takeLock s).lines = s.lines ∧
    (State.takeLock s).uptime = s.uptime ∧ (State.takeLock s).ctl = s.ctl ∧
    (State.takeLock s).store = s.store ∧ (State.takeLock s).link = s.link ∧
    (State.takeLock s).flags = s.flags ∧ (State.takeLock s).policy = s.policy ∧
    (State.takeLock s).holdMask = s.holdMask ∧ (State.takeLock s).supply = s.supply ∧
    (State.takeLock s).light = s.light ∧ (State.takeLock s).back = s.back ∧
    (State.takeLock s).motion = s.motion ∧ (State.takeLock s).streams = s.streams ∧
    (State.takeLock s).due = s.due ∧ (State.takeLock s).choice = s.choice := by
  simp only [State.takeLock]
  simp

@[simp] theorem State.takeFreeze_frame (s : State) :
    (State.takeFreeze s).pending = s.pending ∧ (State.takeFreeze s).lines = s.lines ∧
    (State.takeFreeze s).uptime = s.uptime ∧ (State.takeFreeze s).ctl = s.ctl ∧
    (State.takeFreeze s).store = s.store ∧ (State.takeFreeze s).link = s.link ∧
    (State.takeFreeze s).flags = s.flags ∧ (State.takeFreeze s).policy = s.policy ∧
    (State.takeFreeze s).holdMask = s.holdMask ∧ (State.takeFreeze s).supply = s.supply ∧
    (State.takeFreeze s).light = s.light ∧ (State.takeFreeze s).back = s.back ∧
    (State.takeFreeze s).motion = s.motion ∧ (State.takeFreeze s).drop = s.drop ∧
    (State.takeFreeze s).streams = s.streams ∧ (State.takeFreeze s).due = s.due ∧
    (State.takeFreeze s).choice = s.choice := by
  simp only [State.takeFreeze]
  simp

@[simp] theorem State.takeSuspect_frame (s : State) :
    (State.takeSuspect s).pending = s.pending ∧ (State.takeSuspect s).lines = s.lines ∧
    (State.takeSuspect s).uptime = s.uptime ∧ (State.takeSuspect s).ctl = s.ctl ∧
    (State.takeSuspect s).store = s.store ∧ (State.takeSuspect s).link = s.link ∧
    (State.takeSuspect s).flags = s.flags ∧ (State.takeSuspect s).policy = s.policy ∧
    (State.takeSuspect s).holdMask = s.holdMask ∧ (State.takeSuspect s).supply = s.supply ∧
    (State.takeSuspect s).light = s.light ∧ (State.takeSuspect s).back = s.back ∧
    (State.takeSuspect s).motion = s.motion ∧ (State.takeSuspect s).drop = s.drop ∧
    (State.takeSuspect s).streams = s.streams ∧ (State.takeSuspect s).choice = s.choice := by
  simp only [State.takeSuspect]
  (repeat' split) <;> simp

@[simp] theorem State.takeTrigger_frame (s : State) (t : Trigger) :
    (State.takeTrigger s t).pending = s.pending ∧ (State.takeTrigger s t).lines = s.lines ∧
    (State.takeTrigger s t).uptime = s.uptime ∧ (State.takeTrigger s t).ctl = s.ctl ∧
    (State.takeTrigger s t).store = s.store ∧ (State.takeTrigger s t).link = s.link ∧
    (State.takeTrigger s t).flags = s.flags ∧ (State.takeTrigger s t).policy = s.policy ∧
    (State.takeTrigger s t).supply = s.supply ∧ (State.takeTrigger s t).light = s.light ∧
    (State.takeTrigger s t).back = s.back ∧ (State.takeTrigger s t).motion = s.motion ∧
    (State.takeTrigger s t).streams = s.streams ∧ (State.takeTrigger s t).choice = s.choice := by
  simp only [State.takeTrigger]
  (repeat' split) <;> simp

@[simp] theorem State.interruptedClose_frame (s : State) :
    (State.interruptedClose s).pending = s.pending ∧ (State.interruptedClose s).lines = s.lines ∧
    (State.interruptedClose s).uptime = s.uptime ∧ (State.interruptedClose s).ctl = s.ctl ∧
    (State.interruptedClose s).store = s.store ∧ (State.interruptedClose s).link = s.link ∧
    (State.interruptedClose s).flags = s.flags ∧ (State.interruptedClose s).policy = s.policy ∧
    (State.interruptedClose s).holdMask = s.holdMask ∧
    (State.interruptedClose s).supply = s.supply ∧ (State.interruptedClose s).light = s.light ∧
    (State.interruptedClose s).back = s.back ∧ (State.interruptedClose s).motion = s.motion ∧
    (State.interruptedClose s).streams = s.streams ∧ (State.interruptedClose s).due = s.due ∧
    (State.interruptedClose s).choice = s.choice := by
  simp only [State.interruptedClose]
  (repeat' split) <;> simp

@[simp] theorem State.createRecord_frame (s : State) (r : DropReport) :
    (State.createRecord s r).pending = s.pending ∧ (State.createRecord s r).lines = s.lines ∧
    (State.createRecord s r).uptime = s.uptime ∧ (State.createRecord s r).store = s.store ∧
    (State.createRecord s r).link = s.link ∧ (State.createRecord s r).policy = s.policy ∧
    (State.createRecord s r).holdMask = s.holdMask ∧ (State.createRecord s r).supply = s.supply ∧
    (State.createRecord s r).light = s.light ∧ (State.createRecord s r).back = s.back ∧
    (State.createRecord s r).motion = s.motion ∧ (State.createRecord s r).streams = s.streams ∧
    (State.createRecord s r).due = s.due ∧ (State.createRecord s r).choice = s.choice := by
  simp only [State.createRecord]
  (repeat' split) <;> simp

@[simp] theorem State.updateRecord_frame (s : State) (peak : Accel3) (sev : Severity) (multiple : Bool) :
    (State.updateRecord s peak sev multiple).pending = s.pending ∧
    (State.updateRecord s peak sev multiple).lines = s.lines ∧
    (State.updateRecord s peak sev multiple).uptime = s.uptime ∧
    (State.updateRecord s peak sev multiple).store = s.store ∧
    (State.updateRecord s peak sev multiple).link = s.link ∧
    (State.updateRecord s peak sev multiple).policy = s.policy ∧
    (State.updateRecord s peak sev multiple).holdMask = s.holdMask ∧
    (State.updateRecord s peak sev multiple).bays = s.bays ∧
    (State.updateRecord s peak sev multiple).supply = s.supply ∧
    (State.updateRecord s peak sev multiple).light = s.light ∧
    (State.updateRecord s peak sev multiple).back = s.back ∧
    (State.updateRecord s peak sev multiple).motion = s.motion ∧
    (State.updateRecord s peak sev multiple).streams = s.streams ∧
    (State.updateRecord s peak sev multiple).due = s.due ∧
    (State.updateRecord s peak sev multiple).choice = s.choice := by
  simp only [State.updateRecord]
  (repeat' split) <;> simp

@[simp] theorem State.recordEnded_frame (s : State) :
    (State.recordEnded s).pending = s.pending ∧ (State.recordEnded s).lines = s.lines ∧
    (State.recordEnded s).uptime = s.uptime ∧ (State.recordEnded s).ctl = s.ctl ∧
    (State.recordEnded s).store = s.store ∧ (State.recordEnded s).link = s.link ∧
    (State.recordEnded s).flags = s.flags ∧ (State.recordEnded s).policy = s.policy ∧
    (State.recordEnded s).holdMask = s.holdMask ∧ (State.recordEnded s).supply = s.supply ∧
    (State.recordEnded s).light = s.light ∧ (State.recordEnded s).back = s.back ∧
    (State.recordEnded s).motion = s.motion ∧ (State.recordEnded s).streams = s.streams ∧
    (State.recordEnded s).due = s.due ∧ (State.recordEnded s).choice = s.choice := by
  simp only [State.recordEnded]
  simp

@[simp] theorem State.clearLog_frame (s : State) :
    (State.clearLog s).pending = s.pending ∧ (State.clearLog s).lines = s.lines ∧
    (State.clearLog s).uptime = s.uptime ∧ (State.clearLog s).ctl = s.ctl ∧
    (State.clearLog s).store = s.store ∧ (State.clearLog s).link = s.link ∧
    (State.clearLog s).flags = s.flags ∧ (State.clearLog s).policy = s.policy ∧
    (State.clearLog s).holdMask = s.holdMask ∧ (State.clearLog s).supply = s.supply ∧
    (State.clearLog s).light = s.light ∧ (State.clearLog s).back = s.back ∧
    (State.clearLog s).motion = s.motion ∧ (State.clearLog s).streams = s.streams ∧
    (State.clearLog s).due = s.due ∧ (State.clearLog s).choice = s.choice := by
  simp only [State.clearLog]
  simp

@[simp] theorem State.guardLeavesCalm_frame (s : State) :
    (State.guardLeavesCalm s).pending = s.pending ∧ (State.guardLeavesCalm s).lines = s.lines ∧
    (State.guardLeavesCalm s).uptime = s.uptime ∧ (State.guardLeavesCalm s).ctl = s.ctl ∧
    (State.guardLeavesCalm s).store = s.store ∧ (State.guardLeavesCalm s).link = s.link ∧
    (State.guardLeavesCalm s).flags = s.flags ∧ (State.guardLeavesCalm s).policy = s.policy ∧
    (State.guardLeavesCalm s).holdMask = s.holdMask ∧
    (State.guardLeavesCalm s).supply = s.supply ∧ (State.guardLeavesCalm s).light = s.light ∧
    (State.guardLeavesCalm s).back = s.back ∧ (State.guardLeavesCalm s).motion = s.motion ∧
    (State.guardLeavesCalm s).drop = s.drop ∧ (State.guardLeavesCalm s).streams = s.streams ∧
    (State.guardLeavesCalm s).due = s.due ∧ (State.guardLeavesCalm s).choice = s.choice := by
  simp only [State.guardLeavesCalm]
  simp

@[simp] theorem State.withdrawLock_frame (s : State) :
    (State.withdrawLock s).pending = s.pending ∧ (State.withdrawLock s).lines = s.lines ∧
    (State.withdrawLock s).uptime = s.uptime ∧ (State.withdrawLock s).ctl = s.ctl ∧
    (State.withdrawLock s).store = s.store ∧ (State.withdrawLock s).link = s.link ∧
    (State.withdrawLock s).flags = s.flags ∧ (State.withdrawLock s).policy = s.policy ∧
    (State.withdrawLock s).holdMask = s.holdMask ∧ (State.withdrawLock s).supply = s.supply ∧
    (State.withdrawLock s).light = s.light ∧ (State.withdrawLock s).back = s.back ∧
    (State.withdrawLock s).motion = s.motion ∧ (State.withdrawLock s).streams = s.streams ∧
    (State.withdrawLock s).due = s.due ∧ (State.withdrawLock s).choice = s.choice := by
  simp only [State.withdrawLock]
  (repeat' split) <;> simp

@[simp] theorem State.withdrawHold_frame (s : State) :
    (State.withdrawHold s).pending = s.pending ∧ (State.withdrawHold s).lines = s.lines ∧
    (State.withdrawHold s).uptime = s.uptime ∧ (State.withdrawHold s).ctl = s.ctl ∧
    (State.withdrawHold s).store = s.store ∧ (State.withdrawHold s).link = s.link ∧
    (State.withdrawHold s).policy = s.policy ∧ (State.withdrawHold s).supply = s.supply ∧
    (State.withdrawHold s).light = s.light ∧ (State.withdrawHold s).back = s.back ∧
    (State.withdrawHold s).motion = s.motion ∧ (State.withdrawHold s).streams = s.streams ∧
    (State.withdrawHold s).choice = s.choice := by
  simp only [State.withdrawHold]
  (repeat' split) <;> simp

@[simp] theorem State.withdrawRest_frame (s : State) :
    (State.withdrawRest s).pending = s.pending ∧ (State.withdrawRest s).lines = s.lines ∧
    (State.withdrawRest s).uptime = s.uptime ∧ (State.withdrawRest s).ctl = s.ctl ∧
    (State.withdrawRest s).store = s.store ∧ (State.withdrawRest s).link = s.link ∧
    (State.withdrawRest s).policy = s.policy ∧ (State.withdrawRest s).supply = s.supply ∧
    (State.withdrawRest s).light = s.light ∧ (State.withdrawRest s).back = s.back ∧
    (State.withdrawRest s).motion = s.motion ∧ (State.withdrawRest s).streams = s.streams ∧
    (State.withdrawRest s).choice = s.choice := by
  simp only [State.withdrawRest]
  simp

@[simp] theorem State.verifyBay_frame (s : State) (i : BayId) (atSnapshot : BayState) :
    (State.verifyBay s i atSnapshot).pending = s.pending ∧
    (State.verifyBay s i atSnapshot).lines = s.lines ∧
    (State.verifyBay s i atSnapshot).uptime = s.uptime ∧
    (State.verifyBay s i atSnapshot).ctl = s.ctl ∧
    (State.verifyBay s i atSnapshot).store = s.store ∧
    (State.verifyBay s i atSnapshot).link = s.link ∧
    (State.verifyBay s i atSnapshot).policy = s.policy ∧
    (State.verifyBay s i atSnapshot).holdMask = s.holdMask ∧
    (State.verifyBay s i atSnapshot).supply = s.supply ∧
    (State.verifyBay s i atSnapshot).light = s.light ∧
    (State.verifyBay s i atSnapshot).back = s.back ∧
    (State.verifyBay s i atSnapshot).motion = s.motion ∧
    (State.verifyBay s i atSnapshot).streams = s.streams ∧
    (State.verifyBay s i atSnapshot).choice = s.choice := by
  simp only [State.verifyBay]
  (repeat' split) <;> simp

@[simp] theorem State.startReverify_frame (s : State) :
    (State.startReverify s).pending = s.pending ∧ (State.startReverify s).lines = s.lines ∧
    (State.startReverify s).uptime = s.uptime ∧ (State.startReverify s).ctl = s.ctl ∧
    (State.startReverify s).store = s.store ∧ (State.startReverify s).link = s.link ∧
    (State.startReverify s).policy = s.policy ∧ (State.startReverify s).holdMask = s.holdMask ∧
    (State.startReverify s).supply = s.supply ∧ (State.startReverify s).light = s.light ∧
    (State.startReverify s).back = s.back ∧ (State.startReverify s).motion = s.motion ∧
    (State.startReverify s).streams = s.streams ∧ (State.startReverify s).choice = s.choice := by
  simp only [State.startReverify]
  (repeat' split) <;> simp

@[simp] theorem State.dropReturn_frame (s : State) :
    (State.dropReturn s).pending = s.pending ∧ (State.dropReturn s).lines = s.lines ∧
    (State.dropReturn s).uptime = s.uptime ∧ (State.dropReturn s).ctl = s.ctl ∧
    (State.dropReturn s).store = s.store ∧ (State.dropReturn s).link = s.link ∧
    (State.dropReturn s).policy = s.policy ∧ (State.dropReturn s).supply = s.supply ∧
    (State.dropReturn s).light = s.light ∧ (State.dropReturn s).back = s.back ∧
    (State.dropReturn s).motion = s.motion ∧ (State.dropReturn s).streams = s.streams ∧
    (State.dropReturn s).choice = s.choice := by
  simp only [State.dropReturn]
  simp

@[simp] theorem State.returnFilters_frame (s : State) (i : BayId) :
    (State.returnFilters s i).pending = s.pending ∧ (State.returnFilters s i).lines = s.lines ∧
    (State.returnFilters s i).uptime = s.uptime ∧ (State.returnFilters s i).ctl = s.ctl ∧
    (State.returnFilters s i).store = s.store ∧ (State.returnFilters s i).policy = s.policy ∧
    (State.returnFilters s i).holdMask = s.holdMask ∧
    (State.returnFilters s i).supply = s.supply ∧ (State.returnFilters s i).light = s.light ∧
    (State.returnFilters s i).back = s.back ∧ (State.returnFilters s i).motion = s.motion ∧
    (State.returnFilters s i).streams = s.streams ∧ (State.returnFilters s i).choice = s.choice := by
  simp only [State.returnFilters]
  (repeat' split) <;> simp

@[simp] theorem State.returnDecision_frame (s : State) (i : BayId) :
    (State.returnDecision s i).pending = s.pending ∧ (State.returnDecision s i).lines = s.lines ∧
    (State.returnDecision s i).uptime = s.uptime ∧ (State.returnDecision s i).ctl = s.ctl ∧
    (State.returnDecision s i).store = s.store ∧ (State.returnDecision s i).link = s.link ∧
    (State.returnDecision s i).policy = s.policy ∧
    (State.returnDecision s i).holdMask = s.holdMask ∧
    (State.returnDecision s i).supply = s.supply ∧ (State.returnDecision s i).light = s.light ∧
    (State.returnDecision s i).back = s.back ∧ (State.returnDecision s i).motion = s.motion ∧
    (State.returnDecision s i).streams = s.streams ∧ (State.returnDecision s i).choice = s.choice := by
  simp only [State.returnDecision]
  (repeat' split) <;> simp

@[simp] theorem State.returnOnline_frame (s : State) (i : BayId) :
    (State.returnOnline s i).pending = s.pending ∧ (State.returnOnline s i).lines = s.lines ∧
    (State.returnOnline s i).uptime = s.uptime ∧ (State.returnOnline s i).ctl = s.ctl ∧
    (State.returnOnline s i).store = s.store ∧ (State.returnOnline s i).link = s.link ∧
    (State.returnOnline s i).policy = s.policy ∧ (State.returnOnline s i).holdMask = s.holdMask ∧
    (State.returnOnline s i).supply = s.supply ∧ (State.returnOnline s i).light = s.light ∧
    (State.returnOnline s i).back = s.back ∧ (State.returnOnline s i).motion = s.motion ∧
    (State.returnOnline s i).streams = s.streams ∧ (State.returnOnline s i).choice = s.choice := by
  simp only [State.returnOnline]
  (repeat' split) <;> simp

@[simp] theorem State.returnReadmission_frame (s : State) (i : BayId) :
    (State.returnReadmission s i).pending = s.pending ∧
    (State.returnReadmission s i).lines = s.lines ∧
    (State.returnReadmission s i).uptime = s.uptime ∧ (State.returnReadmission s i).ctl = s.ctl ∧
    (State.returnReadmission s i).store = s.store ∧ (State.returnReadmission s i).link = s.link ∧
    (State.returnReadmission s i).policy = s.policy ∧
    (State.returnReadmission s i).holdMask = s.holdMask ∧
    (State.returnReadmission s i).supply = s.supply ∧
    (State.returnReadmission s i).light = s.light ∧ (State.returnReadmission s i).back = s.back ∧
    (State.returnReadmission s i).motion = s.motion ∧
    (State.returnReadmission s i).streams = s.streams ∧
    (State.returnReadmission s i).choice = s.choice := by
  simp only [State.returnReadmission]
  (repeat' split) <;> simp

@[simp] theorem State.bayReturn_frame (s : State) (i : BayId) :
    (State.bayReturn s i).pending = s.pending ∧ (State.bayReturn s i).lines = s.lines ∧
    (State.bayReturn s i).uptime = s.uptime ∧ (State.bayReturn s i).ctl = s.ctl ∧
    (State.bayReturn s i).store = s.store ∧ (State.bayReturn s i).policy = s.policy ∧
    (State.bayReturn s i).holdMask = s.holdMask ∧ (State.bayReturn s i).supply = s.supply ∧
    (State.bayReturn s i).light = s.light ∧ (State.bayReturn s i).back = s.back ∧
    (State.bayReturn s i).motion = s.motion ∧ (State.bayReturn s i).streams = s.streams ∧
    (State.bayReturn s i).choice = s.choice := by
  simp only [State.bayReturn]
  simp

@[simp] theorem State.baysReturn_frame (s : State) :
    (State.baysReturn s).pending = s.pending ∧ (State.baysReturn s).lines = s.lines ∧
    (State.baysReturn s).uptime = s.uptime ∧ (State.baysReturn s).ctl = s.ctl ∧
    (State.baysReturn s).store = s.store ∧ (State.baysReturn s).policy = s.policy ∧
    (State.baysReturn s).holdMask = s.holdMask ∧ (State.baysReturn s).supply = s.supply ∧
    (State.baysReturn s).light = s.light ∧ (State.baysReturn s).back = s.back ∧
    (State.baysReturn s).motion = s.motion ∧ (State.baysReturn s).streams = s.streams ∧
    (State.baysReturn s).choice = s.choice := by
  simp only [State.baysReturn]
  simp

@[simp] theorem State.returnAtBlocks_frame (s : State) :
    (State.returnAtBlocks s).pending = s.pending ∧ (State.returnAtBlocks s).lines = s.lines ∧
    (State.returnAtBlocks s).uptime = s.uptime ∧ (State.returnAtBlocks s).ctl = s.ctl ∧
    (State.returnAtBlocks s).store = s.store ∧ (State.returnAtBlocks s).policy = s.policy ∧
    (State.returnAtBlocks s).supply = s.supply ∧ (State.returnAtBlocks s).light = s.light ∧
    (State.returnAtBlocks s).back = s.back ∧ (State.returnAtBlocks s).motion = s.motion ∧
    (State.returnAtBlocks s).streams = s.streams := by
  simp only [State.returnAtBlocks]
  (repeat' split) <;> simp

@[simp] theorem State.offerAccel_frame (s : State) (x y z : Int) (guard injected : Bool) :
    (State.offerAccel s x y z guard injected).pending = s.pending ∧
    (State.offerAccel s x y z guard injected).lines = s.lines ∧
    (State.offerAccel s x y z guard injected).uptime = s.uptime ∧
    (State.offerAccel s x y z guard injected).ctl = s.ctl ∧
    (State.offerAccel s x y z guard injected).store = s.store ∧
    (State.offerAccel s x y z guard injected).flags = s.flags ∧
    (State.offerAccel s x y z guard injected).policy = s.policy ∧
    (State.offerAccel s x y z guard injected).holdMask = s.holdMask ∧
    (State.offerAccel s x y z guard injected).bays = s.bays ∧
    (State.offerAccel s x y z guard injected).supply = s.supply ∧
    (State.offerAccel s x y z guard injected).light = s.light ∧
    (State.offerAccel s x y z guard injected).back = s.back ∧
    (State.offerAccel s x y z guard injected).motion = s.motion ∧
    (State.offerAccel s x y z guard injected).drop = s.drop ∧
    (State.offerAccel s x y z guard injected).due = s.due ∧
    (State.offerAccel s x y z guard injected).choice = s.choice := by
  simp only [State.offerAccel]
  (repeat' split) <;> simp

@[simp] theorem State.offerLight_frame (s : State) (ef er a : Option Nat) (lout : Nat) :
    (State.offerLight s ef er a lout).pending = s.pending ∧
    (State.offerLight s ef er a lout).lines = s.lines ∧
    (State.offerLight s ef er a lout).uptime = s.uptime ∧
    (State.offerLight s ef er a lout).ctl = s.ctl ∧
    (State.offerLight s ef er a lout).store = s.store ∧
    (State.offerLight s ef er a lout).flags = s.flags ∧
    (State.offerLight s ef er a lout).policy = s.policy ∧
    (State.offerLight s ef er a lout).holdMask = s.holdMask ∧
    (State.offerLight s ef er a lout).bays = s.bays ∧
    (State.offerLight s ef er a lout).supply = s.supply ∧
    (State.offerLight s ef er a lout).light = s.light ∧
    (State.offerLight s ef er a lout).back = s.back ∧
    (State.offerLight s ef er a lout).motion = s.motion ∧
    (State.offerLight s ef er a lout).drop = s.drop ∧
    (State.offerLight s ef er a lout).due = s.due ∧
    (State.offerLight s ef er a lout).choice = s.choice := by
  simp only [State.offerLight]
  (repeat' split) <;> simp

@[simp] theorem State.writeStream_frame (s : State) (st : StreamId) (enable : Bool) (divider : Nat) :
    (State.writeStream s st enable divider).pending = s.pending ∧
    (State.writeStream s st enable divider).lines = s.lines ∧
    (State.writeStream s st enable divider).uptime = s.uptime ∧
    (State.writeStream s st enable divider).ctl = s.ctl ∧
    (State.writeStream s st enable divider).store = s.store ∧
    (State.writeStream s st enable divider).flags = s.flags ∧
    (State.writeStream s st enable divider).policy = s.policy ∧
    (State.writeStream s st enable divider).holdMask = s.holdMask ∧
    (State.writeStream s st enable divider).bays = s.bays ∧
    (State.writeStream s st enable divider).supply = s.supply ∧
    (State.writeStream s st enable divider).light = s.light ∧
    (State.writeStream s st enable divider).back = s.back ∧
    (State.writeStream s st enable divider).motion = s.motion ∧
    (State.writeStream s st enable divider).drop = s.drop ∧
    (State.writeStream s st enable divider).due = s.due ∧
    (State.writeStream s st enable divider).choice = s.choice := by
  simp only [State.writeStream]
  (repeat' split) <;> simp

@[simp] theorem State.streamsDormant_frame (s : State) :
    (State.streamsDormant s).pending = s.pending ∧ (State.streamsDormant s).lines = s.lines ∧
    (State.streamsDormant s).uptime = s.uptime ∧ (State.streamsDormant s).ctl = s.ctl ∧
    (State.streamsDormant s).store = s.store ∧ (State.streamsDormant s).flags = s.flags ∧
    (State.streamsDormant s).policy = s.policy ∧ (State.streamsDormant s).holdMask = s.holdMask ∧
    (State.streamsDormant s).bays = s.bays ∧ (State.streamsDormant s).supply = s.supply ∧
    (State.streamsDormant s).light = s.light ∧ (State.streamsDormant s).back = s.back ∧
    (State.streamsDormant s).motion = s.motion ∧ (State.streamsDormant s).drop = s.drop ∧
    (State.streamsDormant s).due = s.due ∧ (State.streamsDormant s).choice = s.choice := by
  simp only [State.streamsDormant]
  simp

@[simp] theorem State.returnToCalm_frame (s : State) :
    (State.returnToCalm s).pending = s.pending ∧ (State.returnToCalm s).lines = s.lines ∧
    (State.returnToCalm s).uptime = s.uptime ∧ (State.returnToCalm s).ctl = s.ctl ∧
    (State.returnToCalm s).store = s.store ∧ (State.returnToCalm s).policy = s.policy ∧
    (State.returnToCalm s).supply = s.supply ∧ (State.returnToCalm s).light = s.light ∧
    (State.returnToCalm s).back = s.back ∧ (State.returnToCalm s).streams = s.streams := by
  simp only [State.returnToCalm]
  simp

@[simp] theorem State.afterWindow_frame (s : State) (lost : Bool) :
    (State.afterWindow s lost).pending = s.pending ∧ (State.afterWindow s lost).lines = s.lines ∧
    (State.afterWindow s lost).uptime = s.uptime ∧ (State.afterWindow s lost).ctl = s.ctl ∧
    (State.afterWindow s lost).store = s.store ∧ (State.afterWindow s lost).policy = s.policy ∧
    (State.afterWindow s lost).supply = s.supply ∧ (State.afterWindow s lost).light = s.light ∧
    (State.afterWindow s lost).back = s.back ∧ (State.afterWindow s lost).streams = s.streams := by
  simp only [State.afterWindow]
  (repeat' split) <;> simp

@[simp] theorem State.firstWindowEnd_frame (s : State) (lost : Bool) (kind : ImpactKind) (peak : Accel3) :
    (State.firstWindowEnd s lost kind peak).pending = s.pending ∧
    (State.firstWindowEnd s lost kind peak).lines = s.lines ∧
    (State.firstWindowEnd s lost kind peak).uptime = s.uptime ∧
    (State.firstWindowEnd s lost kind peak).store = s.store ∧
    (State.firstWindowEnd s lost kind peak).policy = s.policy ∧
    (State.firstWindowEnd s lost kind peak).supply = s.supply ∧
    (State.firstWindowEnd s lost kind peak).light = s.light ∧
    (State.firstWindowEnd s lost kind peak).back = s.back ∧
    (State.firstWindowEnd s lost kind peak).streams = s.streams := by
  simp only [State.firstWindowEnd]
  (repeat' split) <;> simp

@[simp] theorem State.laterWindowEnd_frame (s : State) (lost : Bool) (kind : ImpactKind)
    (was : Severity) (old peak : Accel3) :
    (State.laterWindowEnd s lost kind was old peak).pending = s.pending ∧
    (State.laterWindowEnd s lost kind was old peak).lines = s.lines ∧
    (State.laterWindowEnd s lost kind was old peak).uptime = s.uptime ∧
    (State.laterWindowEnd s lost kind was old peak).store = s.store ∧
    (State.laterWindowEnd s lost kind was old peak).policy = s.policy ∧
    (State.laterWindowEnd s lost kind was old peak).supply = s.supply ∧
    (State.laterWindowEnd s lost kind was old peak).light = s.light ∧
    (State.laterWindowEnd s lost kind was old peak).back = s.back ∧
    (State.laterWindowEnd s lost kind was old peak).streams = s.streams := by
  simp only [State.laterWindowEnd]
  (repeat' split) <;> simp

@[simp] theorem State.windowEnd_frame (s : State) (lost : Bool) :
    (State.windowEnd s lost).pending = s.pending ∧ (State.windowEnd s lost).lines = s.lines ∧
    (State.windowEnd s lost).uptime = s.uptime ∧ (State.windowEnd s lost).store = s.store ∧
    (State.windowEnd s lost).policy = s.policy ∧ (State.windowEnd s lost).supply = s.supply ∧
    (State.windowEnd s lost).light = s.light ∧ (State.windowEnd s lost).back = s.back ∧
    (State.windowEnd s lost).streams = s.streams := by
  simp only [State.windowEnd]
  (repeat' split) <;> simp

@[simp] theorem State.reportFall_frame (s : State) (kind : RecordKind) (samples : Nat) :
    (State.reportFall s kind samples).pending = s.pending ∧
    (State.reportFall s kind samples).lines = s.lines ∧
    (State.reportFall s kind samples).uptime = s.uptime ∧
    (State.reportFall s kind samples).store = s.store ∧
    (State.reportFall s kind samples).link = s.link ∧
    (State.reportFall s kind samples).policy = s.policy ∧
    (State.reportFall s kind samples).holdMask = s.holdMask ∧
    (State.reportFall s kind samples).supply = s.supply ∧
    (State.reportFall s kind samples).light = s.light ∧
    (State.reportFall s kind samples).back = s.back ∧
    (State.reportFall s kind samples).motion = s.motion ∧
    (State.reportFall s kind samples).streams = s.streams ∧
    (State.reportFall s kind samples).due = s.due ∧
    (State.reportFall s kind samples).choice = s.choice := by
  simp only [State.reportFall]
  simp

@[simp] theorem State.caught_frame (s : State) (samples : Nat) :
    (State.caught s samples).pending = s.pending ∧ (State.caught s samples).lines = s.lines ∧
    (State.caught s samples).uptime = s.uptime ∧ (State.caught s samples).store = s.store ∧
    (State.caught s samples).policy = s.policy ∧ (State.caught s samples).supply = s.supply ∧
    (State.caught s samples).light = s.light ∧ (State.caught s samples).back = s.back ∧
    (State.caught s samples).streams = s.streams := by
  simp only [State.caught]
  (repeat' split) <;> simp

@[simp] theorem State.calmSample_frame (s : State) (a : Accel3) :
    (State.calmSample s a).pending = s.pending ∧ (State.calmSample s a).lines = s.lines ∧
    (State.calmSample s a).uptime = s.uptime ∧ (State.calmSample s a).ctl = s.ctl ∧
    (State.calmSample s a).store = s.store ∧ (State.calmSample s a).link = s.link ∧
    (State.calmSample s a).flags = s.flags ∧ (State.calmSample s a).policy = s.policy ∧
    (State.calmSample s a).supply = s.supply ∧ (State.calmSample s a).light = s.light ∧
    (State.calmSample s a).back = s.back ∧ (State.calmSample s a).streams = s.streams ∧
    (State.calmSample s a).choice = s.choice := by
  simp only [State.calmSample]
  (repeat' split) <;> simp

@[simp] theorem State.fallingSample_frame (s : State) (a : Accel3) :
    (State.fallingSample s a).pending = s.pending ∧ (State.fallingSample s a).lines = s.lines ∧
    (State.fallingSample s a).uptime = s.uptime ∧ (State.fallingSample s a).store = s.store ∧
    (State.fallingSample s a).policy = s.policy ∧ (State.fallingSample s a).supply = s.supply ∧
    (State.fallingSample s a).light = s.light ∧ (State.fallingSample s a).back = s.back ∧
    (State.fallingSample s a).streams = s.streams := by
  simp only [State.fallingSample]
  (repeat' split) <;> simp

@[simp] theorem State.impactSample_frame (s : State) (a : Accel3) :
    (State.impactSample s a).pending = s.pending ∧ (State.impactSample s a).lines = s.lines ∧
    (State.impactSample s a).uptime = s.uptime ∧ (State.impactSample s a).store = s.store ∧
    (State.impactSample s a).policy = s.policy ∧ (State.impactSample s a).supply = s.supply ∧
    (State.impactSample s a).light = s.light ∧ (State.impactSample s a).back = s.back ∧
    (State.impactSample s a).streams = s.streams := by
  simp only [State.impactSample]
  (repeat' split) <;> simp

@[simp] theorem State.settlingSample_frame (s : State) (a : Accel3) :
    (State.settlingSample s a).pending = s.pending ∧ (State.settlingSample s a).lines = s.lines ∧
    (State.settlingSample s a).uptime = s.uptime ∧ (State.settlingSample s a).ctl = s.ctl ∧
    (State.settlingSample s a).store = s.store ∧ (State.settlingSample s a).policy = s.policy ∧
    (State.settlingSample s a).supply = s.supply ∧ (State.settlingSample s a).light = s.light ∧
    (State.settlingSample s a).back = s.back ∧ (State.settlingSample s a).streams = s.streams := by
  simp only [State.settlingSample]
  (repeat' split) <;> simp

@[simp] theorem State.guardSample_frame (s : State) (a : Accel3) :
    (State.guardSample s a).pending = s.pending ∧ (State.guardSample s a).lines = s.lines ∧
    (State.guardSample s a).uptime = s.uptime ∧ (State.guardSample s a).store = s.store ∧
    (State.guardSample s a).policy = s.policy ∧ (State.guardSample s a).supply = s.supply ∧
    (State.guardSample s a).light = s.light ∧ (State.guardSample s a).back = s.back ∧
    (State.guardSample s a).streams = s.streams := by
  simp only [State.guardSample]
  (repeat' split) <;> simp

@[simp] theorem State.acceptAccel_frame (s : State) (x y z : Int) (injected : Bool) :
    (State.acceptAccel s x y z injected).pending = s.pending ∧
    (State.acceptAccel s x y z injected).lines = s.lines ∧
    (State.acceptAccel s x y z injected).uptime = s.uptime ∧
    (State.acceptAccel s x y z injected).store = s.store ∧
    (State.acceptAccel s x y z injected).policy = s.policy ∧
    (State.acceptAccel s x y z injected).supply = s.supply ∧
    (State.acceptAccel s x y z injected).light = s.light ∧
    (State.acceptAccel s x y z injected).back = s.back := by
  simp only [State.acceptAccel]
  simp

@[simp] theorem State.accelArrival_frame (s : State) (x y z : Int) :
    (State.accelArrival s x y z).pending = s.pending ∧
    (State.accelArrival s x y z).lines = s.lines ∧
    (State.accelArrival s x y z).uptime = s.uptime ∧
    (State.accelArrival s x y z).store = s.store ∧
    (State.accelArrival s x y z).policy = s.policy ∧
    (State.accelArrival s x y z).supply = s.supply ∧
    (State.accelArrival s x y z).light = s.light ∧ (State.accelArrival s x y z).back = s.back := by
  simp only [State.accelArrival]
  (repeat' split) <;> simp

@[simp] theorem State.accelInjected_frame (s : State) (x y z : Int) :
    (State.accelInjected s x y z).pending = s.pending ∧
    (State.accelInjected s x y z).lines = s.lines ∧
    (State.accelInjected s x y z).uptime = s.uptime ∧
    (State.accelInjected s x y z).store = s.store ∧
    (State.accelInjected s x y z).policy = s.policy ∧
    (State.accelInjected s x y z).supply = s.supply ∧
    (State.accelInjected s x y z).light = s.light ∧ (State.accelInjected s x y z).back = s.back := by
  simp only [State.accelInjected]
  simp

@[simp] theorem State.guardLoss_frame (s : State) :
    (State.guardLoss s).pending = s.pending ∧ (State.guardLoss s).lines = s.lines ∧
    (State.guardLoss s).uptime = s.uptime ∧ (State.guardLoss s).store = s.store ∧
    (State.guardLoss s).policy = s.policy ∧ (State.guardLoss s).supply = s.supply ∧
    (State.guardLoss s).light = s.light ∧ (State.guardLoss s).back = s.back ∧
    (State.guardLoss s).streams = s.streams := by
  simp only [State.guardLoss]
  (repeat' split) <;> simp

@[simp] theorem State.accelStale_frame (s : State) :
    (State.accelStale s).pending = s.pending ∧ (State.accelStale s).lines = s.lines ∧
    (State.accelStale s).uptime = s.uptime ∧ (State.accelStale s).store = s.store ∧
    (State.accelStale s).policy = s.policy ∧ (State.accelStale s).supply = s.supply ∧
    (State.accelStale s).light = s.light ∧ (State.accelStale s).back = s.back ∧
    (State.accelStale s).streams = s.streams := by
  simp only [State.accelStale]
  simp

@[simp] theorem State.accelReplacementEnds_frame (s : State) :
    (State.accelReplacementEnds s).pending = s.pending ∧
    (State.accelReplacementEnds s).lines = s.lines ∧
    (State.accelReplacementEnds s).uptime = s.uptime ∧
    (State.accelReplacementEnds s).ctl = s.ctl ∧ (State.accelReplacementEnds s).store = s.store ∧
    (State.accelReplacementEnds s).link = s.link ∧
    (State.accelReplacementEnds s).flags = s.flags ∧
    (State.accelReplacementEnds s).policy = s.policy ∧
    (State.accelReplacementEnds s).holdMask = s.holdMask ∧
    (State.accelReplacementEnds s).bays = s.bays ∧
    (State.accelReplacementEnds s).supply = s.supply ∧
    (State.accelReplacementEnds s).light = s.light ∧
    (State.accelReplacementEnds s).back = s.back ∧ (State.accelReplacementEnds s).drop = s.drop ∧
    (State.accelReplacementEnds s).streams = s.streams ∧
    (State.accelReplacementEnds s).due = s.due ∧ (State.accelReplacementEnds s).choice = s.choice := by
  simp only [State.accelReplacementEnds]
  simp

@[simp] theorem State.conversionFails_frame (s : State) (i : SensorId) :
    (State.conversionFails s i).pending = s.pending ∧
    (State.conversionFails s i).lines = s.lines ∧ (State.conversionFails s i).uptime = s.uptime ∧
    (State.conversionFails s i).ctl = s.ctl ∧ (State.conversionFails s i).store = s.store ∧
    (State.conversionFails s i).link = s.link ∧ (State.conversionFails s i).policy = s.policy ∧
    (State.conversionFails s i).holdMask = s.holdMask ∧
    (State.conversionFails s i).bays = s.bays ∧ (State.conversionFails s i).supply = s.supply ∧
    (State.conversionFails s i).back = s.back ∧ (State.conversionFails s i).motion = s.motion ∧
    (State.conversionFails s i).drop = s.drop ∧ (State.conversionFails s i).streams = s.streams ∧
    (State.conversionFails s i).due = s.due ∧ (State.conversionFails s i).choice = s.choice := by
  simp only [State.conversionFails]
  (repeat' split) <;> simp

@[simp] theorem State.brightnessTick_frame (s : State) :
    (State.brightnessTick s).pending = s.pending ∧ (State.brightnessTick s).lines = s.lines ∧
    (State.brightnessTick s).uptime = s.uptime ∧ (State.brightnessTick s).ctl = s.ctl ∧
    (State.brightnessTick s).store = s.store ∧ (State.brightnessTick s).policy = s.policy ∧
    (State.brightnessTick s).holdMask = s.holdMask ∧ (State.brightnessTick s).bays = s.bays ∧
    (State.brightnessTick s).supply = s.supply ∧ (State.brightnessTick s).light = s.light ∧
    (State.brightnessTick s).motion = s.motion ∧ (State.brightnessTick s).drop = s.drop ∧
    (State.brightnessTick s).due = s.due ∧ (State.brightnessTick s).choice = s.choice := by
  simp only [State.brightnessTick]
  (repeat' split) <;> simp

end Sys2Proof.Machine
end

