-- ==== Sys2Proof/Laws/LinkFrames.lean ====
section
/-!
SUPPORT. For each operation of the mode controller, the spaces, the resets, the trunk link and the lines, which parts of the state it leaves as they are.
-/

namespace Sys2Proof.Machine

@[simp] theorem State.lightMode_frame (s : State) :
    (State.lightMode s).pending = s.pending ∧ (State.lightMode s).lines = s.lines ∧
    (State.lightMode s).uptime = s.uptime ∧ (State.lightMode s).ctl = s.ctl ∧
    (State.lightMode s).store = s.store ∧ (State.lightMode s).link = s.link ∧
    (State.lightMode s).flags = s.flags ∧ (State.lightMode s).policy = s.policy ∧
    (State.lightMode s).holdMask = s.holdMask ∧ (State.lightMode s).bays = s.bays ∧
    (State.lightMode s).supply = s.supply ∧ (State.lightMode s).back = s.back ∧
    (State.lightMode s).motion = s.motion ∧ (State.lightMode s).drop = s.drop ∧
    (State.lightMode s).streams = s.streams ∧ (State.lightMode s).due = s.due ∧
    (State.lightMode s).choice = s.choice := by
  simp only [State.lightMode]
  simp

@[simp] theorem State.backMode_frame (s : State) (old new : PartMode) :
    (State.backMode s old new).pending = s.pending ∧ (State.backMode s old new).lines = s.lines ∧
    (State.backMode s old new).uptime = s.uptime ∧ (State.backMode s old new).ctl = s.ctl ∧
    (State.backMode s old new).store = s.store ∧ (State.backMode s old new).link = s.link ∧
    (State.backMode s old new).flags = s.flags ∧ (State.backMode s old new).policy = s.policy ∧
    (State.backMode s old new).holdMask = s.holdMask ∧ (State.backMode s old new).bays = s.bays ∧
    (State.backMode s old new).supply = s.supply ∧ (State.backMode s old new).light = s.light ∧
    (State.backMode s old new).motion = s.motion ∧ (State.backMode s old new).drop = s.drop ∧
    (State.backMode s old new).streams = s.streams ∧ (State.backMode s old new).due = s.due ∧
    (State.backMode s old new).choice = s.choice := by
  simp only [State.backMode]
  (repeat' split) <;> simp

@[simp] theorem State.setMode_frame (s : State) (m : PartMode) :
    (State.setMode s m).pending = s.pending ∧ (State.setMode s m).lines = s.lines ∧
    (State.setMode s m).uptime = s.uptime ∧ (State.setMode s m).store = s.store ∧
    (State.setMode s m).flags = s.flags ∧ (State.setMode s m).policy = s.policy ∧
    (State.setMode s m).holdMask = s.holdMask ∧ (State.setMode s m).supply = s.supply ∧
    (State.setMode s m).drop = s.drop ∧ (State.setMode s m).due = s.due ∧
    (State.setMode s m).choice = s.choice := by
  simp only [State.setMode]
  (repeat' split) <;> simp

@[simp] theorem State.wakeByTraffic_frame (s : State) :
    (State.wakeByTraffic s).pending = s.pending ∧ (State.wakeByTraffic s).lines = s.lines ∧
    (State.wakeByTraffic s).uptime = s.uptime ∧ (State.wakeByTraffic s).store = s.store ∧
    (State.wakeByTraffic s).policy = s.policy ∧ (State.wakeByTraffic s).holdMask = s.holdMask ∧
    (State.wakeByTraffic s).supply = s.supply ∧ (State.wakeByTraffic s).drop = s.drop ∧
    (State.wakeByTraffic s).due = s.due ∧ (State.wakeByTraffic s).choice = s.choice := by
  simp only [State.wakeByTraffic]
  (repeat' split) <;> simp

@[simp] theorem State.setStimulus_frame (s : State) (u : Streams) :
    (State.setStimulus s u).pending = s.pending ∧ (State.setStimulus s u).lines = s.lines ∧
    (State.setStimulus s u).uptime = s.uptime ∧ (State.setStimulus s u).ctl = s.ctl ∧
    (State.setStimulus s u).store = s.store ∧ (State.setStimulus s u).link = s.link ∧
    (State.setStimulus s u).flags = s.flags ∧ (State.setStimulus s u).policy = s.policy ∧
    (State.setStimulus s u).holdMask = s.holdMask ∧ (State.setStimulus s u).supply = s.supply ∧
    (State.setStimulus s u).due = s.due ∧ (State.setStimulus s u).choice = s.choice := by
  simp only [State.setStimulus]
  (repeat' split) <;> simp

@[simp] theorem State.writeStimulus_frame (s : State) (on : Bool) (sources : BitVec 3) (drives : Bool) :
    (State.writeStimulus s on sources drives).pending = s.pending ∧
    (State.writeStimulus s on sources drives).lines = s.lines ∧
    (State.writeStimulus s on sources drives).uptime = s.uptime ∧
    (State.writeStimulus s on sources drives).ctl = s.ctl ∧
    (State.writeStimulus s on sources drives).store = s.store ∧
    (State.writeStimulus s on sources drives).link = s.link ∧
    (State.writeStimulus s on sources drives).flags = s.flags ∧
    (State.writeStimulus s on sources drives).policy = s.policy ∧
    (State.writeStimulus s on sources drives).holdMask = s.holdMask ∧
    (State.writeStimulus s on sources drives).supply = s.supply ∧
    (State.writeStimulus s on sources drives).due = s.due ∧
    (State.writeStimulus s on sources drives).choice = s.choice := by
  simp only [State.writeStimulus]
  simp

@[simp] theorem State.writeEnable_frame (s : State) (i : SensorId) (on : Bool) :
    (State.writeEnable s i on).pending = s.pending ∧ (State.writeEnable s i on).lines = s.lines ∧
    (State.writeEnable s i on).uptime = s.uptime ∧ (State.writeEnable s i on).ctl = s.ctl ∧
    (State.writeEnable s i on).store = s.store ∧ (State.writeEnable s i on).link = s.link ∧
    (State.writeEnable s i on).flags = s.flags ∧ (State.writeEnable s i on).policy = s.policy ∧
    (State.writeEnable s i on).holdMask = s.holdMask ∧ (State.writeEnable s i on).bays = s.bays ∧
    (State.writeEnable s i on).supply = s.supply ∧ (State.writeEnable s i on).back = s.back ∧
    (State.writeEnable s i on).motion = s.motion ∧ (State.writeEnable s i on).drop = s.drop ∧
    (State.writeEnable s i on).streams = s.streams ∧ (State.writeEnable s i on).due = s.due ∧
    (State.writeEnable s i on).choice = s.choice := by
  simp only [State.writeEnable]
  simp

@[simp] theorem State.writeSupply_frame (s : State) (f : Supply → Supply) :
    (State.writeSupply s f).pending = s.pending ∧ (State.writeSupply s f).lines = s.lines ∧
    (State.writeSupply s f).uptime = s.uptime ∧ (State.writeSupply s f).ctl = s.ctl ∧
    (State.writeSupply s f).store = s.store ∧ (State.writeSupply s f).link = s.link ∧
    (State.writeSupply s f).flags = s.flags ∧ (State.writeSupply s f).policy = s.policy ∧
    (State.writeSupply s f).holdMask = s.holdMask ∧ (State.writeSupply s f).bays = s.bays ∧
    (State.writeSupply s f).light = s.light ∧ (State.writeSupply s f).back = s.back ∧
    (State.writeSupply s f).motion = s.motion ∧ (State.writeSupply s f).drop = s.drop ∧
    (State.writeSupply s f).streams = s.streams ∧ (State.writeSupply s f).choice = s.choice := by
  simp only [State.writeSupply]
  simp

@[simp] theorem Setting.put_frame (bs : List Byte) (s : State) (x0 : Setting) :
    (Setting.put bs s x0).pending = s.pending ∧ (Setting.put bs s x0).lines = s.lines ∧
    (Setting.put bs s x0).uptime = s.uptime ∧ (Setting.put bs s x0).store = s.store ∧
    (Setting.put bs s x0).holdMask = s.holdMask ∧ (Setting.put bs s x0).choice = s.choice := by
  cases x0 <;> simp only [Setting.put] <;> (repeat' split) <;> simp

@[simp] theorem State.panelWritten_frame (s : State) (lMaxWritten : Bool) :
    (State.panelWritten s lMaxWritten).pending = s.pending ∧
    (State.panelWritten s lMaxWritten).lines = s.lines ∧
    (State.panelWritten s lMaxWritten).uptime = s.uptime ∧
    (State.panelWritten s lMaxWritten).store = s.store ∧
    (State.panelWritten s lMaxWritten).policy = s.policy ∧
    (State.panelWritten s lMaxWritten).holdMask = s.holdMask ∧
    (State.panelWritten s lMaxWritten).light = s.light ∧
    (State.panelWritten s lMaxWritten).motion = s.motion ∧
    (State.panelWritten s lMaxWritten).streams = s.streams := by
  simp only [State.panelWritten]
  (repeat' split) <;> simp

@[simp] theorem State.afterPuts_frame (s : State) (xs : List Setting) :
    (State.afterPuts s xs).pending = s.pending ∧ (State.afterPuts s xs).lines = s.lines ∧
    (State.afterPuts s xs).uptime = s.uptime ∧ (State.afterPuts s xs).store = s.store ∧
    (State.afterPuts s xs).policy = s.policy ∧ (State.afterPuts s xs).holdMask = s.holdMask ∧
    (State.afterPuts s xs).light = s.light ∧ (State.afterPuts s xs).motion = s.motion ∧
    (State.afterPuts s xs).streams = s.streams := by
  simp only [State.afterPuts]
  (repeat' split) <;> simp

@[simp] theorem State.clearRead_frame (s : State) (sp : Space) (off n : Nat) :
    (State.clearRead s sp off n).pending = s.pending ∧
    (State.clearRead s sp off n).lines = s.lines ∧
    (State.clearRead s sp off n).uptime = s.uptime ∧ (State.clearRead s sp off n).ctl = s.ctl ∧
    (State.clearRead s sp off n).store = s.store ∧ (State.clearRead s sp off n).link = s.link ∧
    (State.clearRead s sp off n).policy = s.policy ∧
    (State.clearRead s sp off n).holdMask = s.holdMask ∧
    (State.clearRead s sp off n).bays = s.bays ∧ (State.clearRead s sp off n).supply = s.supply ∧
    (State.clearRead s sp off n).light = s.light ∧ (State.clearRead s sp off n).back = s.back ∧
    (State.clearRead s sp off n).motion = s.motion ∧ (State.clearRead s sp off n).drop = s.drop ∧
    (State.clearRead s sp off n).streams = s.streams ∧ (State.clearRead s sp off n).due = s.due ∧
    (State.clearRead s sp off n).choice = s.choice := by
  simp only [State.clearRead]
  (repeat' split) <;> simp

@[simp] theorem State.putAll_frame (xs : List (Setting × List Byte)) (s : State) :
    (State.putAll xs s).pending = s.pending ∧ (State.putAll xs s).lines = s.lines ∧
    (State.putAll xs s).uptime = s.uptime ∧ (State.putAll xs s).store = s.store ∧
    (State.putAll xs s).holdMask = s.holdMask ∧ (State.putAll xs s).choice = s.choice := by
  induction xs generalizing s with
  | nil => simp [State.putAll]
  | cons x xs ih => simp [State.putAll, ih]

@[simp] theorem State.takeFields_frame (s : State) (sp : Space) (clears : Half)
    (xs : List (Setting × List Byte)) :
    (State.takeFields s sp clears xs).1.pending = s.pending ∧ (State.takeFields s sp clears xs).1.lines = s.lines ∧
    (State.takeFields s sp clears xs).1.uptime = s.uptime ∧ (State.takeFields s sp clears xs).1.store = s.store ∧
    (State.takeFields s sp clears xs).1.holdMask = s.holdMask := by
  simp only [State.takeFields]
  (repeat' split) <;> simp

@[simp] theorem State.senseContact_frame (s : State) (i : BayId) :
    (State.senseContact s i).pending = s.pending ∧ (State.senseContact s i).lines = s.lines ∧
    (State.senseContact s i).uptime = s.uptime ∧ (State.senseContact s i).store = s.store ∧
    (State.senseContact s i).link = s.link ∧ (State.senseContact s i).policy = s.policy ∧
    (State.senseContact s i).holdMask = s.holdMask ∧ (State.senseContact s i).supply = s.supply ∧
    (State.senseContact s i).light = s.light ∧ (State.senseContact s i).back = s.back ∧
    (State.senseContact s i).motion = s.motion ∧ (State.senseContact s i).streams = s.streams ∧
    (State.senseContact s i).choice = s.choice := by
  simp only [State.senseContact]
  (repeat' split) <;> simp

@[simp] theorem State.senseAdapter_frame (s : State) :
    (State.senseAdapter s).pending = s.pending ∧ (State.senseAdapter s).lines = s.lines ∧
    (State.senseAdapter s).uptime = s.uptime ∧ (State.senseAdapter s).ctl = s.ctl ∧
    (State.senseAdapter s).store = s.store ∧ (State.senseAdapter s).link = s.link ∧
    (State.senseAdapter s).flags = s.flags ∧ (State.senseAdapter s).policy = s.policy ∧
    (State.senseAdapter s).holdMask = s.holdMask ∧ (State.senseAdapter s).bays = s.bays ∧
    (State.senseAdapter s).light = s.light ∧ (State.senseAdapter s).back = s.back ∧
    (State.senseAdapter s).motion = s.motion ∧ (State.senseAdapter s).drop = s.drop ∧
    (State.senseAdapter s).streams = s.streams ∧ (State.senseAdapter s).due = s.due ∧
    (State.senseAdapter s).choice = s.choice := by
  simp only [State.senseAdapter]
  (repeat' split) <;> simp

@[simp] theorem State.powerOn_frame (s : State) :
    (State.powerOn s).pending = s.pending ∧ (State.powerOn s).lines = s.lines ∧
    (State.powerOn s).store = s.store := by
  simp only [State.powerOn]
  simp [State.atPowerOn]

@[simp] theorem State.fullResetBlocks_frame (s : State) :
    (State.fullResetBlocks s).pending = s.pending ∧ (State.fullResetBlocks s).lines = s.lines ∧
    (State.fullResetBlocks s).uptime = s.uptime ∧ (State.fullResetBlocks s).store = s.store ∧
    (State.fullResetBlocks s).choice = s.choice := by
  simp only [State.fullResetBlocks]
  simp

@[simp] theorem State.fullResetSupply_frame (s : State) :
    (State.fullResetSupply s).pending = s.pending ∧ (State.fullResetSupply s).lines = s.lines ∧
    (State.fullResetSupply s).uptime = s.uptime ∧ (State.fullResetSupply s).store = s.store ∧
    (State.fullResetSupply s).link = s.link ∧ (State.fullResetSupply s).policy = s.policy ∧
    (State.fullResetSupply s).holdMask = s.holdMask ∧ (State.fullResetSupply s).light = s.light ∧
    (State.fullResetSupply s).motion = s.motion ∧ (State.fullResetSupply s).streams = s.streams ∧
    (State.fullResetSupply s).due = s.due ∧ (State.fullResetSupply s).choice = s.choice := by
  simp only [State.fullResetSupply]
  simp

@[simp] theorem State.leftReleasing_frame (s : State) (i : BayId) (before : BayState) :
    (State.leftReleasing s i before).pending = s.pending ∧
    (State.leftReleasing s i before).lines = s.lines ∧
    (State.leftReleasing s i before).uptime = s.uptime ∧
    (State.leftReleasing s i before).ctl = s.ctl ∧
    (State.leftReleasing s i before).store = s.store ∧
    (State.leftReleasing s i before).link = s.link ∧
    (State.leftReleasing s i before).flags = s.flags ∧
    (State.leftReleasing s i before).policy = s.policy ∧
    (State.leftReleasing s i before).holdMask = s.holdMask ∧
    (State.leftReleasing s i before).supply = s.supply ∧
    (State.leftReleasing s i before).light = s.light ∧
    (State.leftReleasing s i before).back = s.back ∧
    (State.leftReleasing s i before).motion = s.motion ∧
    (State.leftReleasing s i before).streams = s.streams ∧
    (State.leftReleasing s i before).due = s.due ∧
    (State.leftReleasing s i before).choice = s.choice := by
  simp only [State.leftReleasing]
  (repeat' split) <;> simp

@[simp] theorem State.fullReset_frame (s : State) :
    (State.fullReset s).pending = s.pending ∧ (State.fullReset s).lines = s.lines ∧
    (State.fullReset s).uptime = s.uptime ∧ (State.fullReset s).store = s.store ∧
    (State.fullReset s).choice = s.choice := by
  simp only [State.fullReset]
  simp

@[simp] theorem State.controlReset_frame (s : State) :
    (State.controlReset s).pending = s.pending ∧ (State.controlReset s).lines = s.lines ∧
    (State.controlReset s).uptime = s.uptime ∧ (State.controlReset s).ctl = s.ctl ∧
    (State.controlReset s).store = s.store ∧ (State.controlReset s).flags = s.flags ∧
    (State.controlReset s).policy = s.policy ∧ (State.controlReset s).holdMask = s.holdMask ∧
    (State.controlReset s).supply = s.supply ∧ (State.controlReset s).due = s.due ∧
    (State.controlReset s).choice = s.choice := by
  simp only [State.controlReset]
  simp

@[simp] theorem done_frame (s : State) :
    (done s).1.pending = s.pending ∧ (done s).1.lines = s.lines ∧ (done s).1.uptime = s.uptime ∧
    (done s).1.ctl = s.ctl ∧ (done s).1.store = s.store ∧ (done s).1.link = s.link ∧
    (done s).1.flags = s.flags ∧ (done s).1.policy = s.policy ∧ (done s).1.holdMask = s.holdMask ∧
    (done s).1.bays = s.bays ∧ (done s).1.supply = s.supply ∧ (done s).1.light = s.light ∧
    (done s).1.back = s.back ∧ (done s).1.motion = s.motion ∧ (done s).1.drop = s.drop ∧
    (done s).1.streams = s.streams ∧ (done s).1.due = s.due ∧ (done s).1.choice = s.choice := by
  simp only [done]
  simp

@[simp] theorem State.readmit_frame (s : State) (i : BayId) :
    (State.readmit s i).1.pending = s.pending ∧ (State.readmit s i).1.lines = s.lines ∧
    (State.readmit s i).1.uptime = s.uptime ∧ (State.readmit s i).1.ctl = s.ctl ∧
    (State.readmit s i).1.store = s.store ∧ (State.readmit s i).1.link = s.link ∧
    (State.readmit s i).1.policy = s.policy ∧ (State.readmit s i).1.holdMask = s.holdMask ∧
    (State.readmit s i).1.supply = s.supply ∧ (State.readmit s i).1.light = s.light ∧
    (State.readmit s i).1.back = s.back ∧ (State.readmit s i).1.motion = s.motion ∧
    (State.readmit s i).1.streams = s.streams ∧ (State.readmit s i).1.choice = s.choice := by
  simp only [State.readmit]
  (repeat' split) <;> simp

@[simp] theorem State.clearInhibit_frame (s : State) (i : BayId) :
    (State.clearInhibit s i).1.pending = s.pending ∧ (State.clearInhibit s i).1.lines = s.lines ∧
    (State.clearInhibit s i).1.uptime = s.uptime ∧ (State.clearInhibit s i).1.ctl = s.ctl ∧
    (State.clearInhibit s i).1.store = s.store ∧ (State.clearInhibit s i).1.link = s.link ∧
    (State.clearInhibit s i).1.policy = s.policy ∧
    (State.clearInhibit s i).1.holdMask = s.holdMask ∧
    (State.clearInhibit s i).1.supply = s.supply ∧ (State.clearInhibit s i).1.light = s.light ∧
    (State.clearInhibit s i).1.back = s.back ∧ (State.clearInhibit s i).1.motion = s.motion ∧
    (State.clearInhibit s i).1.streams = s.streams ∧ (State.clearInhibit s i).1.choice = s.choice := by
  simp only [State.clearInhibit]
  (repeat' split) <;> simp

@[simp] theorem State.clearSuspect_frame (s : State) (i : BayId) :
    (State.clearSuspect s i).1.pending = s.pending ∧ (State.clearSuspect s i).1.lines = s.lines ∧
    (State.clearSuspect s i).1.uptime = s.uptime ∧ (State.clearSuspect s i).1.ctl = s.ctl ∧
    (State.clearSuspect s i).1.store = s.store ∧ (State.clearSuspect s i).1.link = s.link ∧
    (State.clearSuspect s i).1.flags = s.flags ∧ (State.clearSuspect s i).1.policy = s.policy ∧
    (State.clearSuspect s i).1.holdMask = s.holdMask ∧
    (State.clearSuspect s i).1.supply = s.supply ∧ (State.clearSuspect s i).1.light = s.light ∧
    (State.clearSuspect s i).1.back = s.back ∧ (State.clearSuspect s i).1.motion = s.motion ∧
    (State.clearSuspect s i).1.drop = s.drop ∧ (State.clearSuspect s i).1.streams = s.streams ∧
    (State.clearSuspect s i).1.choice = s.choice := by
  simp only [State.clearSuspect]
  (repeat' split) <;> simp

@[simp] theorem State.hostLock_frame (s : State) (i : BayId) (held : Bool) :
    (State.hostLock s i held).1.pending = s.pending ∧
    (State.hostLock s i held).1.lines = s.lines ∧ (State.hostLock s i held).1.uptime = s.uptime ∧
    (State.hostLock s i held).1.ctl = s.ctl ∧ (State.hostLock s i held).1.store = s.store ∧
    (State.hostLock s i held).1.link = s.link ∧ (State.hostLock s i held).1.flags = s.flags ∧
    (State.hostLock s i held).1.policy = s.policy ∧
    (State.hostLock s i held).1.holdMask = s.holdMask ∧
    (State.hostLock s i held).1.supply = s.supply ∧ (State.hostLock s i held).1.light = s.light ∧
    (State.hostLock s i held).1.back = s.back ∧ (State.hostLock s i held).1.motion = s.motion ∧
    (State.hostLock s i held).1.streams = s.streams ∧ (State.hostLock s i held).1.due = s.due ∧
    (State.hostLock s i held).1.choice = s.choice := by
  simp only [State.hostLock]
  simp

@[simp] theorem State.backlightOn_frame (s : State) :
    (State.backlightOn s).1.pending = s.pending ∧ (State.backlightOn s).1.lines = s.lines ∧
    (State.backlightOn s).1.uptime = s.uptime ∧ (State.backlightOn s).1.ctl = s.ctl ∧
    (State.backlightOn s).1.store = s.store ∧ (State.backlightOn s).1.link = s.link ∧
    (State.backlightOn s).1.flags = s.flags ∧ (State.backlightOn s).1.policy = s.policy ∧
    (State.backlightOn s).1.holdMask = s.holdMask ∧ (State.backlightOn s).1.bays = s.bays ∧
    (State.backlightOn s).1.supply = s.supply ∧ (State.backlightOn s).1.light = s.light ∧
    (State.backlightOn s).1.motion = s.motion ∧ (State.backlightOn s).1.drop = s.drop ∧
    (State.backlightOn s).1.streams = s.streams ∧ (State.backlightOn s).1.due = s.due ∧
    (State.backlightOn s).1.choice = s.choice := by
  simp only [State.backlightOn]
  simp

@[simp] theorem State.backlightOff_frame (s : State) :
    (State.backlightOff s).1.pending = s.pending ∧ (State.backlightOff s).1.lines = s.lines ∧
    (State.backlightOff s).1.uptime = s.uptime ∧ (State.backlightOff s).1.ctl = s.ctl ∧
    (State.backlightOff s).1.store = s.store ∧ (State.backlightOff s).1.link = s.link ∧
    (State.backlightOff s).1.flags = s.flags ∧ (State.backlightOff s).1.policy = s.policy ∧
    (State.backlightOff s).1.holdMask = s.holdMask ∧ (State.backlightOff s).1.bays = s.bays ∧
    (State.backlightOff s).1.supply = s.supply ∧ (State.backlightOff s).1.light = s.light ∧
    (State.backlightOff s).1.motion = s.motion ∧ (State.backlightOff s).1.drop = s.drop ∧
    (State.backlightOff s).1.streams = s.streams ∧ (State.backlightOff s).1.due = s.due ∧
    (State.backlightOff s).1.choice = s.choice := by
  simp only [State.backlightOff]
  (repeat' split) <;> simp

@[simp] theorem State.applyCurve_frame (s : State) :
    (State.applyCurve s).1.pending = s.pending ∧ (State.applyCurve s).1.lines = s.lines ∧
    (State.applyCurve s).1.uptime = s.uptime ∧ (State.applyCurve s).1.ctl = s.ctl ∧
    (State.applyCurve s).1.store = s.store ∧ (State.applyCurve s).1.link = s.link ∧
    (State.applyCurve s).1.flags = s.flags ∧ (State.applyCurve s).1.policy = s.policy ∧
    (State.applyCurve s).1.holdMask = s.holdMask ∧ (State.applyCurve s).1.bays = s.bays ∧
    (State.applyCurve s).1.supply = s.supply ∧ (State.applyCurve s).1.light = s.light ∧
    (State.applyCurve s).1.motion = s.motion ∧ (State.applyCurve s).1.drop = s.drop ∧
    (State.applyCurve s).1.streams = s.streams ∧ (State.applyCurve s).1.due = s.due ∧
    (State.applyCurve s).1.choice = s.choice := by
  simp only [State.applyCurve]
  (repeat' split) <;> simp

@[simp] theorem State.act_frame (s : State) (i : BayId) (x0 : Action) :
    (State.act s i x0).1.pending = s.pending ∧ (State.act s i x0).1.lines = s.lines ∧
    (State.act s i x0).1.uptime = s.uptime ∧ (State.act s i x0).1.store = s.store ∧
    (State.act s i x0).1.policy = s.policy ∧ (State.act s i x0).1.holdMask = s.holdMask ∧
    (State.act s i x0).1.supply = s.supply ∧ (State.act s i x0).1.light = s.light ∧
    (State.act s i x0).1.motion = s.motion ∧ (State.act s i x0).1.streams = s.streams ∧
    (State.act s i x0).1.choice = s.choice := by
  cases x0 <;> simp only [State.act] <;> simp

@[simp] theorem State.writeAction_frame (s : State) (sp : Space) (data : List Byte) :
    (State.writeAction s sp data).1.pending = s.pending ∧
    (State.writeAction s sp data).1.lines = s.lines ∧
    (State.writeAction s sp data).1.uptime = s.uptime ∧
    (State.writeAction s sp data).1.store = s.store ∧
    (State.writeAction s sp data).1.policy = s.policy ∧
    (State.writeAction s sp data).1.holdMask = s.holdMask ∧
    (State.writeAction s sp data).1.supply = s.supply ∧
    (State.writeAction s sp data).1.light = s.light ∧
    (State.writeAction s sp data).1.motion = s.motion ∧
    (State.writeAction s sp data).1.streams = s.streams ∧
    (State.writeAction s sp data).1.choice = s.choice := by
  simp only [State.writeAction]
  (repeat' split) <;> simp

@[simp] theorem State.answer_frame (s : State) (sp : Space) (p : Packet) (o : Answer) (data : List Byte) :
    (State.answer s sp p o data).pending = s.pending ∧
    (State.answer s sp p o data).lines = s.lines ∧
    (State.answer s sp p o data).uptime = s.uptime ∧ (State.answer s sp p o data).ctl = s.ctl ∧
    (State.answer s sp p o data).store = s.store ∧
    (State.answer s sp p o data).policy = s.policy ∧
    (State.answer s sp p o data).holdMask = s.holdMask ∧
    (State.answer s sp p o data).bays = s.bays ∧ (State.answer s sp p o data).supply = s.supply ∧
    (State.answer s sp p o data).light = s.light ∧ (State.answer s sp p o data).back = s.back ∧
    (State.answer s sp p o data).motion = s.motion ∧ (State.answer s sp p o data).drop = s.drop ∧
    (State.answer s sp p o data).streams = s.streams ∧ (State.answer s sp p o data).due = s.due ∧
    (State.answer s sp p o data).choice = s.choice := by
  simp only [State.answer]
  simp

@[simp] theorem conclude_frame (sp : Space) (p : Packet) (r : State × Answer) :
    (conclude sp p r).pending = r.1.pending ∧ (conclude sp p r).lines = r.1.lines ∧
    (conclude sp p r).uptime = r.1.uptime ∧ (conclude sp p r).store = r.1.store ∧
    (conclude sp p r).policy = r.1.policy ∧ (conclude sp p r).holdMask = r.1.holdMask ∧
    (conclude sp p r).light = r.1.light ∧ (conclude sp p r).motion = r.1.motion ∧
    (conclude sp p r).streams = r.1.streams ∧ (conclude sp p r).choice = r.1.choice := by
  simp only [conclude]
  simp

@[simp] theorem State.readSpace_frame (s : State) (sp : Space) (p : Packet) (count : Nat) :
    (State.readSpace s sp p count).pending = s.pending ∧
    (State.readSpace s sp p count).lines = s.lines ∧
    (State.readSpace s sp p count).uptime = s.uptime ∧
    (State.readSpace s sp p count).ctl = s.ctl ∧ (State.readSpace s sp p count).store = s.store ∧
    (State.readSpace s sp p count).policy = s.policy ∧
    (State.readSpace s sp p count).holdMask = s.holdMask ∧
    (State.readSpace s sp p count).bays = s.bays ∧
    (State.readSpace s sp p count).supply = s.supply ∧
    (State.readSpace s sp p count).light = s.light ∧
    (State.readSpace s sp p count).back = s.back ∧
    (State.readSpace s sp p count).motion = s.motion ∧
    (State.readSpace s sp p count).drop = s.drop ∧
    (State.readSpace s sp p count).streams = s.streams ∧
    (State.readSpace s sp p count).due = s.due ∧ (State.readSpace s sp p count).choice = s.choice := by
  simp only [State.readSpace]
  (repeat' split) <;> simp

@[simp] theorem State.refuseWrite_frame (s : State) (sp : Space) (p : Packet) :
    (State.refuseWrite s sp p).pending = s.pending ∧ (State.refuseWrite s sp p).lines = s.lines ∧
    (State.refuseWrite s sp p).uptime = s.uptime ∧ (State.refuseWrite s sp p).ctl = s.ctl ∧
    (State.refuseWrite s sp p).store = s.store ∧ (State.refuseWrite s sp p).policy = s.policy ∧
    (State.refuseWrite s sp p).holdMask = s.holdMask ∧ (State.refuseWrite s sp p).bays = s.bays ∧
    (State.refuseWrite s sp p).supply = s.supply ∧ (State.refuseWrite s sp p).light = s.light ∧
    (State.refuseWrite s sp p).back = s.back ∧ (State.refuseWrite s sp p).motion = s.motion ∧
    (State.refuseWrite s sp p).drop = s.drop ∧ (State.refuseWrite s sp p).streams = s.streams ∧
    (State.refuseWrite s sp p).due = s.due ∧ (State.refuseWrite s sp p).choice = s.choice := by
  simp only [State.refuseWrite]
  simp

@[simp] theorem State.writeSpace_frame (s : State) (sp : Space) (p : Packet) (data : List Byte) :
    (State.writeSpace s sp p data).pending = s.pending ∧
    (State.writeSpace s sp p data).lines = s.lines ∧
    (State.writeSpace s sp p data).uptime = s.uptime ∧
    (State.writeSpace s sp p data).store = s.store ∧
    (State.writeSpace s sp p data).holdMask = s.holdMask := by
  simp only [State.writeSpace]
  (repeat' split) <;> simp

@[simp] theorem State.modeRequest_frame (s : State) (p : Packet) :
    (State.modeRequest s p).pending = s.pending ∧ (State.modeRequest s p).lines = s.lines ∧
    (State.modeRequest s p).uptime = s.uptime ∧ (State.modeRequest s p).store = s.store ∧
    (State.modeRequest s p).policy = s.policy ∧ (State.modeRequest s p).holdMask = s.holdMask ∧
    (State.modeRequest s p).choice = s.choice := by
  simp only [State.modeRequest]
  (repeat' split) <;> simp

@[simp] theorem State.resetRequest_frame (s : State) (p : Packet) :
    (State.resetRequest s p).pending = s.pending ∧ (State.resetRequest s p).lines = s.lines ∧
    (State.resetRequest s p).uptime = s.uptime ∧ (State.resetRequest s p).store = s.store ∧
    (State.resetRequest s p).choice = s.choice := by
  simp only [State.resetRequest]
  (repeat' split) <;> simp

@[simp] theorem State.injectRequest_frame (s : State) (p : Packet) :
    (State.injectRequest s p).pending = s.pending ∧ (State.injectRequest s p).lines = s.lines ∧
    (State.injectRequest s p).uptime = s.uptime ∧ (State.injectRequest s p).ctl = s.ctl ∧
    (State.injectRequest s p).store = s.store ∧ (State.injectRequest s p).policy = s.policy ∧
    (State.injectRequest s p).holdMask = s.holdMask ∧ (State.injectRequest s p).bays = s.bays ∧
    (State.injectRequest s p).supply = s.supply ∧ (State.injectRequest s p).light = s.light ∧
    (State.injectRequest s p).back = s.back ∧ (State.injectRequest s p).motion = s.motion ∧
    (State.injectRequest s p).drop = s.drop ∧ (State.injectRequest s p).streams = s.streams ∧
    (State.injectRequest s p).due = s.due ∧ (State.injectRequest s p).choice = s.choice := by
  simp only [State.injectRequest]
  (repeat' split) <;> simp

@[simp] theorem State.readRequest_frame (s : State) (p : Packet) (count : Nat) :
    (State.readRequest s p count).pending = s.pending ∧
    (State.readRequest s p count).lines = s.lines ∧
    (State.readRequest s p count).uptime = s.uptime ∧
    (State.readRequest s p count).store = s.store ∧
    (State.readRequest s p count).policy = s.policy ∧
    (State.readRequest s p count).holdMask = s.holdMask ∧
    (State.readRequest s p count).light = s.light ∧
    (State.readRequest s p count).motion = s.motion ∧
    (State.readRequest s p count).streams = s.streams ∧
    (State.readRequest s p count).choice = s.choice := by
  simp only [State.readRequest]
  (repeat' split) <;> simp

@[simp] theorem State.writeRequest_frame (s : State) (p : Packet) (data : List Byte) :
    (State.writeRequest s p data).pending = s.pending ∧
    (State.writeRequest s p data).lines = s.lines ∧
    (State.writeRequest s p data).uptime = s.uptime ∧
    (State.writeRequest s p data).store = s.store ∧
    (State.writeRequest s p data).holdMask = s.holdMask := by
  simp only [State.writeRequest]
  (repeat' split) <;> simp

@[simp] theorem State.dispatch_frame (s : State) (p : Packet) :
    (State.dispatch s p).pending = s.pending ∧ (State.dispatch s p).lines = s.lines ∧
    (State.dispatch s p).uptime = s.uptime ∧ (State.dispatch s p).store = s.store := by
  simp only [State.dispatch]
  (repeat' split) <;> simp

@[simp] theorem State.handlePacket_frame (s : State) (p : Packet) :
    (State.handlePacket s p).pending = s.pending ∧ (State.handlePacket s p).lines = s.lines ∧
    (State.handlePacket s p).uptime = s.uptime ∧ (State.handlePacket s p).store = s.store := by
  simp only [State.handlePacket]
  (repeat' split) <;> simp

@[simp] theorem State.handOn_frame (s : State) (p : Packet) :
    (State.handOn s p).pending = s.pending ∧ (State.handOn s p).lines = s.lines ∧
    (State.handOn s p).uptime = s.uptime ∧ (State.handOn s p).store = s.store := by
  simp only [State.handOn]
  (repeat' split) <;> simp

@[simp] theorem State.drain_frame (n : Nat) (s : State) :
    (State.drain n s).pending = s.pending ∧ (State.drain n s).lines = s.lines ∧
    (State.drain n s).uptime = s.uptime ∧ (State.drain n s).store = s.store := by
  induction n generalizing s with
  | zero => simp [State.drain]
  | succ n ih =>
    simp only [State.drain]
    (repeat' split) <;> simp [ih]

@[simp] theorem State.takeSample_frame (s : State) (x0 : InjectedSample) :
    (State.takeSample s x0).pending = s.pending ∧ (State.takeSample s x0).lines = s.lines ∧
    (State.takeSample s x0).uptime = s.uptime ∧ (State.takeSample s x0).store = s.store ∧
    (State.takeSample s x0).policy = s.policy ∧ (State.takeSample s x0).supply = s.supply ∧
    (State.takeSample s x0).back = s.back := by
  cases x0 <;> simp only [State.takeSample] <;> simp

@[simp] theorem State.finishInject_frame (s : State) (w : InjectWork) :
    (State.finishInject s w).pending = s.pending ∧ (State.finishInject s w).lines = s.lines ∧
    (State.finishInject s w).uptime = s.uptime ∧ (State.finishInject s w).store = s.store := by
  simp only [State.finishInject]
  simp

@[simp] theorem State.injectedSample_frame (s : State) :
    (State.injectedSample s).pending = s.pending ∧ (State.injectedSample s).lines = s.lines ∧
    (State.injectedSample s).uptime = s.uptime ∧ (State.injectedSample s).store = s.store := by
  simp only [State.injectedSample]
  (repeat' split) <;> simp

@[simp] theorem State.discardFrame_frame (s : State) :
    (State.discardFrame s).pending = s.pending ∧ (State.discardFrame s).lines = s.lines ∧
    (State.discardFrame s).uptime = s.uptime ∧ (State.discardFrame s).ctl = s.ctl ∧
    (State.discardFrame s).store = s.store ∧ (State.discardFrame s).policy = s.policy ∧
    (State.discardFrame s).holdMask = s.holdMask ∧ (State.discardFrame s).bays = s.bays ∧
    (State.discardFrame s).supply = s.supply ∧ (State.discardFrame s).light = s.light ∧
    (State.discardFrame s).back = s.back ∧ (State.discardFrame s).motion = s.motion ∧
    (State.discardFrame s).drop = s.drop ∧ (State.discardFrame s).streams = s.streams ∧
    (State.discardFrame s).due = s.due ∧ (State.discardFrame s).choice = s.choice := by
  simp only [State.discardFrame]
  simp

@[simp] theorem State.receiveByte_frame (s : State) (b : RxByte) :
    (State.receiveByte s b).pending = s.pending ∧ (State.receiveByte s b).lines = s.lines ∧
    (State.receiveByte s b).uptime = s.uptime ∧ (State.receiveByte s b).store = s.store := by
  simp only [State.receiveByte]
  (repeat' split) <;> simp

@[simp] theorem State.receivePacket_frame (s : State) (p : Packet) :
    (State.receivePacket s p).pending = s.pending ∧ (State.receivePacket s p).lines = s.lines ∧
    (State.receivePacket s p).uptime = s.uptime ∧ (State.receivePacket s p).store = s.store := by
  simp only [State.receivePacket]
  (repeat' split) <;> simp

@[simp] theorem State.tick_frame (s : State) :
    (State.tick s).pending = s.pending ∧ (State.tick s).lines = s.lines ∧
    (State.tick s).ctl = s.ctl ∧ (State.tick s).store = s.store ∧ (State.tick s).flags = s.flags ∧
    (State.tick s).policy = s.policy ∧ (State.tick s).holdMask = s.holdMask ∧
    (State.tick s).drop = s.drop ∧ (State.tick s).streams = s.streams ∧
    (State.tick s).due = s.due ∧ (State.tick s).choice = s.choice := by
  simp only [State.tick]
  simp

@[simp] theorem State.setContactLine_frame (s : State) (i : BayId) (level : Bool) :
    (State.setContactLine s i level).pending = s.pending ∧
    (State.setContactLine s i level).uptime = s.uptime ∧
    (State.setContactLine s i level).ctl = s.ctl ∧
    (State.setContactLine s i level).store = s.store ∧
    (State.setContactLine s i level).link = s.link ∧
    (State.setContactLine s i level).flags = s.flags ∧
    (State.setContactLine s i level).policy = s.policy ∧
    (State.setContactLine s i level).holdMask = s.holdMask ∧
    (State.setContactLine s i level).bays = s.bays ∧
    (State.setContactLine s i level).supply = s.supply ∧
    (State.setContactLine s i level).light = s.light ∧
    (State.setContactLine s i level).back = s.back ∧
    (State.setContactLine s i level).motion = s.motion ∧
    (State.setContactLine s i level).drop = s.drop ∧
    (State.setContactLine s i level).streams = s.streams ∧
    (State.setContactLine s i level).due = s.due ∧
    (State.setContactLine s i level).choice = s.choice := by
  simp only [State.setContactLine]
  simp

@[simp] theorem State.intentClosing_frame (s : State) (i : BayId) :
    (State.intentClosing s i).pending = s.pending ∧ (State.intentClosing s i).lines = s.lines ∧
    (State.intentClosing s i).uptime = s.uptime ∧ (State.intentClosing s i).ctl = s.ctl ∧
    (State.intentClosing s i).store = s.store ∧ (State.intentClosing s i).link = s.link ∧
    (State.intentClosing s i).policy = s.policy ∧
    (State.intentClosing s i).holdMask = s.holdMask ∧
    (State.intentClosing s i).supply = s.supply ∧ (State.intentClosing s i).light = s.light ∧
    (State.intentClosing s i).back = s.back ∧ (State.intentClosing s i).motion = s.motion ∧
    (State.intentClosing s i).streams = s.streams ∧ (State.intentClosing s i).choice = s.choice := by
  simp only [State.intentClosing]
  (repeat' split) <;> simp

@[simp] theorem State.returnFromRelease_frame (s : State) (i : BayId) :
    (State.returnFromRelease s i).pending = s.pending ∧
    (State.returnFromRelease s i).lines = s.lines ∧
    (State.returnFromRelease s i).uptime = s.uptime ∧ (State.returnFromRelease s i).ctl = s.ctl ∧
    (State.returnFromRelease s i).store = s.store ∧ (State.returnFromRelease s i).link = s.link ∧
    (State.returnFromRelease s i).policy = s.policy ∧
    (State.returnFromRelease s i).holdMask = s.holdMask ∧
    (State.returnFromRelease s i).supply = s.supply ∧
    (State.returnFromRelease s i).light = s.light ∧ (State.returnFromRelease s i).back = s.back ∧
    (State.returnFromRelease s i).motion = s.motion ∧
    (State.returnFromRelease s i).streams = s.streams ∧
    (State.returnFromRelease s i).choice = s.choice := by
  simp only [State.returnFromRelease]
  (repeat' split) <;> simp

@[simp] theorem State.intentReopening_frame (s : State) (i : BayId) :
    (State.intentReopening s i).pending = s.pending ∧
    (State.intentReopening s i).lines = s.lines ∧ (State.intentReopening s i).uptime = s.uptime ∧
    (State.intentReopening s i).ctl = s.ctl ∧ (State.intentReopening s i).store = s.store ∧
    (State.intentReopening s i).link = s.link ∧ (State.intentReopening s i).policy = s.policy ∧
    (State.intentReopening s i).holdMask = s.holdMask ∧
    (State.intentReopening s i).supply = s.supply ∧ (State.intentReopening s i).light = s.light ∧
    (State.intentReopening s i).back = s.back ∧ (State.intentReopening s i).motion = s.motion ∧
    (State.intentReopening s i).streams = s.streams ∧
    (State.intentReopening s i).choice = s.choice := by
  simp only [State.intentReopening]
  (repeat' split) <;> simp

@[simp] theorem State.setConfirmLine_frame (s : State) (i : BayId) (level : Bool) :
    (State.setConfirmLine s i level).pending = s.pending ∧
    (State.setConfirmLine s i level).uptime = s.uptime ∧
    (State.setConfirmLine s i level).ctl = s.ctl ∧
    (State.setConfirmLine s i level).store = s.store ∧
    (State.setConfirmLine s i level).link = s.link ∧
    (State.setConfirmLine s i level).flags = s.flags ∧
    (State.setConfirmLine s i level).policy = s.policy ∧
    (State.setConfirmLine s i level).holdMask = s.holdMask ∧
    (State.setConfirmLine s i level).bays = s.bays ∧
    (State.setConfirmLine s i level).supply = s.supply ∧
    (State.setConfirmLine s i level).light = s.light ∧
    (State.setConfirmLine s i level).back = s.back ∧
    (State.setConfirmLine s i level).motion = s.motion ∧
    (State.setConfirmLine s i level).drop = s.drop ∧
    (State.setConfirmLine s i level).streams = s.streams ∧
    (State.setConfirmLine s i level).due = s.due ∧
    (State.setConfirmLine s i level).choice = s.choice := by
  simp only [State.setConfirmLine]
  simp

@[simp] theorem State.adapterChanged_frame (s : State) (a : Option (Fin 4)) :
    (State.adapterChanged s a).pending = s.pending ∧ (State.adapterChanged s a).lines = s.lines ∧
    (State.adapterChanged s a).uptime = s.uptime ∧ (State.adapterChanged s a).store = s.store ∧
    (State.adapterChanged s a).policy = s.policy ∧
    (State.adapterChanged s a).holdMask = s.holdMask ∧
    (State.adapterChanged s a).light = s.light ∧ (State.adapterChanged s a).motion = s.motion ∧
    (State.adapterChanged s a).streams = s.streams ∧ (State.adapterChanged s a).choice = s.choice := by
  simp only [State.adapterChanged]
  simp

end Sys2Proof.Machine
end

