-- ==== Sys2Proof/Laws/Bay.lean ====
section
/-!
SUPPORT. Which parts of a bay its own operations leave, and what its pairs of bays satisfy.
-/

namespace Sys2Proof.Machine

@[simp] theorem Bay.engage_frame (c : Bool) (y : Bay) :
    (Bay.engage c y).state = y.state ∧ (Bay.engage c y).tripDeferred = y.tripDeferred ∧
    (Bay.engage c y).decisionDeferred = y.decisionDeferred ∧
    (Bay.engage c y).returnPending = y.returnPending ∧ (Bay.engage c y).contact = y.contact ∧
    (Bay.engage c y).loss = y.loss ∧ (Bay.engage c y).intent = y.intent ∧
    (Bay.engage c y).intentFilter = y.intentFilter ∧ (Bay.engage c y).timer = y.timer ∧
    (Bay.engage c y).record = y.record ∧ (Bay.engage c y).solenoidPin = y.solenoidPin ∧
    (Bay.engage c y).reasons = y.reasons ∧ (Bay.engage c y).role = y.role ∧
    (Bay.engage c y).charging = y.charging ∧ (Bay.engage c y).traffic = y.traffic := by
  simp only [Bay.engage]
  (repeat' split) <;> simp

@[simp] theorem Bay.disengage_frame (c : Bool) (y : Bay) :
    (Bay.disengage c y).state = y.state ∧ (Bay.disengage c y).tripDeferred = y.tripDeferred ∧
    (Bay.disengage c y).decisionDeferred = y.decisionDeferred ∧
    (Bay.disengage c y).returnPending = y.returnPending ∧
    (Bay.disengage c y).contact = y.contact ∧ (Bay.disengage c y).loss = y.loss ∧
    (Bay.disengage c y).intent = y.intent ∧ (Bay.disengage c y).intentFilter = y.intentFilter ∧
    (Bay.disengage c y).timer = y.timer ∧ (Bay.disengage c y).record = y.record ∧
    (Bay.disengage c y).solenoidPin = y.solenoidPin ∧ (Bay.disengage c y).reasons = y.reasons ∧
    (Bay.disengage c y).role = y.role ∧ (Bay.disengage c y).charging = y.charging ∧
    (Bay.disengage c y).traffic = y.traffic := by
  simp only [Bay.disengage]
  (repeat' split) <;> simp

@[simp] theorem Bay.setFilled_frame (c : Bool) (y : Bay) :
    (Bay.setFilled c y).state = y.state ∧ (Bay.setFilled c y).tripDeferred = y.tripDeferred ∧
    (Bay.setFilled c y).decisionDeferred = y.decisionDeferred ∧
    (Bay.setFilled c y).returnPending = y.returnPending ∧
    (Bay.setFilled c y).contact = y.contact ∧ (Bay.setFilled c y).loss = y.loss ∧
    (Bay.setFilled c y).intent = y.intent ∧ (Bay.setFilled c y).intentFilter = y.intentFilter ∧
    (Bay.setFilled c y).timer = y.timer ∧ (Bay.setFilled c y).record = y.record ∧
    (Bay.setFilled c y).solenoidPin = y.solenoidPin ∧ (Bay.setFilled c y).reasons = y.reasons ∧
    (Bay.setFilled c y).role = y.role ∧ (Bay.setFilled c y).charging = y.charging ∧
    (Bay.setFilled c y).traffic = y.traffic := by
  simp only [Bay.setFilled]
  (repeat' split) <;> simp

@[simp] theorem Bay.setEmptied_frame (c : Bool) (y : Bay) :
    (Bay.setEmptied c y).state = y.state ∧ (Bay.setEmptied c y).tripDeferred = y.tripDeferred ∧
    (Bay.setEmptied c y).decisionDeferred = y.decisionDeferred ∧
    (Bay.setEmptied c y).returnPending = y.returnPending ∧
    (Bay.setEmptied c y).contact = y.contact ∧ (Bay.setEmptied c y).loss = y.loss ∧
    (Bay.setEmptied c y).intent = y.intent ∧ (Bay.setEmptied c y).intentFilter = y.intentFilter ∧
    (Bay.setEmptied c y).timer = y.timer ∧ (Bay.setEmptied c y).record = y.record ∧
    (Bay.setEmptied c y).solenoidPin = y.solenoidPin ∧ (Bay.setEmptied c y).reasons = y.reasons ∧
    (Bay.setEmptied c y).role = y.role ∧ (Bay.setEmptied c y).charging = y.charging ∧
    (Bay.setEmptied c y).traffic = y.traffic := by
  simp only [Bay.setEmptied]
  (repeat' split) <;> simp

@[simp] theorem Bay.setReasons_frame (c : Bool) (r : LockReasons) (y : Bay) :
    (Bay.setReasons c r y).state = y.state ∧
    (Bay.setReasons c r y).tripDeferred = y.tripDeferred ∧
    (Bay.setReasons c r y).decisionDeferred = y.decisionDeferred ∧
    (Bay.setReasons c r y).returnPending = y.returnPending ∧
    (Bay.setReasons c r y).contact = y.contact ∧ (Bay.setReasons c r y).loss = y.loss ∧
    (Bay.setReasons c r y).intent = y.intent ∧
    (Bay.setReasons c r y).intentFilter = y.intentFilter ∧
    (Bay.setReasons c r y).timer = y.timer ∧ (Bay.setReasons c r y).record = y.record ∧
    (Bay.setReasons c r y).solenoidPin = y.solenoidPin ∧ (Bay.setReasons c r y).role = y.role ∧
    (Bay.setReasons c r y).charging = y.charging ∧ (Bay.setReasons c r y).traffic = y.traffic := by
  simp only [Bay.setReasons]
  (repeat' split) <;> simp

@[simp] theorem Bay.afterReleasing_frame (c : Bool) (y : Bay) :
    (Bay.afterReleasing c y).state = y.state ∧
    (Bay.afterReleasing c y).tripDeferred = y.tripDeferred ∧
    (Bay.afterReleasing c y).decisionDeferred = y.decisionDeferred ∧
    (Bay.afterReleasing c y).returnPending = y.returnPending ∧
    (Bay.afterReleasing c y).contact = y.contact ∧ (Bay.afterReleasing c y).loss = y.loss ∧
    (Bay.afterReleasing c y).intent = y.intent ∧
    (Bay.afterReleasing c y).intentFilter = y.intentFilter ∧
    (Bay.afterReleasing c y).timer = y.timer ∧ (Bay.afterReleasing c y).record = y.record ∧
    (Bay.afterReleasing c y).solenoidPin = y.solenoidPin ∧
    (Bay.afterReleasing c y).reasons = y.reasons ∧ (Bay.afterReleasing c y).role = y.role ∧
    (Bay.afterReleasing c y).charging = y.charging ∧ (Bay.afterReleasing c y).traffic = y.traffic := by
  simp only [Bay.afterReleasing]
  (repeat' split) <;> simp

@[simp] theorem Bay.confirmRose_frame (y : Bay) :
    (Bay.confirmRose y).state = y.state ∧ (Bay.confirmRose y).tripDeferred = y.tripDeferred ∧
    (Bay.confirmRose y).decisionDeferred = y.decisionDeferred ∧
    (Bay.confirmRose y).returnPending = y.returnPending ∧
    (Bay.confirmRose y).contact = y.contact ∧ (Bay.confirmRose y).loss = y.loss ∧
    (Bay.confirmRose y).intent = y.intent ∧ (Bay.confirmRose y).intentFilter = y.intentFilter ∧
    (Bay.confirmRose y).timer = y.timer ∧ (Bay.confirmRose y).record = y.record ∧
    (Bay.confirmRose y).solenoid = y.solenoid ∧ (Bay.confirmRose y).solenoidPin = y.solenoidPin ∧
    (Bay.confirmRose y).reasons = y.reasons ∧ (Bay.confirmRose y).role = y.role ∧
    (Bay.confirmRose y).charging = y.charging ∧ (Bay.confirmRose y).traffic = y.traffic := by
  simp only [Bay.confirmRose]
  (repeat' split) <;> simp

@[simp] theorem Bay.confirmFell_frame (y : Bay) :
    (Bay.confirmFell y).state = y.state ∧ (Bay.confirmFell y).tripDeferred = y.tripDeferred ∧
    (Bay.confirmFell y).decisionDeferred = y.decisionDeferred ∧
    (Bay.confirmFell y).returnPending = y.returnPending ∧
    (Bay.confirmFell y).contact = y.contact ∧ (Bay.confirmFell y).loss = y.loss ∧
    (Bay.confirmFell y).intent = y.intent ∧ (Bay.confirmFell y).intentFilter = y.intentFilter ∧
    (Bay.confirmFell y).timer = y.timer ∧ (Bay.confirmFell y).record = y.record ∧
    (Bay.confirmFell y).solenoidPin = y.solenoidPin ∧ (Bay.confirmFell y).reasons = y.reasons ∧
    (Bay.confirmFell y).role = y.role ∧ (Bay.confirmFell y).charging = y.charging ∧
    (Bay.confirmFell y).traffic = y.traffic := by
  simp only [Bay.confirmFell]
  (repeat' split) <;> simp

@[simp] theorem Bay.enter_frame (p : Policy) (m : PartMode) (c : Bool) (new : BayState) (y : Bay) :
    (Bay.enter p m c new y).tripDeferred = y.tripDeferred ∧
    (Bay.enter p m c new y).contact = y.contact ∧ (Bay.enter p m c new y).loss = y.loss ∧
    (Bay.enter p m c new y).intent = y.intent ∧
    (Bay.enter p m c new y).intentFilter = y.intentFilter ∧
    (Bay.enter p m c new y).record = y.record ∧
    (Bay.enter p m c new y).solenoidPin = y.solenoidPin ∧
    (Bay.enter p m c new y).reasons = y.reasons ∧ (Bay.enter p m c new y).role = y.role ∧
    (Bay.enter p m c new y).charging = y.charging := by
  simp only [Bay.enter]
  (repeat' split) <;> simp

@[simp] theorem Bay.pauseTimer_frame (b : Bool) (y : Bay) :
    (Bay.pauseTimer b y).state = y.state ∧ (Bay.pauseTimer b y).tripDeferred = y.tripDeferred ∧
    (Bay.pauseTimer b y).decisionDeferred = y.decisionDeferred ∧
    (Bay.pauseTimer b y).returnPending = y.returnPending ∧
    (Bay.pauseTimer b y).contact = y.contact ∧ (Bay.pauseTimer b y).loss = y.loss ∧
    (Bay.pauseTimer b y).intent = y.intent ∧ (Bay.pauseTimer b y).intentFilter = y.intentFilter ∧
    (Bay.pauseTimer b y).record = y.record ∧ (Bay.pauseTimer b y).latch = y.latch ∧
    (Bay.pauseTimer b y).latchLimit = y.latchLimit ∧ (Bay.pauseTimer b y).solenoid = y.solenoid ∧
    (Bay.pauseTimer b y).solenoidPin = y.solenoidPin ∧ (Bay.pauseTimer b y).reasons = y.reasons ∧
    (Bay.pauseTimer b y).role = y.role ∧ (Bay.pauseTimer b y).charging = y.charging ∧
    (Bay.pauseTimer b y).traffic = y.traffic := by
  simp [Bay.pauseTimer]

@[simp] theorem Bay.markSuspect_frame (y : Bay) :
    (Bay.markSuspect y).state = y.state ∧ (Bay.markSuspect y).tripDeferred = y.tripDeferred ∧
    (Bay.markSuspect y).decisionDeferred = y.decisionDeferred ∧
    (Bay.markSuspect y).returnPending = y.returnPending ∧
    (Bay.markSuspect y).contact = y.contact ∧ (Bay.markSuspect y).loss = y.loss ∧
    (Bay.markSuspect y).intent = y.intent ∧ (Bay.markSuspect y).intentFilter = y.intentFilter ∧
    (Bay.markSuspect y).timer = y.timer ∧ (Bay.markSuspect y).latch = y.latch ∧
    (Bay.markSuspect y).latchLimit = y.latchLimit ∧ (Bay.markSuspect y).solenoid = y.solenoid ∧
    (Bay.markSuspect y).solenoidPin = y.solenoidPin ∧ (Bay.markSuspect y).reasons = y.reasons ∧
    (Bay.markSuspect y).role = y.role ∧ (Bay.markSuspect y).charging = y.charging ∧
    (Bay.markSuspect y).traffic = y.traffic := by
  simp only [Bay.markSuspect]
  (repeat' split) <;> simp

@[simp] theorem Bay.modeChanged_frame (p : Policy) (m n : PartMode) (y : Bay) :
    (Bay.modeChanged p m n y).state = y.state ∧
    (Bay.modeChanged p m n y).tripDeferred = y.tripDeferred ∧
    (Bay.modeChanged p m n y).decisionDeferred = y.decisionDeferred ∧
    (Bay.modeChanged p m n y).returnPending = y.returnPending ∧
    (Bay.modeChanged p m n y).contact = y.contact ∧ (Bay.modeChanged p m n y).loss = y.loss ∧
    (Bay.modeChanged p m n y).intent = y.intent ∧
    (Bay.modeChanged p m n y).intentFilter = y.intentFilter ∧
    (Bay.modeChanged p m n y).timer = y.timer ∧ (Bay.modeChanged p m n y).record = y.record ∧
    (Bay.modeChanged p m n y).latch = y.latch ∧
    (Bay.modeChanged p m n y).latchLimit = y.latchLimit ∧
    (Bay.modeChanged p m n y).solenoid = y.solenoid ∧
    (Bay.modeChanged p m n y).solenoidPin = y.solenoidPin ∧
    (Bay.modeChanged p m n y).reasons = y.reasons ∧ (Bay.modeChanged p m n y).role = y.role ∧
    (Bay.modeChanged p m n y).charging = y.charging := by
  simp [Bay.modeChanged]

@[simp] theorem Bay.tick_frame (y : Bay) :
    (Bay.tick y).state = y.state ∧ (Bay.tick y).tripDeferred = y.tripDeferred ∧
    (Bay.tick y).decisionDeferred = y.decisionDeferred ∧
    (Bay.tick y).returnPending = y.returnPending ∧ (Bay.tick y).contact = y.contact ∧
    (Bay.tick y).intent = y.intent ∧ (Bay.tick y).record = y.record ∧
    (Bay.tick y).latch = y.latch ∧ (Bay.tick y).solenoid = y.solenoid ∧
    (Bay.tick y).solenoidPin = y.solenoidPin ∧ (Bay.tick y).reasons = y.reasons ∧
    (Bay.tick y).role = y.role ∧ (Bay.tick y).charging = y.charging := by
  simp [Bay.tick]

@[simp] theorem Bay.setReasons_reasons (c : Bool) (r : LockReasons) (y : Bay) :
    (Bay.setReasons c r y).reasons = r := by
  simp only [Bay.setReasons]
  (repeat' split) <;> simp

@[simp] theorem Bay.enter_state (p : Policy) (m : PartMode) (c : Bool) (new : BayState) (y : Bay) :
    (Bay.enter p m c new y).state = new := by
  simp only [Bay.enter]
  split <;> simp

@[simp] theorem Bay.enter_traffic (p : Policy) (m : PartMode) (c : Bool) (new : BayState) (y : Bay) :
    (Bay.enter p m c new y).traffic = y.traffic.onMove p m y.state new := by
  simp only [Bay.enter]
  split <;> simp

end Sys2Proof.Machine
end

