-- ==== Sys2Proof/Laws/LinkBounds.lean ====
section
/-!
SUPPORT. No operation fills the response list or the ALERT packets beyond their capacity.
-/

namespace Sys2Proof.Machine

@[simp] theorem Link.choose_bounded {l : Link} (h : l.bounded) : l.choose.bounded := by
  unfold Link.choose
  split <;> simp_all [Link.bounded]
  omega

/-! A part of the link that is no list of responses or ALERT packets does not matter. -/

@[simp] theorem Link.bounded.length {l : Link} (h : l.bounded) : l.responses.length ≤ 8 := h.1
@[simp] theorem Link.bounded.nodup {l : Link} (h : l.bounded) :
    (l.alerts.map AlertPacket.bay).Nodup := h.2
@[simp] theorem Link.bounded_mk (rx it inj w) (rs : List Response) (al : List AlertPacket)
    (a b c d e f) : (Link.mk rx it inj w rs al a b c d e f).bounded ↔
      rs.length ≤ 8 ∧ (al.map AlertPacket.bay).Nodup := Iff.rfl
@[simp] theorem Link.hunt_bounded {l : Link} (h : l.bounded) : l.hunt.bounded := h
@[simp] theorem Link.receiving_bounded {l : Link} (r : RxState) (h : l.bounded) :
    (Link.receiving r l).bounded := h
@[simp] theorem Link.discardSlot_bounded {l : Link} (st : StreamId) (h : l.bounded) :
    (Link.discardSlot st l).bounded := by cases st <;> exact h
@[simp] theorem Link.controlReset_bounded (l : Link) : l.controlReset.bounded := by
  simp [Link.controlReset]
@[simp] theorem Link.fresh_bounded : Link.fresh.bounded := by simp [Link.fresh]
@[simp] theorem Link.setForwarding_bounded {l : Link} (on : Bool) (h : l.bounded) :
    (Link.setForwarding on l).bounded := by
  cases on <;> simp [Link.setForwarding, h]

@[simp] theorem State.transmit_link_bounded {s : State} (h : s.link.bounded) :
    s.transmit.link.bounded := by
  simp only [State.transmit]
  split <;> simp [h]

@[simp] theorem State.respond_link_bounded {s : State} (r : Response) (h : s.link.bounded) :
    (s.respond r).link.bounded := by
  simp only [State.respond]
  split
  · simpa using h
  · apply State.transmit_link_bounded
    simp_all [Link.bounded, Config.responseCapacity]

theorem placeAlert_mem (p : AlertPacket) (l : List AlertPacket) (i : BayId) :
    i ∈ (placeAlert p l).map AlertPacket.bay ↔ i = p.bay ∨ i ∈ l.map AlertPacket.bay := by
  induction l with
  | nil => simp [placeAlert]
  | cons q qs ih =>
    simp only [placeAlert]
    split <;> simp_all
    tauto
theorem placeAlert_nodup (p : AlertPacket) (l : List AlertPacket)
    (h : (l.map AlertPacket.bay).Nodup) : ((placeAlert p l).map AlertPacket.bay).Nodup := by
  induction l with
  | nil => simp [placeAlert]
  | cons q qs ih =>
    simp only [placeAlert]
    split
    · simp_all
    · simp only [List.map_cons, List.nodup_cons] at h ⊢
      refine ⟨?_, ih h.2⟩
      rw [placeAlert_mem]
      simp_all
@[simp] theorem State.handAlert_link_bounded {s : State} (p : AlertPacket) (h : s.link.bounded) :
    (s.handAlert p).link.bounded := by
  simp only [State.handAlert]
  apply State.transmit_link_bounded
  exact ⟨h.1, placeAlert_nodup p _ h.2⟩

@[simp] theorem State.answerFromRecord_link_bounded {s : State} (i : BayId) (other : Answer) (r : HostRequest) (h : s.link.bounded) :
    (State.answerFromRecord s i other r).link.bounded := by
  simp only [State.answerFromRecord]
  (repeat' split) <;> simp (maxDischargeDepth := 12) [h]

@[simp] theorem State.answerQueue_link_bounded {s : State} (i : BayId) (other : Answer) (x0 : List HostRequest) (h : s.link.bounded) :
    (State.answerQueue s i other x0).link.bounded := by
  induction x0 generalizing s with
  | nil => simpa [State.answerQueue] using h
  | cons r rs ih => exact ih (by simp (maxDischargeDepth := 12) [h])

@[simp] theorem State.settleSilent_link_bounded {s : State} (i : BayId) (h : s.link.bounded) :
    (State.settleSilent s i).link.bounded := by
  simp only [State.settleSilent]
  simp (maxDischargeDepth := 12) [h]

@[simp] theorem State.settleEmpty_link_bounded {s : State} (i : BayId) (h : s.link.bounded) :
    (State.settleEmpty s i).link.bounded := by
  simp only [State.settleEmpty]
  (repeat' split) <;> simp (maxDischargeDepth := 12) [h]

@[simp] theorem State.contactLoss_link_bounded {s : State} (i : BayId) (h : s.link.bounded) :
    (State.contactLoss s i).link.bounded := by
  simp only [State.contactLoss]
  (repeat' split) <;> simp (maxDischargeDepth := 12) [h]

@[simp] theorem State.takeTrip_link_bounded {s : State} (i : BayId) (h : s.link.bounded) :
    (State.takeTrip s i).link.bounded := by
  simp only [State.takeTrip]
  simp (maxDischargeDepth := 12) [h]

@[simp] theorem State.tripRaised_link_bounded {s : State} (i : BayId) (h : s.link.bounded) :
    (State.tripRaised s i).link.bounded := by
  simp only [State.tripRaised]
  (repeat' split) <;> simp (maxDischargeDepth := 12) [h]

@[simp] theorem State.raiseTrip_link_bounded {s : State} (i : BayId) (h : s.link.bounded) :
    (State.raiseTrip s i).link.bounded := by
  simp only [State.raiseTrip]
  (repeat' split) <;> simp (maxDischargeDepth := 12) [h]

@[simp] theorem State.countFailure_link_bounded {s : State} (i : BayId) (h : s.link.bounded) :
    (State.countFailure s i).link.bounded := by
  simp only [State.countFailure]
  (repeat' split) <;> simp (maxDischargeDepth := 12) [h]

@[simp] theorem State.lockoutLimitWritten_link_bounded {s : State} (i : BayId) (h : s.link.bounded) :
    (State.lockoutLimitWritten s i).link.bounded := by
  simp only [State.lockoutLimitWritten]
  (repeat' split) <;> simp (maxDischargeDepth := 12) [h]

@[simp] theorem State.endDeferral_link_bounded {s : State} (i : BayId) (h : s.link.bounded) :
    (State.endDeferral s i).link.bounded := by
  simp only [State.endDeferral]
  (repeat' split) <;> simp (maxDischargeDepth := 12) [h]

@[simp] theorem State.closeEventIn_link_bounded (x0 : Nat) {s : State} (h : s.link.bounded) :
    (State.closeEventIn x0 s).link.bounded := by
  induction x0 generalizing s with
  | zero => simpa [State.closeEventIn] using h
  | succ n ih =>
    simp only [State.closeEventIn]
    split
    · exact h
    · exact ih (by simp (maxDischargeDepth := 12) [h])

@[simp] theorem State.closeEvent_link_bounded {s : State} (h : s.link.bounded) :
    (State.closeEvent s).link.bounded := by
  simp (maxDischargeDepth := 12) [State.closeEvent, h]

@[simp] theorem State.respondHost_link_bounded {s : State} (i : BayId) (r : HostRequest) (deliver : Bool) (o : Answer) (data : List Byte) (h : s.link.bounded) :
    (State.respondHost s i r deliver o data).link.bounded := by
  simp only [State.respondHost]
  (repeat' split) <;> simp (maxDischargeDepth := 12) [h]

@[simp] theorem State.alertRead_link_bounded {s : State} (i : BayId) (data : List Byte) (h : s.link.bounded) :
    (State.alertRead s i data).link.bounded := by
  simp only [State.alertRead]
  (repeat' split) <;> simp (maxDischargeDepth := 12) [h]

@[simp] theorem State.acknowledged_link_bounded {s : State} (i : BayId) (x : Transaction) (data : List Byte) (h : s.link.bounded) :
    (State.acknowledged s i x data).link.bounded := by
  simp only [State.acknowledged]
  (repeat' split) <;> simp (maxDischargeDepth := 12) [h]

@[simp] theorem State.failed_link_bounded {s : State} (i : BayId) (x : Transaction) (o : Answer) (h : s.link.bounded) :
    (State.failed s i x o).link.bounded := by
  simp only [State.failed]
  (repeat' split) <;> simp (maxDischargeDepth := 12) [h]

@[simp] theorem State.complete_link_bounded {s : State} (i : BayId) (e : Ending) (h : s.link.bounded) :
    (State.complete s i e).link.bounded := by
  simp only [State.complete]
  (repeat' split) <;> simp (maxDischargeDepth := 12) [h]

@[simp] theorem State.admitRequest_link_bounded {s : State} (i : BayId) (k : Lookup) (r : HostRequest) (h : s.link.bounded) :
    (State.admitRequest s i k r).link.bounded := by
  simp only [State.admitRequest]
  (repeat' split) <;> simp (maxDischargeDepth := 12) [h]

@[simp] theorem State.packRequest_link_bounded {s : State} (i : BayId) (tag : Byte) (offset : Half) (write : Bool) (count : Nat) (data : List Byte) (h : s.link.bounded) :
    (State.packRequest s i tag offset write count data).link.bounded := by
  simp only [State.packRequest]
  (repeat' split) <;> simp (maxDischargeDepth := 12) [h]

@[simp] theorem State.returnFilters_link_bounded {s : State} (i : BayId) (h : s.link.bounded) :
    (State.returnFilters s i).link.bounded := by
  simp only [State.returnFilters]
  (repeat' split) <;> simp (maxDischargeDepth := 12) [h]

@[simp] theorem State.bayReturn_link_bounded {s : State} (i : BayId) (h : s.link.bounded) :
    (State.bayReturn s i).link.bounded := by
  simp only [State.bayReturn]
  simp (maxDischargeDepth := 12) [h]

@[simp] theorem State.baysReturn_link_bounded {s : State} (h : s.link.bounded) :
    (State.baysReturn s).link.bounded := by
  simp only [State.baysReturn]
  simp (maxDischargeDepth := 12) [h]

@[simp] theorem State.returnAtBlocks_link_bounded {s : State} (h : s.link.bounded) :
    (State.returnAtBlocks s).link.bounded := by
  simp only [State.returnAtBlocks]
  (repeat' split) <;> simp (maxDischargeDepth := 12) [h]

@[simp] theorem State.offerAccel_link_bounded {s : State} (x y z : Int) (guard injected : Bool) (h : s.link.bounded) :
    (State.offerAccel s x y z guard injected).link.bounded := by
  simp only [State.offerAccel]
  (repeat' split) <;> simp (maxDischargeDepth := 12) [h]

@[simp] theorem State.offerLight_link_bounded {s : State} (ef er a : Option Nat) (lout : Nat) (h : s.link.bounded) :
    (State.offerLight s ef er a lout).link.bounded := by
  simp only [State.offerLight]
  (repeat' split) <;> simp (maxDischargeDepth := 12) [h]

@[simp] theorem State.writeStream_link_bounded {s : State} (st : StreamId) (enable : Bool) (divider : Nat) (h : s.link.bounded) :
    (State.writeStream s st enable divider).link.bounded := by
  simp only [State.writeStream]
  (repeat' split) <;> simp (maxDischargeDepth := 12) [h]

@[simp] theorem State.streamsDormant_link_bounded {s : State} (h : s.link.bounded) :
    (State.streamsDormant s).link.bounded := by
  simp only [State.streamsDormant]
  simp (maxDischargeDepth := 12) [h]

@[simp] theorem State.returnToCalm_link_bounded {s : State} (h : s.link.bounded) :
    (State.returnToCalm s).link.bounded := by
  simp only [State.returnToCalm]
  simp (maxDischargeDepth := 12) [h]

@[simp] theorem State.afterWindow_link_bounded {s : State} (lost : Bool) (h : s.link.bounded) :
    (State.afterWindow s lost).link.bounded := by
  simp only [State.afterWindow]
  (repeat' split) <;> simp (maxDischargeDepth := 12) [h]

@[simp] theorem State.firstWindowEnd_link_bounded {s : State} (lost : Bool) (kind : ImpactKind) (peak : Accel3) (h : s.link.bounded) :
    (State.firstWindowEnd s lost kind peak).link.bounded := by
  simp only [State.firstWindowEnd]
  (repeat' split) <;> simp (maxDischargeDepth := 12) [h]

@[simp] theorem State.laterWindowEnd_link_bounded {s : State} (lost : Bool) (kind : ImpactKind)
    (was : Severity) (old peak : Accel3) (h : s.link.bounded) :
    (State.laterWindowEnd s lost kind was old peak).link.bounded := by
  simp only [State.laterWindowEnd]
  (repeat' split) <;> simp (maxDischargeDepth := 12) [h]

@[simp] theorem State.windowEnd_link_bounded {s : State} (lost : Bool) (h : s.link.bounded) :
    (State.windowEnd s lost).link.bounded := by
  simp only [State.windowEnd]
  (repeat' split) <;> simp (maxDischargeDepth := 12) [h]

@[simp] theorem State.caught_link_bounded {s : State} (samples : Nat) (h : s.link.bounded) :
    (State.caught s samples).link.bounded := by
  simp only [State.caught]
  (repeat' split) <;> simp (maxDischargeDepth := 12) [h]

@[simp] theorem State.fallingSample_link_bounded {s : State} (a : Accel3) (h : s.link.bounded) :
    (State.fallingSample s a).link.bounded := by
  simp only [State.fallingSample]
  (repeat' split) <;> simp (maxDischargeDepth := 12) [h]

@[simp] theorem State.impactSample_link_bounded {s : State} (a : Accel3) (h : s.link.bounded) :
    (State.impactSample s a).link.bounded := by
  simp only [State.impactSample]
  (repeat' split) <;> simp (maxDischargeDepth := 12) [h]

@[simp] theorem State.settlingSample_link_bounded {s : State} (a : Accel3) (h : s.link.bounded) :
    (State.settlingSample s a).link.bounded := by
  simp only [State.settlingSample]
  (repeat' split) <;> simp (maxDischargeDepth := 12) [h]

@[simp] theorem State.guardSample_link_bounded {s : State} (a : Accel3) (h : s.link.bounded) :
    (State.guardSample s a).link.bounded := by
  simp only [State.guardSample]
  (repeat' split) <;> simp (maxDischargeDepth := 12) [h]

@[simp] theorem State.acceptAccel_link_bounded {s : State} (x y z : Int) (injected : Bool) (h : s.link.bounded) :
    (State.acceptAccel s x y z injected).link.bounded := by
  simp only [State.acceptAccel]
  simp (maxDischargeDepth := 12) [h]

@[simp] theorem State.accelArrival_link_bounded {s : State} (x y z : Int) (h : s.link.bounded) :
    (State.accelArrival s x y z).link.bounded := by
  simp only [State.accelArrival]
  (repeat' split) <;> simp (maxDischargeDepth := 12) [h]

@[simp] theorem State.accelInjected_link_bounded {s : State} (x y z : Int) (h : s.link.bounded) :
    (State.accelInjected s x y z).link.bounded := by
  simp only [State.accelInjected]
  simp (maxDischargeDepth := 12) [h]

@[simp] theorem State.guardLoss_link_bounded {s : State} (h : s.link.bounded) :
    (State.guardLoss s).link.bounded := by
  simp only [State.guardLoss]
  (repeat' split) <;> simp (maxDischargeDepth := 12) [h]

@[simp] theorem State.accelStale_link_bounded {s : State} (h : s.link.bounded) :
    (State.accelStale s).link.bounded := by
  simp only [State.accelStale]
  simp (maxDischargeDepth := 12) [h]

@[simp] theorem State.brightnessTick_link_bounded {s : State} (h : s.link.bounded) :
    (State.brightnessTick s).link.bounded := by
  simp only [State.brightnessTick]
  (repeat' split) <;> simp (maxDischargeDepth := 12) [h]

@[simp] theorem State.setMode_link_bounded {s : State} (m : PartMode) (h : s.link.bounded) :
    (State.setMode s m).link.bounded := by
  simp only [State.setMode]
  (repeat' split) <;> simp (maxDischargeDepth := 12) [h]

@[simp] theorem State.wakeByTraffic_link_bounded {s : State} (h : s.link.bounded) :
    (State.wakeByTraffic s).link.bounded := by
  simp only [State.wakeByTraffic]
  (repeat' split) <;> simp (maxDischargeDepth := 12) [h]

@[simp] theorem Setting.put_link_bounded (bs : List Byte) {s : State} (x0 : Setting) (h : s.link.bounded) :
    (Setting.put bs s x0).link.bounded := by
  cases x0 <;> simp only [Setting.put] <;> (repeat' split) <;> simp (maxDischargeDepth := 12) [h]

@[simp] theorem State.panelWritten_link_bounded {s : State} (lMaxWritten : Bool) (h : s.link.bounded) :
    (State.panelWritten s lMaxWritten).link.bounded := by
  simp only [State.panelWritten]
  (repeat' split) <;> simp (maxDischargeDepth := 12) [h]

@[simp] theorem State.afterPuts_link_bounded {s : State} (xs : List Setting) (h : s.link.bounded) :
    (State.afterPuts s xs).link.bounded := by
  simp only [State.afterPuts]
  (repeat' split) <;> simp (maxDischargeDepth := 12) [h]

@[simp] theorem State.putAll_link_bounded (x0 : List (Setting × List Byte)) {s : State} (h : s.link.bounded) :
    (State.putAll x0 s).link.bounded := by
  induction x0 generalizing s with
  | nil => simpa [State.putAll] using h
  | cons x xs ih => exact ih (by simp (maxDischargeDepth := 12) [h])

@[simp] theorem State.takeFields_link_bounded {s : State} (sp : Space) (clears : Half)
    (xs : List (Setting × List Byte)) (h : s.link.bounded) :
    (State.takeFields s sp clears xs).1.link.bounded := by
  simp only [State.takeFields]
  (repeat' split) <;> simp (maxDischargeDepth := 12) [h]

@[simp] theorem State.powerOn_link_bounded (s : State) : s.powerOn.link.bounded := by
  simp (maxDischargeDepth := 12) [State.powerOn, State.atPowerOn]

@[simp] theorem State.fullResetBlocks_link_bounded (s : State) :
    s.fullResetBlocks.link.bounded := Link.fresh_bounded

@[simp] theorem State.fullReset_link_bounded (s : State) : s.fullReset.link.bounded := by
  simp (maxDischargeDepth := 12) [State.fullReset]

@[simp] theorem State.controlReset_link_bounded (s : State) :
    s.controlReset.link.bounded := by simp [State.controlReset]

@[simp] theorem State.act_link_bounded {s : State} (i : BayId) (x0 : Action) (h : s.link.bounded) :
    (State.act s i x0).1.link.bounded := by
  cases x0 <;> simp only [State.act] <;> simp (maxDischargeDepth := 12) [h]

@[simp] theorem State.writeAction_link_bounded {s : State} (sp : Space) (data : List Byte) (h : s.link.bounded) :
    (State.writeAction s sp data).1.link.bounded := by
  simp only [State.writeAction]
  (repeat' split) <;> simp (maxDischargeDepth := 12) [h]

@[simp] theorem State.answer_link_bounded {s : State} (sp : Space) (p : Packet) (o : Answer) (data : List Byte) (h : s.link.bounded) :
    (State.answer s sp p o data).link.bounded := by
  simp only [State.answer]
  simp (maxDischargeDepth := 12) [h]

@[simp] theorem conclude_link_bounded (sp : Space) (p : Packet) (r : State × Answer) (h : r.1.link.bounded) :
    (conclude sp p r).link.bounded := by
  simp only [conclude]
  simp (maxDischargeDepth := 12) [h]

@[simp] theorem State.readSpace_link_bounded {s : State} (sp : Space) (p : Packet) (count : Nat) (h : s.link.bounded) :
    (State.readSpace s sp p count).link.bounded := by
  simp only [State.readSpace]
  (repeat' split) <;> simp (maxDischargeDepth := 12) [h]

@[simp] theorem State.refuseWrite_link_bounded {s : State} (sp : Space) (p : Packet) (h : s.link.bounded) :
    (State.refuseWrite s sp p).link.bounded := by
  simp only [State.refuseWrite]
  simp (maxDischargeDepth := 12) [h]

@[simp] theorem State.writeSpace_link_bounded {s : State} (sp : Space) (p : Packet) (data : List Byte) (h : s.link.bounded) :
    (State.writeSpace s sp p data).link.bounded := by
  simp only [State.writeSpace]
  (repeat' split) <;> simp (maxDischargeDepth := 12) [h]

@[simp] theorem State.modeRequest_link_bounded {s : State} (p : Packet) (h : s.link.bounded) :
    (State.modeRequest s p).link.bounded := by
  simp only [State.modeRequest]
  (repeat' split) <;> simp (maxDischargeDepth := 12) [h]

@[simp] theorem State.resetRequest_link_bounded {s : State} (p : Packet) (h : s.link.bounded) :
    (State.resetRequest s p).link.bounded := by
  simp only [State.resetRequest]
  (repeat' split) <;> simp (maxDischargeDepth := 12) [h]

@[simp] theorem State.injectRequest_link_bounded {s : State} (p : Packet) (h : s.link.bounded) :
    (State.injectRequest s p).link.bounded := by
  simp only [State.injectRequest]
  (repeat' split) <;> simp (maxDischargeDepth := 12) [h]

@[simp] theorem State.readRequest_link_bounded {s : State} (p : Packet) (count : Nat) (h : s.link.bounded) :
    (State.readRequest s p count).link.bounded := by
  simp only [State.readRequest]
  (repeat' split) <;> simp (maxDischargeDepth := 12) [h]

@[simp] theorem State.writeRequest_link_bounded {s : State} (p : Packet) (data : List Byte) (h : s.link.bounded) :
    (State.writeRequest s p data).link.bounded := by
  simp only [State.writeRequest]
  (repeat' split) <;> simp (maxDischargeDepth := 12) [h]

@[simp] theorem State.dispatch_link_bounded {s : State} (p : Packet) (h : s.link.bounded) :
    (State.dispatch s p).link.bounded := by
  simp only [State.dispatch]
  (repeat' split) <;> simp (maxDischargeDepth := 12) [h]

@[simp] theorem State.handlePacket_link_bounded {s : State} (p : Packet) (h : s.link.bounded) :
    (State.handlePacket s p).link.bounded := by
  simp only [State.handlePacket]
  (repeat' split) <;> simp (maxDischargeDepth := 12) [h]

@[simp] theorem State.handOn_link_bounded {s : State} (p : Packet) (h : s.link.bounded) :
    (State.handOn s p).link.bounded := by
  simp only [State.handOn]
  (repeat' split) <;> simp (maxDischargeDepth := 12) [h]

@[simp] theorem State.drain_link_bounded (x0 : Nat) {s : State} (h : s.link.bounded) :
    (State.drain x0 s).link.bounded := by
  induction x0 generalizing s with
  | zero => simpa [State.drain] using h
  | succ n ih =>
    simp only [State.drain]
    split
    · exact h
    · split
      · exact h
      · exact ih (by simp (maxDischargeDepth := 12) [h])

@[simp] theorem State.takeSample_link_bounded {s : State} (x0 : InjectedSample) (h : s.link.bounded) :
    (State.takeSample s x0).link.bounded := by
  cases x0 <;> simp only [State.takeSample] <;> simp (maxDischargeDepth := 12) [h]

@[simp] theorem State.finishInject_link_bounded {s : State} (w : InjectWork) (h : s.link.bounded) :
    (State.finishInject s w).link.bounded := by
  simp only [State.finishInject]
  simp (maxDischargeDepth := 12) [h]

@[simp] theorem State.injectedSample_link_bounded {s : State} (h : s.link.bounded) :
    (State.injectedSample s).link.bounded := by
  simp only [State.injectedSample]
  (repeat' split) <;> simp (maxDischargeDepth := 12) [h]

@[simp] theorem State.discardFrame_link_bounded {s : State} (h : s.link.bounded) :
    (State.discardFrame s).link.bounded := by
  simp only [State.discardFrame]
  simp (maxDischargeDepth := 12) [h]

@[simp] theorem State.receiveByte_link_bounded {s : State} (b : RxByte) (h : s.link.bounded) :
    (State.receiveByte s b).link.bounded := by
  simp only [State.receiveByte]
  (repeat' split) <;> simp (maxDischargeDepth := 12) [h]

@[simp] theorem State.receivePacket_link_bounded {s : State} (p : Packet) (h : s.link.bounded) :
    (State.receivePacket s p).link.bounded := by
  simp only [State.receivePacket]
  (repeat' split) <;> simp (maxDischargeDepth := 12) [h]

@[simp] theorem State.tick_link_bounded {s : State} (h : s.link.bounded) :
    (State.tick s).link.bounded := by
  simp only [State.tick]
  simp (maxDischargeDepth := 12) [h]

@[simp] theorem State.adapterChanged_link_bounded {s : State} (a : Option (Fin 4)) (h : s.link.bounded) :
    (State.adapterChanged s a).link.bounded := by
  simp only [State.adapterChanged]
  simp (maxDischargeDepth := 12) [h]

end Sys2Proof.Machine
end

