-- ==== Sys2Proof/WellFormed.lean ====
section
/-!
DEFINITION. Which operands a command may have: what the row's rule and the packet formats of R194
allow its sender. `exec` is total all the same: it never asks for these checks.
-/

namespace Sys2Proof

/-- The KIND codes of the five request kinds (R194). -/
def isRequestKind (kind : Byte) : Bool :=
  1 ≤ kind.toNat && kind.toNat ≤ 5

/-- A WRITE carries 1 to 32 data bytes (R182). -/
def writeDataOk (data : List Byte) : Bool :=
  1 ≤ data.length && data.length ≤ 32

/-- A write of one or more whole table entries of `size` bytes, from entry `entry`, within a table of
`count` entries (R197). -/
def wholeEntries (size count entry : Nat) (data : List Byte) : Bool :=
  writeDataOk data && data.length % size == 0 && entry + data.length / size ≤ count

/-- The checks on a command's operands. -/
def Instr.wellFormed : Instr → Bool
  | .badKind _ kind _ _ rest => !isRequestKind kind && rest.length ≤ 33
  | .write _ _ _ data => writeDataOk data
  | .packWrite _ _ _ data => writeDataOk data
  | .inject _ _ _ _ samples => 1 ≤ samples.length && samples.length ≤ 32
  | .bayCommandTableWrite _ entry data => wholeEntries 8 32 entry.val data
  | .admissionTableWrite _ entry data => wholeEntries 16 8 entry.val data
  | .dropActionTableWrite _ entry data => wholeEntries 1 6 entry.val data
  | .supplySettingWrite _ offset data =>
      writeDataOk data && 0x20 ≤ offset.toNat && offset.toNat + data.length ≤ 0x32
  | .bridgeSample mv => mv.toNat ≤ 5000
  | .transactionCompletion _ (.own (.ack data))
  | .transactionCompletion _ (.late (.ack data)) => data.length ≤ 32
  | .lightSampleArrival .rear _ _ _ theta => theta == 0
  | .powerOnReset | .resetNFall | .resetNRise | .uptimeTick | .badFrame _ | .truncated
  | .read _ _ _ _ | .packRead _ _ _ _ | .controlReset _ _ | .fullReset _ _ | .mode _ _ _
  | .injectedSample | .readmit _ _ | .clearInhibit _ _ | .clearSuspect _ _ | .lock _ _
  | .unlock _ _ | .backlightOn _ | .backlightOff _ | .applyCurve _ | .clearLog _ | .wakeAck _
  | .clearAllFlags _ | .writeOneClear _ _ _ | .lockoutLimitWrite _ _ _ | .sensorEnableWrite _ _ _
  | .staleLimitWrite _ _ | .lMaxWrite _ _ | .qWrite _ _ | .attentionEnableWrite _ _
  | .alertForwardingWrite _ _ | .streamControlWrite _ _ _ _ | .stimulusControlWrite _ _ _ _
  | .pwrReqRise | .pwrReqFall | .contactRise _ | .contactFall _ | .lossFilterExpiry _
  | .releaseIntentChange _ _ | .intentFilterExpiry _ | .lockConfirmRise _ | .lockConfirmFall _
  | .engageLimitExpiry _ | .disengageLimitExpiry _ | .alertAsserted _ | .parkAckChange _
  | .adapterSenseChange _ _ | .adapterFilterExpiry _ | .transactionCompletion _ (.own .nack)
  | .transactionCompletion _ (.late .nack)
  | .transactionLimitExpiry _ | .pollTimerExpiry _ | .settleTimerExpiry _ | .releaseTimerExpiry _
  | .startUpHoldExpiry | .bridgeRunExpiry | .saveTimerExpiry | .lightSampleArrival .front _ _ _ _
  | .conversionLimitExpiry _ | .sensorRefusal _ | .lightStaleExpiry _ | .brightnessTick
  | .accelSampleArrival _ _ _ | .accelStaleExpiry | .packetSent | .byteReceived _ => true

end Sys2Proof
end

