-- ==== Sys2Proof/Laws/PerInstr.lean ====
section
/-!
SUPPORT. A statement about every command as syntax, one lemma per constructor: the packet that a
well-formed request command sends has a LEN that the receiver takes, 5 to 38 (R180, R181).
-/

namespace Sys2Proof.Laws

open Sys2Proof.Machine

/-- The packet of the trunk link that a request command stands for; none for the other commands. -/
def requestPacket : Instr → Option Packet
  | .badKind tag kind dest offset rest => some ⟨tag, kind, dest, offset, rest⟩
  | .read tag dest offset count =>
      some (readPacket tag dest offset count)
  | .write tag dest offset data =>
      some (writePacket tag dest offset data)
  | .packRead tag bay offset count =>
      some (readPacket tag (passDest bay) offset count)
  | .packWrite tag bay offset data =>
      some (writePacket tag (passDest bay) offset data)
  | .controlReset tag dest => some ⟨tag, 3, dest, 1, []⟩
  | .fullReset tag dest => some ⟨tag, 3, dest, 2, []⟩
  | .mode tag dest code => some ⟨tag, 4, dest, code, []⟩
  | .inject tag dest source count samples => some ⟨tag, 5, dest, source, count :: samples⟩
  | .readmit tag bay =>
      some (actionPacket tag (baySpace bay) .readmit)
  | .clearInhibit tag bay =>
      some (actionPacket tag (baySpace bay) .clearInhibit)
  | .clearSuspect tag bay =>
      some (actionPacket tag (baySpace bay) .clearSuspect)
  | .lock tag bay =>
      some (actionPacket tag (baySpace bay) .lock)
  | .unlock tag bay =>
      some (actionPacket tag (baySpace bay) .unlock)
  | .backlightOn tag =>
      some (actionPacket tag .light .backlightOn)
  | .backlightOff tag =>
      some (actionPacket tag .light .backlightOff)
  | .applyCurve tag =>
      some (actionPacket tag .light .applyCurve)
  | .clearLog tag =>
      some (actionPacket tag .motion .clearLog)
  | .wakeAck tag =>
      some (actionPacket tag .hub .wakeAck)
  | .clearAllFlags tag =>
      some (actionPacket tag .hub .clearAllFlags)
  | .writeOneClear tag space mask =>
      some (writePacket tag (spaceDest space) 2 (le16 mask.toNat))
  | .bayCommandTableWrite tag entry data =>
      some (writePacket tag (spaceDest .policy) (BitVec.ofNat 16 (0x100 + 8 * entry.val)) data)
  | .admissionTableWrite tag entry data =>
      some (writePacket tag (spaceDest .policy) (BitVec.ofNat 16 (0x200 + 16 * entry.val)) data)
  | .dropActionTableWrite tag entry data =>
      some (writePacket tag (spaceDest .motion) (BitVec.ofNat 16 (0x68 + entry.val)) data)
  | .lockoutLimitWrite tag bay limit =>
      some (writePacket tag (spaceDest .policy) (bayOffset 5 bay) [limit])
  | .sensorEnableWrite tag sensor value =>
      some (writePacket tag (spaceDest .light) (match sensor with | .front => 5 | .rear => 6) [value])
  | .staleLimitWrite tag value =>
      some (writePacket tag (spaceDest .light) 0x0C (le16 value.toNat))
  | .lMaxWrite tag value =>
      some (writePacket tag (spaceDest .light) 0x16 (le16 value.toNat))
  | .qWrite tag value =>
      some (writePacket tag (spaceDest .light) 0x18 (le16 value.toNat))
  | .supplySettingWrite tag offset data =>
      some (writePacket tag (spaceDest .supply) offset data)
  | .attentionEnableWrite tag value =>
      some (writePacket tag (spaceDest .hub) 8 [value])
  | .alertForwardingWrite tag value =>
      some (writePacket tag (spaceDest .hub) 7 [value])
  | .streamControlWrite tag stream enable divider =>
      some (writePacket tag (spaceDest .motion) (match stream with | .accel => 0x70 | .light => 0x72)
        [enable, divider])
  | .stimulusControlWrite tag on sources drives =>
      some (writePacket tag (spaceDest .motion) 0x74 [on, sources, drives])
  | .powerOnReset | .resetNFall | .resetNRise | .uptimeTick | .badFrame _ | .truncated
  | .injectedSample | .pwrReqRise | .pwrReqFall | .contactRise _ | .contactFall _
  | .lossFilterExpiry _ | .releaseIntentChange _ _ | .intentFilterExpiry _ | .lockConfirmRise _
  | .lockConfirmFall _ | .engageLimitExpiry _ | .disengageLimitExpiry _ | .alertAsserted _
  | .parkAckChange _ | .adapterSenseChange _ _ | .adapterFilterExpiry _ | .bridgeSample _
  | .transactionCompletion _ _ | .transactionLimitExpiry _ | .pollTimerExpiry _
  | .settleTimerExpiry _ | .releaseTimerExpiry _ | .startUpHoldExpiry | .bridgeRunExpiry
  | .saveTimerExpiry | .lightSampleArrival _ _ _ _ _ | .conversionLimitExpiry _
  | .sensorRefusal _ | .lightStaleExpiry _ | .brightnessTick | .accelSampleArrival _ _ _
  | .accelStaleExpiry | .packetSent | .byteReceived _ => none

/-- A packet whose bytes after the head number 0 to 33 fits the receiver. -/
theorem packet_fits {p : Packet} (h : p.rest.length ≤ 33) : 5 ≤ p.len ∧ p.len ≤ 38 := by
  unfold Packet.len; omega

/-- Bytes that a WRITE may carry fit behind the head. -/
theorem length_of_writeDataOk {data : List Byte} (h : writeDataOk data = true) :
    data.length ≤ 33 := by
  simp only [writeDataOk, Bool.and_eq_true, decide_eq_true_eq] at h; omega

/-- Whole table entries are bytes that a WRITE may carry. -/
theorem length_of_wholeEntries {size count entry : Nat} {data : List Byte}
    (h : wholeEntries size count entry data = true) : data.length ≤ 33 := by
  simp only [wholeEntries, Bool.and_eq_true] at h; exact length_of_writeDataOk h.1.1

/-- A well-formed request command fits the receiver. -/
def RequestFits.Statement (c : Instr) : Prop :=
  c.wellFormed = true → ∀ p, requestPacket c = some p → 5 ≤ p.len ∧ p.len ≤ 38

namespace RequestFits

theorem powerOnReset : Statement .powerOnReset :=
  fun _ _ h => nomatch h

theorem resetNFall : Statement .resetNFall :=
  fun _ _ h => nomatch h

theorem resetNRise : Statement .resetNRise :=
  fun _ _ h => nomatch h

theorem uptimeTick : Statement .uptimeTick :=
  fun _ _ h => nomatch h

theorem badFrame (cause : FrameFault) : Statement (.badFrame cause) :=
  fun _ _ h => nomatch h

theorem truncated : Statement .truncated :=
  fun _ _ h => nomatch h

theorem badKind (tag : Byte) (kind : Byte) (dest : Byte) (offset : Half) (rest : List Byte) :
    Statement (.badKind tag kind dest offset rest) := by
  rintro h _ ⟨⟩
  simp only [Instr.wellFormed, Bool.and_eq_true, decide_eq_true_eq] at h
  exact packet_fits h.2

theorem read (tag : Byte) (dest : Byte) (offset : Half) (count : Byte) :
    Statement (.read tag dest offset count) := by
  rintro _ _ ⟨⟩; exact packet_fits (by simp [readPacket])

theorem write (tag : Byte) (dest : Byte) (offset : Half) (data : List Byte) :
    Statement (.write tag dest offset data) := by
  rintro h _ ⟨⟩; exact packet_fits (length_of_writeDataOk h)

theorem packRead (tag : Byte) (bay : BayId) (offset : Half) (count : Byte) :
    Statement (.packRead tag bay offset count) := by
  rintro _ _ ⟨⟩; exact packet_fits (by simp [readPacket])

theorem packWrite (tag : Byte) (bay : BayId) (offset : Half) (data : List Byte) :
    Statement (.packWrite tag bay offset data) := by
  rintro h _ ⟨⟩; exact packet_fits (length_of_writeDataOk h)

theorem controlReset (tag : Byte) (dest : Byte) : Statement (.controlReset tag dest) := by
  rintro _ _ ⟨⟩; exact packet_fits (by simp)

theorem fullReset (tag : Byte) (dest : Byte) : Statement (.fullReset tag dest) := by
  rintro _ _ ⟨⟩; exact packet_fits (by simp)

theorem mode (tag : Byte) (dest : Byte) (code : Half) : Statement (.mode tag dest code) := by
  rintro _ _ ⟨⟩; exact packet_fits (by simp)

theorem inject (tag : Byte) (dest : Byte) (source : Half) (count : Byte) (samples : List Byte) :
    Statement (.inject tag dest source count samples) := by
  rintro h _ ⟨⟩
  simp only [Instr.wellFormed, Bool.and_eq_true, decide_eq_true_eq] at h
  exact packet_fits (by simp only [List.length_cons]; omega)

theorem injectedSample : Statement .injectedSample :=
  fun _ _ h => nomatch h

theorem readmit (tag : Byte) (bay : BayId) : Statement (.readmit tag bay) := by
  rintro _ _ ⟨⟩; exact packet_fits (by simp [actionPacket, writePacket])

theorem clearInhibit (tag : Byte) (bay : BayId) : Statement (.clearInhibit tag bay) := by
  rintro _ _ ⟨⟩; exact packet_fits (by simp [actionPacket, writePacket])

theorem clearSuspect (tag : Byte) (bay : BayId) : Statement (.clearSuspect tag bay) := by
  rintro _ _ ⟨⟩; exact packet_fits (by simp [actionPacket, writePacket])

theorem lock (tag : Byte) (bay : BayId) : Statement (.lock tag bay) := by
  rintro _ _ ⟨⟩; exact packet_fits (by simp [actionPacket, writePacket])

theorem unlock (tag : Byte) (bay : BayId) : Statement (.unlock tag bay) := by
  rintro _ _ ⟨⟩; exact packet_fits (by simp [actionPacket, writePacket])

theorem backlightOn (tag : Byte) : Statement (.backlightOn tag) := by
  rintro _ _ ⟨⟩; exact packet_fits (by simp [actionPacket, writePacket])

theorem backlightOff (tag : Byte) : Statement (.backlightOff tag) := by
  rintro _ _ ⟨⟩; exact packet_fits (by simp [actionPacket, writePacket])

theorem applyCurve (tag : Byte) : Statement (.applyCurve tag) := by
  rintro _ _ ⟨⟩; exact packet_fits (by simp [actionPacket, writePacket])

theorem clearLog (tag : Byte) : Statement (.clearLog tag) := by
  rintro _ _ ⟨⟩; exact packet_fits (by simp [actionPacket, writePacket])

theorem wakeAck (tag : Byte) : Statement (.wakeAck tag) := by
  rintro _ _ ⟨⟩; exact packet_fits (by simp [actionPacket, writePacket])

theorem clearAllFlags (tag : Byte) : Statement (.clearAllFlags tag) := by
  rintro _ _ ⟨⟩; exact packet_fits (by simp [actionPacket, writePacket])

theorem writeOneClear (tag : Byte) (space : Space) (mask : Half) :
    Statement (.writeOneClear tag space mask) := by
  rintro _ _ ⟨⟩; exact packet_fits (by simp [writePacket, le16])

theorem bayCommandTableWrite (tag : Byte) (entry : Fin 32) (data : List Byte) :
    Statement (.bayCommandTableWrite tag entry data) := by
  rintro h _ ⟨⟩; exact packet_fits (length_of_wholeEntries h)

theorem admissionTableWrite (tag : Byte) (entry : Fin 8) (data : List Byte) :
    Statement (.admissionTableWrite tag entry data) := by
  rintro h _ ⟨⟩; exact packet_fits (length_of_wholeEntries h)

theorem dropActionTableWrite (tag : Byte) (entry : Fin 6) (data : List Byte) :
    Statement (.dropActionTableWrite tag entry data) := by
  rintro h _ ⟨⟩; exact packet_fits (length_of_wholeEntries h)

theorem lockoutLimitWrite (tag : Byte) (bay : BayId) (limit : Byte) :
    Statement (.lockoutLimitWrite tag bay limit) := by
  rintro _ _ ⟨⟩; exact packet_fits (by simp [writePacket])

theorem sensorEnableWrite (tag : Byte) (sensor : SensorId) (value : Byte) :
    Statement (.sensorEnableWrite tag sensor value) := by
  rintro _ _ ⟨⟩; exact packet_fits (by simp [writePacket])

theorem staleLimitWrite (tag : Byte) (value : Half) : Statement (.staleLimitWrite tag value) := by
  rintro _ _ ⟨⟩; exact packet_fits (by simp [writePacket, le16])

theorem lMaxWrite (tag : Byte) (value : Half) : Statement (.lMaxWrite tag value) := by
  rintro _ _ ⟨⟩; exact packet_fits (by simp [writePacket, le16])

theorem qWrite (tag : Byte) (value : Half) : Statement (.qWrite tag value) := by
  rintro _ _ ⟨⟩; exact packet_fits (by simp [writePacket, le16])

theorem supplySettingWrite (tag : Byte) (offset : Half) (data : List Byte) :
    Statement (.supplySettingWrite tag offset data) := by
  rintro h _ ⟨⟩
  simp only [Instr.wellFormed, Bool.and_eq_true] at h
  exact packet_fits (length_of_writeDataOk h.1.1)

theorem attentionEnableWrite (tag : Byte) (value : Byte) :
    Statement (.attentionEnableWrite tag value) := by
  rintro _ _ ⟨⟩; exact packet_fits (by simp [writePacket])

theorem alertForwardingWrite (tag : Byte) (value : Byte) :
    Statement (.alertForwardingWrite tag value) := by
  rintro _ _ ⟨⟩; exact packet_fits (by simp [writePacket])

theorem streamControlWrite (tag : Byte) (stream : StreamId) (enable : Byte) (divider : Byte) :
    Statement (.streamControlWrite tag stream enable divider) := by
  rintro _ _ ⟨⟩; exact packet_fits (by simp [writePacket])

theorem stimulusControlWrite (tag : Byte) (on : Byte) (sources : Byte) (drives : Byte) :
    Statement (.stimulusControlWrite tag on sources drives) := by
  rintro _ _ ⟨⟩; exact packet_fits (by simp [writePacket])

theorem pwrReqRise : Statement .pwrReqRise :=
  fun _ _ h => nomatch h

theorem pwrReqFall : Statement .pwrReqFall :=
  fun _ _ h => nomatch h

theorem contactRise (bay : BayId) : Statement (.contactRise bay) :=
  fun _ _ h => nomatch h

theorem contactFall (bay : BayId) : Statement (.contactFall bay) :=
  fun _ _ h => nomatch h

theorem lossFilterExpiry (bay : BayId) : Statement (.lossFilterExpiry bay) :=
  fun _ _ h => nomatch h

theorem releaseIntentChange (bay : BayId) (closed : Bool) :
    Statement (.releaseIntentChange bay closed) :=
  fun _ _ h => nomatch h

theorem intentFilterExpiry (bay : BayId) : Statement (.intentFilterExpiry bay) :=
  fun _ _ h => nomatch h

theorem lockConfirmRise (bay : BayId) : Statement (.lockConfirmRise bay) :=
  fun _ _ h => nomatch h

theorem lockConfirmFall (bay : BayId) : Statement (.lockConfirmFall bay) :=
  fun _ _ h => nomatch h

theorem engageLimitExpiry (bay : BayId) : Statement (.engageLimitExpiry bay) :=
  fun _ _ h => nomatch h

theorem disengageLimitExpiry (bay : BayId) : Statement (.disengageLimitExpiry bay) :=
  fun _ _ h => nomatch h

theorem alertAsserted (bay : BayId) : Statement (.alertAsserted bay) :=
  fun _ _ h => nomatch h

theorem parkAckChange (level : Bool) : Statement (.parkAckChange level) :=
  fun _ _ h => nomatch h

theorem adapterSenseChange (present : Bool) (code : Fin 4) :
    Statement (.adapterSenseChange present code) :=
  fun _ _ h => nomatch h

theorem adapterFilterExpiry (filter : AdapterFilter) : Statement (.adapterFilterExpiry filter) :=
  fun _ _ h => nomatch h

theorem bridgeSample (mv : Half) : Statement (.bridgeSample mv) :=
  fun _ _ h => nomatch h

theorem transactionCompletion (bay : BayId) (answer : Arrival PackAnswer) :
    Statement (.transactionCompletion bay answer) :=
  fun _ _ h => nomatch h

theorem transactionLimitExpiry (bay : BayId) : Statement (.transactionLimitExpiry bay) :=
  fun _ _ h => nomatch h

theorem pollTimerExpiry (bay : BayId) : Statement (.pollTimerExpiry bay) :=
  fun _ _ h => nomatch h

theorem settleTimerExpiry (bay : BayId) : Statement (.settleTimerExpiry bay) :=
  fun _ _ h => nomatch h

theorem releaseTimerExpiry (bay : BayId) : Statement (.releaseTimerExpiry bay) :=
  fun _ _ h => nomatch h

theorem startUpHoldExpiry : Statement .startUpHoldExpiry :=
  fun _ _ h => nomatch h

theorem bridgeRunExpiry : Statement .bridgeRunExpiry :=
  fun _ _ h => nomatch h

theorem saveTimerExpiry : Statement .saveTimerExpiry :=
  fun _ _ h => nomatch h

theorem lightSampleArrival (sensor : SensorId) (count : Arrival Half) (gain : Gain)
    (integration : Integration) (theta : Byte) :
    Statement (.lightSampleArrival sensor count gain integration theta) :=
  fun _ _ h => nomatch h

theorem conversionLimitExpiry (sensor : SensorId) : Statement (.conversionLimitExpiry sensor) :=
  fun _ _ h => nomatch h

theorem sensorRefusal (sensor : SensorId) : Statement (.sensorRefusal sensor) :=
  fun _ _ h => nomatch h

theorem lightStaleExpiry (sensor : SensorId) : Statement (.lightStaleExpiry sensor) :=
  fun _ _ h => nomatch h

theorem brightnessTick : Statement .brightnessTick :=
  fun _ _ h => nomatch h

theorem accelSampleArrival (x : Half) (y : Half) (z : Half) :
    Statement (.accelSampleArrival x y z) :=
  fun _ _ h => nomatch h

theorem accelStaleExpiry : Statement .accelStaleExpiry :=
  fun _ _ h => nomatch h

theorem packetSent : Statement .packetSent :=
  fun _ _ h => nomatch h

theorem byteReceived (byte : RxByte) : Statement (.byteReceived byte) :=
  fun _ _ h => nomatch h

end RequestFits

end Sys2Proof.Laws
end

