-- ==== Sys2Proof/Laws/QueueBounds.lean ====
section
/-!
SUPPORT. No operation fills a bay's request queue beyond four.
-/

namespace Sys2Proof.Machine

/-! ### The pair of queues -/

@[simp] theorem queuesBounded_mk (a b : Bay) :
    queuesBounded ⟨a, b⟩ ↔ a.traffic.bounded ∧ b.traffic.bounded := Iff.rfl
@[simp] theorem queuesBounded.get {b : Both Bay} (h : queuesBounded b) (i : BayId) :
    (b.get i).traffic.bounded := by cases i <;> [exact h.1; exact h.2]
@[simp] theorem queuesBounded.a {b : Both Bay} (h : queuesBounded b) : b.a.traffic.bounded := h.1
@[simp] theorem queuesBounded.b {b : Both Bay} (h : queuesBounded b) : b.b.traffic.bounded := h.2
@[simp] theorem queuesBounded.set {b : Both Bay} (h : queuesBounded b) (i : BayId) {y : Bay}
    (hy : y.traffic.bounded) : queuesBounded (b.set i y) := by
  cases i
  · exact ⟨hy, h.2⟩
  · exact ⟨h.1, hy⟩

/-! ### One queue -/

@[simp] theorem Traffic.bounded_mk (w : List HostRequest) (b : Option Transaction) (a i r n p f t l) :
    (Traffic.mk w b a i r n p f t l).bounded ↔ w.length + hostsOnBus b ≤ 4 := Iff.rfl
@[simp] theorem Traffic.bounded.sum {t : Traffic} (h : t.bounded) :
    t.waiting.length + hostsOnBus t.bus ≤ 4 := h
@[simp] theorem Traffic.bounded.waiting {t : Traffic} (h : t.bounded) : t.waiting.length ≤ 4 := by
  have := h.sum
  omega
@[simp] theorem hostsOnBus_none : hostsOnBus none = 0 := rfl
theorem hostsOnBus_le (b : Option Transaction) : hostsOnBus b ≤ 1 := by
  unfold hostsOnBus
  (repeat' split) <;> simp
@[simp] theorem hostsOnBus_limit (b : Option Transaction) (f : Timer → Timer) :
    hostsOnBus (b.map fun x => { x with limit := f x.limit }) = hostsOnBus b := by
  cases b <;> rfl
@[simp] theorem hostsOnBus_redirect (b : Option Transaction) (d : ReverifyDest) :
    hostsOnBus (b.map fun x => { x with owner := x.owner.redirect d }) = hostsOnBus b := by
  cases b with
  | none => rfl
  | some x => rcases x with ⟨o, _, _, _, _, _, _⟩; cases o <;> try rfl
              rename_i e; cases e <;> rfl
@[simp] theorem hostsOnBus_discarded (b : Option Transaction) :
    hostsOnBus (b.map fun x => { x with owner := x.owner.discarded }) = hostsOnBus b := by
  cases b with
  | none => rfl
  | some x => rcases x with ⟨o, _, _, _, _, _, _⟩; cases o <;> rfl
@[simp] theorem hostsOnBus_host (p : Policy) (r : HostRequest) :
    hostsOnBus (some (hostTransaction p r)) = 1 := rfl
@[simp] theorem Traffic.settled_bounded {t : Traffic} (_ : t.bounded) : t.settled.bounded := by
  have := hostsOnBus_le t.bus
  simp [Traffic.settled]
  omega
@[simp] theorem Traffic.onMove_bounded {t : Traffic} (h : t.bounded) (p : Policy) (m : PartMode)
    (old new : BayState) : (t.onMove p m old new).bounded := by
  simp only [Traffic.onMove]
  (repeat' split) <;> simp [h]
@[simp] theorem Traffic.withdrawReverify_bounded {t : Traffic} (h : t.bounded) :
    t.withdrawReverify.bounded := by simp [Traffic.withdrawReverify, h]
@[simp] theorem Traffic.recordRemoved_bounded {t : Traffic} (h : t.bounded) :
    t.recordRemoved.bounded := by simp [Traffic.recordRemoved, h]
@[simp] theorem Traffic.controlReset_bounded (t : Traffic) : t.controlReset.bounded := by
  simp only [Traffic.controlReset, Traffic.bounded_mk]
  have := hostsOnBus_le (t.controlReset.bus)
  simp only [Traffic.controlReset] at this
  simp only [List.length_nil]
  omega
@[simp] theorem Traffic.fresh_bounded : Traffic.fresh.bounded := by simp [Traffic.fresh]
@[simp] theorem Traffic.afterFullReset_bounded (n : BayState) :
    (Traffic.afterFullReset n).bounded := by simp [Traffic.afterFullReset, Traffic.fresh]
@[simp] theorem Bay.modeChanged_bounded {y : Bay} (h : y.traffic.bounded) (p : Policy)
    (m n : PartMode) : (Bay.modeChanged p m n y).traffic.bounded := by
  simp only [Bay.modeChanged]
  (repeat' split) <;> simp [h]
@[simp] theorem Bay.tick_bounded {y : Bay} (h : y.traffic.bounded) : y.tick.traffic.bounded := by
  simp [Bay.tick, h]
theorem takeEligible_length (mask : BitVec 4) (q : List HostRequest) {r : HostRequest}
    {rest : List HostRequest} (h : takeEligible mask q = some (r, rest)) :
    rest.length + 1 = q.length := by
  induction q generalizing rest with
  | nil => simp [takeEligible] at h
  | cons x xs ih =>
    simp only [takeEligible] at h
    split at h
    · simp only [Option.map_eq_some_iff] at h
      obtain ⟨⟨r', rest'⟩, h1, h2⟩ := h
      simp only [Prod.mk.injEq] at h2
      obtain ⟨rfl, rfl⟩ := h2
      simp [ih h1]
    · simp_all
@[simp] theorem State.bay_traffic_bounded {s : State} (h : queuesBounded s.bays) (i : BayId) :
    (s.bay i).traffic.bounded := h.get i

/-! ### Operations -/

@[simp] theorem State.syncPins_queues {s : State} (h : queuesBounded s.bays) :
    queuesBounded (State.syncPins s).bays := by
  simp only [State.syncPins]
  (repeat' split) <;> simp (maxDischargeDepth := 12) [h]

@[simp] theorem State.setReasons_queues {s : State} (i : BayId) (f : LockReasons → LockReasons) (h : queuesBounded s.bays) :
    queuesBounded (State.setReasons s i f).bays := by
  simp only [State.setReasons]
  simp (maxDischargeDepth := 12) [h]

@[simp] theorem State.settleSilent_queues {s : State} (i : BayId) (h : queuesBounded s.bays) :
    queuesBounded (State.settleSilent s i).bays := by
  simp only [State.settleSilent]
  simp (maxDischargeDepth := 12) [h]

@[simp] theorem State.settleEmpty_queues {s : State} (i : BayId) (h : queuesBounded s.bays) :
    queuesBounded (State.settleEmpty s i).bays := by
  simp only [State.settleEmpty]
  (repeat' split) <;> simp (maxDischargeDepth := 12) [h]

@[simp] theorem State.moveBay_queues {s : State} (i : BayId) (new : BayState) (h : queuesBounded s.bays) :
    queuesBounded (State.moveBay s i new).bays := by
  simp only [State.moveBay]
  (repeat' split) <;> simp (maxDischargeDepth := 12) [h]

@[simp] theorem State.onIndications_queues {s : State} (i : BayId) (f : Bay → Bay)
    (hf : (f (s.bays.get i)).traffic.bounded) (h : queuesBounded s.bays) :
    queuesBounded (s.onIndications i f).bays := by
  simp [State.onIndications, h, hf]

@[simp] theorem State.enterIdentifying_queues {s : State} (i : BayId) (h : queuesBounded s.bays) :
    queuesBounded (State.enterIdentifying s i).bays := by
  simp only [State.enterIdentifying]
  simp (maxDischargeDepth := 12) [h]

@[simp] theorem State.startSettle_queues {s : State} (i : BayId) (h : queuesBounded s.bays) :
    queuesBounded (State.startSettle s i).bays := by
  simp only [State.startSettle]
  simp (maxDischargeDepth := 12) [h]

@[simp] theorem State.startRelease_queues {s : State} (i : BayId) (h : queuesBounded s.bays) :
    queuesBounded (State.startRelease s i).bays := by
  simp only [State.startRelease]
  simp (maxDischargeDepth := 12) [h]

@[simp] theorem State.contactArrival_queues {s : State} (i : BayId) (h : queuesBounded s.bays) :
    queuesBounded (State.contactArrival s i).bays := by
  simp only [State.contactArrival]
  (repeat' split) <;> simp (maxDischargeDepth := 12) [h]

@[simp] theorem State.contactLoss_queues {s : State} (i : BayId) (h : queuesBounded s.bays) :
    queuesBounded (State.contactLoss s i).bays := by
  simp only [State.contactLoss]
  (repeat' split) <;> simp (maxDischargeDepth := 12) [h]

@[simp] theorem State.takeCheck_queues {s : State} (i : BayId) (h : queuesBounded s.bays) :
    queuesBounded (State.takeCheck s i).bays := by
  simp only [State.takeCheck]
  simp (maxDischargeDepth := 12) [h]

@[simp] theorem State.readmissionTest_queues {s : State} (i : BayId) (h : queuesBounded s.bays) :
    queuesBounded (State.readmissionTest s i).bays := by
  simp only [State.readmissionTest]
  (repeat' split) <;> simp (maxDischargeDepth := 12) [h]

@[simp] theorem State.identificationDone_queues {s : State} (i : BayId) (h : queuesBounded s.bays) :
    queuesBounded (State.identificationDone s i).bays := by
  simp only [State.identificationDone]
  (repeat' split) <;> simp (maxDischargeDepth := 12) [h]

@[simp] theorem State.tableIncomplete_queues {s : State} (i : BayId) (h : queuesBounded s.bays) :
    queuesBounded (State.tableIncomplete s i).bays := by
  simp only [State.tableIncomplete]
  simp (maxDischargeDepth := 12) [h]

@[simp] theorem State.alarmWritten_queues {s : State} (i : BayId) (h : queuesBounded s.bays) :
    queuesBounded (State.alarmWritten s i).bays := by
  simp only [State.alarmWritten]
  (repeat' split) <;> simp (maxDischargeDepth := 12) [h]

@[simp] theorem State.takeTrip_queues {s : State} (i : BayId) (h : queuesBounded s.bays) :
    queuesBounded (State.takeTrip s i).bays := by
  simp only [State.takeTrip]
  simp (maxDischargeDepth := 12) [h]

@[simp] theorem State.tripRaised_queues {s : State} (i : BayId) (h : queuesBounded s.bays) :
    queuesBounded (State.tripRaised s i).bays := by
  simp only [State.tripRaised]
  (repeat' split) <;> simp (maxDischargeDepth := 12) [h]

@[simp] theorem State.raiseTrip_queues {s : State} (i : BayId) (h : queuesBounded s.bays) :
    queuesBounded (State.raiseTrip s i).bays := by
  simp only [State.raiseTrip]
  (repeat' split) <;> simp (maxDischargeDepth := 12) [h]

@[simp] theorem State.countFailure_queues {s : State} (i : BayId) (h : queuesBounded s.bays) :
    queuesBounded (State.countFailure s i).bays := by
  simp only [State.countFailure]
  (repeat' split) <;> simp (maxDischargeDepth := 12) [h]

@[simp] theorem State.countAck_queues {s : State} (i : BayId) (h : queuesBounded s.bays) :
    queuesBounded (State.countAck s i).bays := by
  simp only [State.countAck]
  (repeat' split) <;> simp (maxDischargeDepth := 12) [h]

@[simp] theorem State.lockoutLimitWritten_queues {s : State} (i : BayId) (h : queuesBounded s.bays) :
    queuesBounded (State.lockoutLimitWritten s i).bays := by
  simp only [State.lockoutLimitWritten]
  (repeat' split) <;> simp (maxDischargeDepth := 12) [h]

@[simp] theorem State.endDeferral_queues {s : State} (i : BayId) (h : queuesBounded s.bays) :
    queuesBounded (State.endDeferral s i).bays := by
  simp only [State.endDeferral]
  (repeat' split) <;> simp (maxDischargeDepth := 12) [h]

@[simp] theorem State.selectDischarge_queues {s : State} (h : queuesBounded s.bays) :
    queuesBounded (State.selectDischarge s).bays := by
  simp only [State.selectDischarge]
  (repeat' split) <;> simp (maxDischargeDepth := 12) [h]

@[simp] theorem State.selectCharge_queues {s : State} (h : queuesBounded s.bays) :
    queuesBounded (State.selectCharge s).bays := by
  simp only [State.selectCharge]
  simp (maxDischargeDepth := 12) [h]

@[simp] theorem State.setLastSupply_queues (base : LockReasons → LockReasons) {s : State} (h : queuesBounded s.bays) :
    queuesBounded (State.setLastSupply base s).bays := by
  simp only [State.setLastSupply]
  simp (maxDischargeDepth := 12) [h]

@[simp] theorem State.reevaluate_queues (ev : SupplyEvent) {s : State} (h : queuesBounded s.bays) :
    queuesBounded (State.reevaluate ev s).bays := by
  simp only [State.reevaluate]
  simp (maxDischargeDepth := 12) [h]

@[simp] theorem State.closeEventIn_queues (x0 : Nat) {s : State} (h : queuesBounded s.bays) :
    queuesBounded (State.closeEventIn x0 s).bays := by
  induction x0 generalizing s with
  | zero => simpa [State.closeEventIn] using h
  | succ n ih =>
    simp only [State.closeEventIn]
    split
    · exact h
    · exact ih (by simp (maxDischargeDepth := 12) [h])

@[simp] theorem State.closeEvent_queues {s : State} (h : queuesBounded s.bays) :
    queuesBounded (State.closeEvent s).bays := by
  simp (maxDischargeDepth := 12) [State.closeEvent, h]


theorem State.serveMaintenance_queues {s : State} (i : BayId) (_ : (s.bay i).traffic.bus = none)
    (h : queuesBounded s.bays) : queuesBounded (s.serveMaintenance i).1.bays := by
  have hw : (s.bays.get i).traffic.waiting.length ≤ 4 := (h.get i).waiting
  have hs : (s.bays.get i).traffic.waiting.length + hostsOnBus (s.bays.get i).traffic.bus ≤ 4 :=
    (h.get i).sum
  simp only [State.serveMaintenance]
  (repeat' split) <;>
    simp (maxDischargeDepth := 12) [h, State.grant, ownTransaction, hostsOnBus, hw]
  all_goals exact h.set i hs

@[simp] theorem State.arbitrateOnce_queues {s : State} (i : BayId) (h : queuesBounded s.bays) :
    queuesBounded (s.arbitrateOnce i).1.bays := by
  simp only [State.arbitrateOnce]
  split
  · exact h
  · rename_i hb
    have hn : (s.bay i).traffic.bus = none := by
      simp only [arbiterBlocked, Bool.or_eq_true, not_or] at hb
      simpa using hb.1.1
    have hw : (s.bays.get i).traffic.waiting.length ≤ 4 := (h.get i).waiting
    split
    · split <;> simp [h, State.grant, ownTransaction, hostsOnBus, hw]
      exact h.set i (h.get i).sum
    · split
      · rename_i r rest hq
        split
        · exact State.serveMaintenance_queues i hn h
        · have := takeEligible_length _ _ hq
          have hw' : (s.bay i).traffic.waiting.length ≤ 4 := hw
          simp [h, State.grant]
          apply h.set
          simp
          omega
      · exact State.serveMaintenance_queues i hn h

@[simp] theorem State.arbitrateIn_queues (i : BayId) (x0 : Nat) {s : State} (h : queuesBounded s.bays) :
    queuesBounded (State.arbitrateIn i x0 s).bays := by
  induction x0 generalizing s with
  | zero => simpa [State.arbitrateIn] using h
  | succ n ih =>
    simp only [State.arbitrateIn]
    split
    · simp (maxDischargeDepth := 12) [h]
    · exact ih (by simp (maxDischargeDepth := 12) [h])

@[simp] theorem State.arbitrate_queues {s : State} (i : BayId) (h : queuesBounded s.bays) :
    queuesBounded (State.arbitrate s i).bays := by
  simp (maxDischargeDepth := 12) [State.arbitrate, h]

@[simp] theorem State.arbitrateBoth_queues {s : State} (h : queuesBounded s.bays) :
    queuesBounded (State.arbitrateBoth s).bays := by
  simp only [State.arbitrateBoth]
  simp (maxDischargeDepth := 12) [h]

@[simp] theorem State.requestReverify_queues {s : State} (i : BayId) (h : queuesBounded s.bays) :
    queuesBounded (State.requestReverify s i).bays := by
  simp only [State.requestReverify]
  (repeat' split) <;> simp (maxDischargeDepth := 12) [h]

@[simp] theorem State.writeRecord_queues {s : State} (i : BayId) (f : SnoopField) (v : Nat) (h : queuesBounded s.bays) :
    queuesBounded (State.writeRecord s i f v).bays := by
  simp only [State.writeRecord]
  (repeat' split) <;> simp (maxDischargeDepth := 12) [h]

@[simp] theorem State.snoop_queues {s : State} (i : BayId) (f : SnoopField) (data : List Byte) (h : queuesBounded s.bays) :
    queuesBounded (State.snoop s i f data).bays := by
  simp only [State.snoop]
  (repeat' split) <;> simp (maxDischargeDepth := 12) [h]

@[simp] theorem State.identificationRead_queues {s : State} (i : BayId) (n : Nat) (data : List Byte) (h : queuesBounded s.bays) :
    queuesBounded (State.identificationRead s i n data).bays := by
  simp only [State.identificationRead]
  (repeat' split) <;> simp (maxDischargeDepth := 12) [h]

@[simp] theorem State.endRound_queues {s : State} (i : BayId) (h : queuesBounded s.bays) :
    queuesBounded (State.endRound s i).bays := by
  simp only [State.endRound]
  (repeat' split) <;> simp (maxDischargeDepth := 12) [h]

@[simp] theorem State.reverifyRead_queues {s : State} (i : BayId) (dest : ReverifyDest) (data : List Byte) (h : queuesBounded s.bays) :
    queuesBounded (State.reverifyRead s i dest data).bays := by
  simp only [State.reverifyRead]
  (repeat' split) <;> simp (maxDischargeDepth := 12) [h]

@[simp] theorem State.pollRead_queues {s : State} (i : BayId) (f : SnoopField) (data : List Byte) (h : queuesBounded s.bays) :
    queuesBounded (State.pollRead s i f data).bays := by
  simp only [State.pollRead]
  (repeat' split) <;> simp (maxDischargeDepth := 12) [h]

@[simp] theorem State.alertRead_queues {s : State} (i : BayId) (data : List Byte) (h : queuesBounded s.bays) :
    queuesBounded (State.alertRead s i data).bays := by
  simp only [State.alertRead]
  (repeat' split) <;> simp (maxDischargeDepth := 12) [h]

@[simp] theorem State.acknowledged_queues {s : State} (i : BayId) (x : Transaction) (data : List Byte) (h : queuesBounded s.bays) :
    queuesBounded (State.acknowledged s i x data).bays := by
  simp only [State.acknowledged]
  (repeat' split) <;> simp (maxDischargeDepth := 12) [h]

@[simp] theorem State.failed_queues {s : State} (i : BayId) (x : Transaction) (o : Answer) (h : queuesBounded s.bays) :
    queuesBounded (State.failed s i x o).bays := by
  simp only [State.failed]
  (repeat' split) <;> simp (maxDischargeDepth := 12) [h]

@[simp] theorem State.complete_queues {s : State} (i : BayId) (e : Ending) (h : queuesBounded s.bays) :
    queuesBounded (State.complete s i e).bays := by
  simp only [State.complete]
  (repeat' split) <;> simp (maxDischargeDepth := 12) [h]

@[simp] theorem State.admitRequest_queues {s : State} (i : BayId) (k : Lookup) (r : HostRequest)
    (h : queuesBounded s.bays) : queuesBounded (s.admitRequest i k r).bays := by
  simp only [State.admitRequest]
  split
  · simp [h]
  · split
    · simp [h]
    · split
      · simp [h]
      · rename_i hq
        apply State.arbitrate_queues
        simp only [State.onTraffic_bays]
        apply h.set
        simp only [Traffic.queueLength, Config.queueCapacity, Nat.not_le] at hq
        have hq' : (s.bays.get i).traffic.waiting.length
          + hostsOnBus (s.bays.get i).traffic.bus < 4 := hq
        simp
        omega

@[simp] theorem State.packRequest_queues {s : State} (i : BayId) (tag : Byte) (offset : Half) (write : Bool) (count : Nat) (data : List Byte) (h : queuesBounded s.bays) :
    queuesBounded (State.packRequest s i tag offset write count data).bays := by
  simp only [State.packRequest]
  (repeat' split) <;> simp (maxDischargeDepth := 12) [h]

@[simp] theorem State.takeLock_queues {s : State} (h : queuesBounded s.bays) :
    queuesBounded (State.takeLock s).bays := by
  simp only [State.takeLock]
  simp (maxDischargeDepth := 12) [h]

@[simp] theorem State.takeFreeze_queues {s : State} (h : queuesBounded s.bays) :
    queuesBounded (State.takeFreeze s).bays := by
  simp only [State.takeFreeze]
  simp (maxDischargeDepth := 12) [h]

@[simp] theorem State.takeSuspect_queues {s : State} (h : queuesBounded s.bays) :
    queuesBounded (State.takeSuspect s).bays := by
  simp only [State.takeSuspect]
  (repeat' split) <;> simp (maxDischargeDepth := 12) [h]

@[simp] theorem State.takeTrigger_queues {s : State} (t : Trigger) (h : queuesBounded s.bays) :
    queuesBounded (State.takeTrigger s t).bays := by
  simp only [State.takeTrigger]
  (repeat' split) <;> simp (maxDischargeDepth := 12) [h]

@[simp] theorem State.interruptedClose_queues {s : State} (h : queuesBounded s.bays) :
    queuesBounded (State.interruptedClose s).bays := by
  simp only [State.interruptedClose]
  (repeat' split) <;> simp (maxDischargeDepth := 12) [h]

@[simp] theorem State.createRecord_queues {s : State} (r : DropReport) (h : queuesBounded s.bays) :
    queuesBounded (State.createRecord s r).bays := by
  simp only [State.createRecord]
  (repeat' split) <;> simp (maxDischargeDepth := 12) [h]

@[simp] theorem State.recordEnded_queues {s : State} (h : queuesBounded s.bays) :
    queuesBounded (State.recordEnded s).bays := by
  simp only [State.recordEnded]
  simp (maxDischargeDepth := 12) [h]

@[simp] theorem State.clearLog_queues {s : State} (h : queuesBounded s.bays) :
    queuesBounded (State.clearLog s).bays := by
  simp only [State.clearLog]
  simp (maxDischargeDepth := 12) [h]

@[simp] theorem State.guardLeavesCalm_queues {s : State} (h : queuesBounded s.bays) :
    queuesBounded (State.guardLeavesCalm s).bays := by
  simp only [State.guardLeavesCalm]
  simp (maxDischargeDepth := 12) [h]

@[simp] theorem State.withdrawLock_queues {s : State} (h : queuesBounded s.bays) :
    queuesBounded (State.withdrawLock s).bays := by
  simp only [State.withdrawLock]
  (repeat' split) <;> simp (maxDischargeDepth := 12) [h]

@[simp] theorem State.withdrawHold_queues {s : State} (h : queuesBounded s.bays) :
    queuesBounded (State.withdrawHold s).bays := by
  simp only [State.withdrawHold]
  (repeat' split) <;> simp (maxDischargeDepth := 12) [h]

@[simp] theorem State.withdrawRest_queues {s : State} (h : queuesBounded s.bays) :
    queuesBounded (State.withdrawRest s).bays := by
  simp only [State.withdrawRest]
  simp (maxDischargeDepth := 12) [h]

@[simp] theorem State.verifyBay_queues {s : State} (i : BayId) (atSnapshot : BayState) (h : queuesBounded s.bays) :
    queuesBounded (State.verifyBay s i atSnapshot).bays := by
  simp only [State.verifyBay]
  (repeat' split) <;> simp (maxDischargeDepth := 12) [h]

@[simp] theorem State.startReverify_queues {s : State} (h : queuesBounded s.bays) :
    queuesBounded (State.startReverify s).bays := by
  simp only [State.startReverify]
  (repeat' split) <;> simp (maxDischargeDepth := 12) [h]

@[simp] theorem State.dropReturn_queues {s : State} (h : queuesBounded s.bays) :
    queuesBounded (State.dropReturn s).bays := by
  simp only [State.dropReturn]
  simp (maxDischargeDepth := 12) [h]

@[simp] theorem State.returnFilters_queues {s : State} (i : BayId) (h : queuesBounded s.bays) :
    queuesBounded (State.returnFilters s i).bays := by
  simp only [State.returnFilters]
  (repeat' split) <;> simp (maxDischargeDepth := 12) [h]

@[simp] theorem State.returnDecision_queues {s : State} (i : BayId) (h : queuesBounded s.bays) :
    queuesBounded (State.returnDecision s i).bays := by
  simp only [State.returnDecision]
  (repeat' split) <;> simp (maxDischargeDepth := 12) [h]

@[simp] theorem State.returnOnline_queues {s : State} (i : BayId) (h : queuesBounded s.bays) :
    queuesBounded (State.returnOnline s i).bays := by
  simp only [State.returnOnline]
  (repeat' split) <;> simp (maxDischargeDepth := 12) [h]

@[simp] theorem State.returnReadmission_queues {s : State} (i : BayId) (h : queuesBounded s.bays) :
    queuesBounded (State.returnReadmission s i).bays := by
  simp only [State.returnReadmission]
  (repeat' split) <;> simp (maxDischargeDepth := 12) [h]

@[simp] theorem State.bayReturn_queues {s : State} (i : BayId) (h : queuesBounded s.bays) :
    queuesBounded (State.bayReturn s i).bays := by
  simp only [State.bayReturn]
  simp (maxDischargeDepth := 12) [h]

@[simp] theorem State.baysReturn_queues {s : State} (h : queuesBounded s.bays) :
    queuesBounded (State.baysReturn s).bays := by
  simp only [State.baysReturn]
  simp (maxDischargeDepth := 12) [h]

@[simp] theorem State.returnAtBlocks_queues {s : State} (h : queuesBounded s.bays) :
    queuesBounded (State.returnAtBlocks s).bays := by
  simp only [State.returnAtBlocks]
  (repeat' split) <;> simp (maxDischargeDepth := 12) [h]

@[simp] theorem State.returnToCalm_queues {s : State} (h : queuesBounded s.bays) :
    queuesBounded (State.returnToCalm s).bays := by
  simp only [State.returnToCalm]
  simp (maxDischargeDepth := 12) [h]

@[simp] theorem State.afterWindow_queues {s : State} (lost : Bool) (h : queuesBounded s.bays) :
    queuesBounded (State.afterWindow s lost).bays := by
  simp only [State.afterWindow]
  (repeat' split) <;> simp (maxDischargeDepth := 12) [h]

@[simp] theorem State.firstWindowEnd_queues {s : State} (lost : Bool) (kind : ImpactKind) (peak : Accel3) (h : queuesBounded s.bays) :
    queuesBounded (State.firstWindowEnd s lost kind peak).bays := by
  simp only [State.firstWindowEnd]
  (repeat' split) <;> simp (maxDischargeDepth := 12) [h]

@[simp] theorem State.laterWindowEnd_queues {s : State} (lost : Bool) (kind : ImpactKind)
    (was : Severity) (old peak : Accel3) (h : queuesBounded s.bays) :
    queuesBounded (State.laterWindowEnd s lost kind was old peak).bays := by
  simp only [State.laterWindowEnd]
  (repeat' split) <;> simp (maxDischargeDepth := 12) [h]

@[simp] theorem State.windowEnd_queues {s : State} (lost : Bool) (h : queuesBounded s.bays) :
    queuesBounded (State.windowEnd s lost).bays := by
  simp only [State.windowEnd]
  (repeat' split) <;> simp (maxDischargeDepth := 12) [h]

@[simp] theorem State.reportFall_queues {s : State} (kind : RecordKind) (samples : Nat) (h : queuesBounded s.bays) :
    queuesBounded (State.reportFall s kind samples).bays := by
  simp only [State.reportFall]
  simp (maxDischargeDepth := 12) [h]

@[simp] theorem State.caught_queues {s : State} (samples : Nat) (h : queuesBounded s.bays) :
    queuesBounded (State.caught s samples).bays := by
  simp only [State.caught]
  (repeat' split) <;> simp (maxDischargeDepth := 12) [h]

@[simp] theorem State.calmSample_queues {s : State} (a : Accel3) (h : queuesBounded s.bays) :
    queuesBounded (State.calmSample s a).bays := by
  simp only [State.calmSample]
  (repeat' split) <;> simp (maxDischargeDepth := 12) [h]

@[simp] theorem State.fallingSample_queues {s : State} (a : Accel3) (h : queuesBounded s.bays) :
    queuesBounded (State.fallingSample s a).bays := by
  simp only [State.fallingSample]
  (repeat' split) <;> simp (maxDischargeDepth := 12) [h]

@[simp] theorem State.impactSample_queues {s : State} (a : Accel3) (h : queuesBounded s.bays) :
    queuesBounded (State.impactSample s a).bays := by
  simp only [State.impactSample]
  (repeat' split) <;> simp (maxDischargeDepth := 12) [h]

@[simp] theorem State.settlingSample_queues {s : State} (a : Accel3) (h : queuesBounded s.bays) :
    queuesBounded (State.settlingSample s a).bays := by
  simp only [State.settlingSample]
  (repeat' split) <;> simp (maxDischargeDepth := 12) [h]

@[simp] theorem State.guardSample_queues {s : State} (a : Accel3) (h : queuesBounded s.bays) :
    queuesBounded (State.guardSample s a).bays := by
  simp only [State.guardSample]
  (repeat' split) <;> simp (maxDischargeDepth := 12) [h]

@[simp] theorem State.acceptAccel_queues {s : State} (x y z : Int) (injected : Bool) (h : queuesBounded s.bays) :
    queuesBounded (State.acceptAccel s x y z injected).bays := by
  simp only [State.acceptAccel]
  simp (maxDischargeDepth := 12) [h]

@[simp] theorem State.accelArrival_queues {s : State} (x y z : Int) (h : queuesBounded s.bays) :
    queuesBounded (State.accelArrival s x y z).bays := by
  simp only [State.accelArrival]
  (repeat' split) <;> simp (maxDischargeDepth := 12) [h]

@[simp] theorem State.accelInjected_queues {s : State} (x y z : Int) (h : queuesBounded s.bays) :
    queuesBounded (State.accelInjected s x y z).bays := by
  simp only [State.accelInjected]
  simp (maxDischargeDepth := 12) [h]

@[simp] theorem State.guardLoss_queues {s : State} (h : queuesBounded s.bays) :
    queuesBounded (State.guardLoss s).bays := by
  simp only [State.guardLoss]
  (repeat' split) <;> simp (maxDischargeDepth := 12) [h]

@[simp] theorem State.accelStale_queues {s : State} (h : queuesBounded s.bays) :
    queuesBounded (State.accelStale s).bays := by
  simp only [State.accelStale]
  simp (maxDischargeDepth := 12) [h]

@[simp] theorem State.setMode_queues {s : State} (m : PartMode) (h : queuesBounded s.bays) :
    queuesBounded (State.setMode s m).bays := by
  simp only [State.setMode]
  (repeat' split) <;> simp (maxDischargeDepth := 12) [h]

@[simp] theorem State.wakeByTraffic_queues {s : State} (h : queuesBounded s.bays) :
    queuesBounded (State.wakeByTraffic s).bays := by
  simp only [State.wakeByTraffic]
  (repeat' split) <;> simp (maxDischargeDepth := 12) [h]

@[simp] theorem State.setStimulus_queues {s : State} (u : Streams) (h : queuesBounded s.bays) :
    queuesBounded (State.setStimulus s u).bays := by
  simp only [State.setStimulus]
  (repeat' split) <;> simp (maxDischargeDepth := 12) [h]

@[simp] theorem State.writeStimulus_queues {s : State} (on : Bool) (sources : BitVec 3) (drives : Bool) (h : queuesBounded s.bays) :
    queuesBounded (State.writeStimulus s on sources drives).bays := by
  simp only [State.writeStimulus]
  simp (maxDischargeDepth := 12) [h]

@[simp] theorem Setting.put_queues (bs : List Byte) {s : State} (x0 : Setting) (h : queuesBounded s.bays) :
    queuesBounded (Setting.put bs s x0).bays := by
  cases x0 <;> simp only [Setting.put] <;> (repeat' split) <;> simp (maxDischargeDepth := 12) [h]

@[simp] theorem State.panelWritten_queues {s : State} (lMaxWritten : Bool) (h : queuesBounded s.bays) :
    queuesBounded (State.panelWritten s lMaxWritten).bays := by
  simp only [State.panelWritten]
  (repeat' split) <;> simp (maxDischargeDepth := 12) [h]

@[simp] theorem State.afterPuts_queues {s : State} (xs : List Setting) (h : queuesBounded s.bays) :
    queuesBounded (State.afterPuts s xs).bays := by
  simp only [State.afterPuts]
  (repeat' split) <;> simp (maxDischargeDepth := 12) [h]

@[simp] theorem State.putAll_queues (x0 : List (Setting × List Byte)) {s : State} (h : queuesBounded s.bays) :
    queuesBounded (State.putAll x0 s).bays := by
  induction x0 generalizing s with
  | nil => simpa [State.putAll] using h
  | cons x xs ih => exact ih (by simp (maxDischargeDepth := 12) [h])

@[simp] theorem State.takeFields_queues {s : State} (sp : Space) (clears : Half)
    (xs : List (Setting × List Byte)) (h : queuesBounded s.bays) :
    queuesBounded (State.takeFields s sp clears xs).1.bays := by
  simp only [State.takeFields]
  (repeat' split) <;> simp (maxDischargeDepth := 12) [h]

@[simp] theorem State.senseContact_queues {s : State} (i : BayId) (h : queuesBounded s.bays) :
    queuesBounded (State.senseContact s i).bays := by
  simp only [State.senseContact]
  (repeat' split) <;> simp (maxDischargeDepth := 12) [h]

@[simp] theorem State.powerOn_queues (s : State) : queuesBounded s.powerOn.bays := by
  simp (maxDischargeDepth := 12) [State.powerOn, State.atPowerOn, Bay.fresh]

@[simp] theorem State.fullResetBlocks_queues (s : State) :
    queuesBounded s.fullResetBlocks.bays := by
  simp [State.fullResetBlocks, Bay.fullReset]

@[simp] theorem State.fullResetSupply_queues {s : State} (h : queuesBounded s.bays) :
    queuesBounded (State.fullResetSupply s).bays := by
  simp only [State.fullResetSupply]
  simp (maxDischargeDepth := 12) [h]

@[simp] theorem State.leftReleasing_queues {s : State} (i : BayId) (before : BayState) (h : queuesBounded s.bays) :
    queuesBounded (State.leftReleasing s i before).bays := by
  simp only [State.leftReleasing]
  (repeat' split) <;> simp (maxDischargeDepth := 12) [h]

@[simp] theorem State.fullReset_queues {s : State} (_ : queuesBounded s.bays) :
    queuesBounded (State.fullReset s).bays := by
  simp only [State.fullReset]
  simp (maxDischargeDepth := 12)

@[simp] theorem State.controlReset_queues {s : State} (_ : queuesBounded s.bays) :
    queuesBounded (State.controlReset s).bays := by
  simp only [State.controlReset]
  simp (maxDischargeDepth := 12)

@[simp] theorem State.readmit_queues {s : State} (i : BayId) (h : queuesBounded s.bays) :
    queuesBounded (State.readmit s i).1.bays := by
  simp only [State.readmit]
  (repeat' split) <;> simp (maxDischargeDepth := 12) [h]

@[simp] theorem State.clearInhibit_queues {s : State} (i : BayId) (h : queuesBounded s.bays) :
    queuesBounded (State.clearInhibit s i).1.bays := by
  simp only [State.clearInhibit]
  (repeat' split) <;> simp (maxDischargeDepth := 12) [h]

@[simp] theorem State.clearSuspect_queues {s : State} (i : BayId) (h : queuesBounded s.bays) :
    queuesBounded (State.clearSuspect s i).1.bays := by
  simp only [State.clearSuspect]
  (repeat' split) <;> simp (maxDischargeDepth := 12) [h]

@[simp] theorem State.hostLock_queues {s : State} (i : BayId) (held : Bool) (h : queuesBounded s.bays) :
    queuesBounded (State.hostLock s i held).1.bays := by
  simp only [State.hostLock]
  simp (maxDischargeDepth := 12) [h]

@[simp] theorem State.act_queues {s : State} (i : BayId) (x0 : Action) (h : queuesBounded s.bays) :
    queuesBounded (State.act s i x0).1.bays := by
  cases x0 <;> simp only [State.act] <;> simp (maxDischargeDepth := 12) [h]

@[simp] theorem State.writeAction_queues {s : State} (sp : Space) (data : List Byte) (h : queuesBounded s.bays) :
    queuesBounded (State.writeAction s sp data).1.bays := by
  simp only [State.writeAction]
  (repeat' split) <;> simp (maxDischargeDepth := 12) [h]

@[simp] theorem conclude_queues (sp : Space) (p : Packet) (r : State × Answer) (h : queuesBounded r.1.bays) :
    queuesBounded (conclude sp p r).bays := by
  simp only [conclude]
  simp (maxDischargeDepth := 12) [h]

@[simp] theorem State.writeSpace_queues {s : State} (sp : Space) (p : Packet) (data : List Byte) (h : queuesBounded s.bays) :
    queuesBounded (State.writeSpace s sp p data).bays := by
  simp only [State.writeSpace]
  (repeat' split) <;> simp (maxDischargeDepth := 12) [h]

@[simp] theorem State.modeRequest_queues {s : State} (p : Packet) (h : queuesBounded s.bays) :
    queuesBounded (State.modeRequest s p).bays := by
  simp only [State.modeRequest]
  (repeat' split) <;> simp (maxDischargeDepth := 12) [h]

@[simp] theorem State.resetRequest_queues {s : State} (p : Packet) (h : queuesBounded s.bays) :
    queuesBounded (State.resetRequest s p).bays := by
  simp only [State.resetRequest]
  (repeat' split) <;> simp (maxDischargeDepth := 12) [h]

@[simp] theorem State.readRequest_queues {s : State} (p : Packet) (count : Nat) (h : queuesBounded s.bays) :
    queuesBounded (State.readRequest s p count).bays := by
  simp only [State.readRequest]
  (repeat' split) <;> simp (maxDischargeDepth := 12) [h]

@[simp] theorem State.writeRequest_queues {s : State} (p : Packet) (data : List Byte) (h : queuesBounded s.bays) :
    queuesBounded (State.writeRequest s p data).bays := by
  simp only [State.writeRequest]
  (repeat' split) <;> simp (maxDischargeDepth := 12) [h]

@[simp] theorem State.dispatch_queues {s : State} (p : Packet) (h : queuesBounded s.bays) :
    queuesBounded (State.dispatch s p).bays := by
  simp only [State.dispatch]
  (repeat' split) <;> simp (maxDischargeDepth := 12) [h]

@[simp] theorem State.handlePacket_queues {s : State} (p : Packet) (h : queuesBounded s.bays) :
    queuesBounded (State.handlePacket s p).bays := by
  simp only [State.handlePacket]
  (repeat' split) <;> simp (maxDischargeDepth := 12) [h]

@[simp] theorem State.handOn_queues {s : State} (p : Packet) (h : queuesBounded s.bays) :
    queuesBounded (State.handOn s p).bays := by
  simp only [State.handOn]
  (repeat' split) <;> simp (maxDischargeDepth := 12) [h]

@[simp] theorem State.drain_queues (x0 : Nat) {s : State} (h : queuesBounded s.bays) :
    queuesBounded (State.drain x0 s).bays := by
  induction x0 generalizing s with
  | zero => simpa [State.drain] using h
  | succ n ih =>
    simp only [State.drain]
    split
    · exact h
    · split
      · exact h
      · exact ih (by simp (maxDischargeDepth := 12) [h])

@[simp] theorem State.takeSample_queues {s : State} (x0 : InjectedSample) (h : queuesBounded s.bays) :
    queuesBounded (State.takeSample s x0).bays := by
  cases x0 <;> simp only [State.takeSample] <;> simp (maxDischargeDepth := 12) [h]

@[simp] theorem State.finishInject_queues {s : State} (w : InjectWork) (h : queuesBounded s.bays) :
    queuesBounded (State.finishInject s w).bays := by
  simp only [State.finishInject]
  simp (maxDischargeDepth := 12) [h]

@[simp] theorem State.injectedSample_queues {s : State} (h : queuesBounded s.bays) :
    queuesBounded (State.injectedSample s).bays := by
  simp only [State.injectedSample]
  (repeat' split) <;> simp (maxDischargeDepth := 12) [h]

@[simp] theorem State.receiveByte_queues {s : State} (b : RxByte) (h : queuesBounded s.bays) :
    queuesBounded (State.receiveByte s b).bays := by
  simp only [State.receiveByte]
  (repeat' split) <;> simp (maxDischargeDepth := 12) [h]

@[simp] theorem State.receivePacket_queues {s : State} (p : Packet) (h : queuesBounded s.bays) :
    queuesBounded (State.receivePacket s p).bays := by
  simp only [State.receivePacket]
  (repeat' split) <;> simp (maxDischargeDepth := 12) [h]

@[simp] theorem State.tick_queues {s : State} (h : queuesBounded s.bays) :
    queuesBounded s.tick.bays := by
  simp [State.tick, h]

@[simp] theorem State.intentClosing_queues {s : State} (i : BayId) (h : queuesBounded s.bays) :
    queuesBounded (State.intentClosing s i).bays := by
  simp only [State.intentClosing]
  (repeat' split) <;> simp (maxDischargeDepth := 12) [h]

@[simp] theorem State.returnFromRelease_queues {s : State} (i : BayId) (h : queuesBounded s.bays) :
    queuesBounded (State.returnFromRelease s i).bays := by
  simp only [State.returnFromRelease]
  (repeat' split) <;> simp (maxDischargeDepth := 12) [h]

@[simp] theorem State.intentReopening_queues {s : State} (i : BayId) (h : queuesBounded s.bays) :
    queuesBounded (State.intentReopening s i).bays := by
  simp only [State.intentReopening]
  (repeat' split) <;> simp (maxDischargeDepth := 12) [h]

@[simp] theorem State.adapterChanged_queues {s : State} (a : Option (Fin 4)) (h : queuesBounded s.bays) :
    queuesBounded (State.adapterChanged s a).bays := by
  simp only [State.adapterChanged]
  simp (maxDischargeDepth := 12) [h]

end Sys2Proof.Machine
end

