-- ==== Sys2Proof/Laws/Requests.lean ====
section
/-!
SUPPORT. What the shared operations of the trunk link and of an event's end do, once each: a packet
received by a hub that takes it, an answer, a response, and an event that owes no re-evaluation.
-/

namespace Sys2Proof.Machine

@[simp] theorem State.heard_lines (s : State) : s.heard.lines = s.lines := rfl
@[simp] theorem State.heard_ctl (s : State) : s.heard.ctl = s.ctl := rfl
@[simp] theorem State.heard_flags (s : State) : s.heard.flags = s.flags := rfl
@[simp] theorem State.heard_bays (s : State) : s.heard.bays = s.bays := rfl
@[simp] theorem State.heard_bay (s : State) (i : BayId) : s.heard.bay i = s.bay i := rfl
@[simp] theorem State.heard_policy (s : State) : s.heard.policy = s.policy := rfl
@[simp] theorem State.heard_supply (s : State) : s.heard.supply = s.supply := rfl
@[simp] theorem State.heard_light (s : State) : s.heard.light = s.light := rfl
@[simp] theorem State.heard_back (s : State) : s.heard.back = s.back := rfl
@[simp] theorem State.heard_motion (s : State) : s.heard.motion = s.motion := rfl
@[simp] theorem State.heard_drop (s : State) : s.heard.drop = s.drop := rfl
@[simp] theorem State.heard_streams (s : State) : s.heard.streams = s.streams := rfl
@[simp] theorem State.heard_due (s : State) : s.heard.due = s.due := rfl
@[simp] theorem State.heard_inject (s : State) : s.heard.link.inject = s.link.inject := rfl
@[simp] theorem State.heard_responses (s : State) : s.heard.link.responses = s.link.responses := rfl
@[simp] theorem State.heard_clearMode (s : State) : s.heard.link.clearMode = s.link.clearMode := rfl

/-- An event that owes no re-evaluation ends as it stands. -/
theorem State.closeEvent_of_settled {s : State} (h : s.due = none) : s.closeEvent = s := by
  simp [State.closeEvent, State.closeEventIn, h]

/-- However an event ends, no re-evaluation is owed. -/
@[simp] theorem State.closeEventIn_due (n : Nat) (s : State) : (s.closeEventIn n).due = none := by
  induction n generalizing s with
  | zero => simp [State.closeEventIn, State.settled]
  | succ n ih =>
    simp only [State.closeEventIn]
    split
    · assumption
    · exact ih _

/-- However an event ends, no re-evaluation is owed. -/
@[simp] theorem State.closeEvent_due (s : State) : s.closeEvent.due = none :=
  State.closeEventIn_due 3 s

/-- A hub that takes packets dispatches a sound one of a request kind. -/
theorem State.receivePacket_taken {s : State} (h : s.Takes) {p : Packet}
    (hk : requestKind p.kind = true) (hl : p.len ≤ 38) :
    s.receivePacket p = s.heard.dispatch p := by
  have e : s.onLink Link.hunt = s.heard := rfl
  have hr : ¬ 8 ≤ s.link.responses.length := by
    have := h.room
    omega
  have hl' : ¬ 38 < p.len := by omega
  simp [State.receivePacket, State.handOn, State.handlePacket, State.wakeByTraffic, e, h.resetN,
    h.inject, h.awake, hk, hl', Config.responseCapacity, hr]

/-- An answer that sets no flag is its response. -/
@[simp] theorem State.answerFlags_ok (s : State) (sp : Space) : s.answerFlags sp .ok = s := rfl

/-- A request's effects and its answer where no re-evaluation is owed. -/
theorem conclude_of_settled {r : State × Answer} (h : r.1.due = none) (sp : Space) (p : Packet) :
    conclude sp p r = r.1.answer sp p r.2 [] := by
  simp [conclude, State.closeEvent_of_settled h]

end Sys2Proof.Machine
end

