-- ==== Sys2Proof/Tests/Slice0.lean ====
section
/-!
SUPPORT. Tests: the operand checks, values worked out in the manual or by hand from its rules, and for
every statement with premises a state that meets them.
-/

open Sys2Proof Sys2Proof.Machine

namespace Sys2Proof.Tests

/-! ### Operand checks (WellFormed) -/

theorem test_wf_badKind_refused :
    (Instr.badKind 0 3 0 0 []).wellFormed = false ∧
    (Instr.badKind 0 9 0 0 (List.replicate 34 0)).wellFormed = false ∧
    (Instr.badKind 0 9 0 0 (List.replicate 33 0)).wellFormed = true := by decide

theorem test_wf_write_refused :
    (Instr.write 0 0 0 []).wellFormed = false ∧
    (Instr.write 0 0 0 (List.replicate 33 0)).wellFormed = false ∧
    (Instr.packWrite 0 .a 0 []).wellFormed = false ∧
    (Instr.packWrite 0 .a 0 [1]).wellFormed = true := by decide

theorem test_wf_inject_refused :
    (Instr.inject 0 6 0 1 []).wellFormed = false ∧
    (Instr.inject 0 6 0 1 (List.replicate 33 0)).wellFormed = false ∧
    (Instr.inject 0 6 0 1 [0, 0, 0, 0, 0, 8]).wellFormed = true := by decide

theorem test_wf_tables_refused :
    (Instr.bayCommandTableWrite 0 0 (List.replicate 7 0)).wellFormed = false ∧
    (Instr.bayCommandTableWrite 0 31 (List.replicate 16 0)).wellFormed = false ∧
    (Instr.admissionTableWrite 0 7 (List.replicate 32 0)).wellFormed = false ∧
    (Instr.admissionTableWrite 0 7 (List.replicate 16 0)).wellFormed = true ∧
    (Instr.dropActionTableWrite 0 5 [0, 0]).wellFormed = false ∧
    (Instr.dropActionTableWrite 0 0 [0, 0, 0, 0, 0, 0]).wellFormed = true := by decide

theorem test_wf_supply_refused :
    (Instr.supplySettingWrite 0 0x1F [0]).wellFormed = false ∧
    (Instr.supplySettingWrite 0 0x30 [0, 0, 0]).wellFormed = false ∧
    (Instr.supplySettingWrite 0 0x30 [0, 0]).wellFormed = true := by decide

theorem test_wf_samples_refused :
    (Instr.bridgeSample 5001).wellFormed = false ∧ (Instr.bridgeSample 5000).wellFormed = true ∧
    (Instr.transactionCompletion .a (.own (.ack (List.replicate 33 0)))).wellFormed = false ∧
    (Instr.lightSampleArrival .rear (.own 0) .g1 .t1 20).wellFormed = false ∧
    (Instr.lightSampleArrival .front (.own 0) .g1 .t1 20).wellFormed = true := by decide

/-! ### Words -/

/-- No row of the table gives bits. -/
theorem test_no_word_spells_a_command : decodeTableWord 8 0 = none ∧
    State.reset.withFetchWord 8 0 = State.reset := ⟨rfl, rfl⟩

/-! ### The manual's worked values -/

set_option maxRecDepth 4000 in
/-- R180: the check value of the ASCII string 123456789, and of one byte. -/
theorem test_crc8_of_the_manual :
    crc8 [0x31, 0x32, 0x33, 0x34, 0x35, 0x36, 0x37, 0x38, 0x39] = 0xF4 ∧ crc8 [0x01] = 0x07 := by
  decide

/-- R113: the default curve at 500 lux and at 30,000 lux. -/
theorem test_curve_between_points :
    curveAt defaultCurve 500 = 120 ∧ curveAt defaultCurve 30000 = 850 ∧
    curveAt defaultCurve 0 = 40 ∧ curveAt defaultCurve 150000 = 1500 := by decide

/-- R188: a truncated response list; the count of responses stays 8. -/
theorem test_respond_overruns :
    let s := { State.reset with link := { State.reset.link with
      sending := some (.response ⟨0, 0, 0, .ok, []⟩),
      responses := List.replicate 8 ⟨0, 0, 0, .ok, []⟩ } }
    (s.respond ⟨1, 0, 0, .ok, []⟩).link.responses.length = 8 ∧
    (s.respond ⟨1, 0, 0, .ok, []⟩).flags.hub = 256 := by decide

/-! ### States for the tests -/

/-- Taking requests: ACTIVE, everything else as at reset. -/
def ready : State := { State.reset with ctl := ⟨.active, 31, 0, false⟩ }

/-- `ready` with bay A changed. -/
def withA (y : Bay) : State := { ready with bays := ⟨y, Bay.fresh false⟩ }

/-- A record that passes the default admission check. -/
def goodRecord : PackRecord :=
  { PackRecord.absent with
    identity := some ⟨1, 11000, 5000, 7⟩, voltage := some ⟨11000, 0⟩,
    temperature := some ⟨250, 0⟩, chargePct := some ⟨50, 0⟩, alarms := some ⟨0, 0⟩ }

/-- A pack admitted in bay A. -/
def online : Bay :=
  { Bay.fresh false with state := .online, contact := true, record := goodRecord }

/-- A host request of bay A. -/
def request : HostRequest := ⟨1, 0x20, false, 2, [], 0, true, .voltage⟩

/-- A host read of the voltage on the bus. -/
def hostRead : Transaction := ⟨.host request true, 0x20, false, .word, [], .voltage, ⟨35, 0⟩⟩

/-- A response. -/
def resp : Response := ⟨0, 0, 0, .ok, []⟩

/-- What a command leaves; the state itself where it stopped. -/
def after (c : Instr) (s : State) : State :=
  match exec c s with
  | .next t => t
  | .fault _ => s
  | .refused _ => s

theorem ready_takes : ready.Takes := ⟨rfl, rfl, by decide, by decide, rfl⟩

theorem ready_noTrips : ready.NoTrips := ⟨rfl, rfl⟩

/-! ### One step -/

/-- R22, R42: contact arrives in an EMPTY bay. -/
theorem test_contact_rise : (after (.contactRise .a) ready).bays.a.state = .seated ∧
    (after (.contactRise .a) ready).bays.a.timer = some ⟨.settle, ⟨200, 200⟩, false⟩ := by decide

/-- R65, R179: power-on with a pack seated wakes the host. -/
theorem test_power_on_with_pack :
    let s := { ready with lines := { ready.lines with contact := ⟨true, false⟩ } }
    (after .powerOnReset s).ctl.wake = true ∧
    (after .powerOnReset s).bays.a.state = .seated := by decide

/-- R6, R14: an ALERT in ONLINE reads the alarm word by the default table's code 0x26. -/
theorem test_alert_read :
    ((after (.alertAsserted .a) (withA online)).bays.a.traffic.bus.map Transaction.code)
      = some 0x26 := by decide

/-- R33: the last identification read admits the pack. -/
theorem test_admission :
    (after (.transactionCompletion .a (.own (.ack [0, 0]))) (withA { online with
      state := .identifying,
      traffic := { Traffic.fresh with
        ident := some ⟨6, some 1, some 11000, some 5000⟩,
        bus := some ⟨.identification 6, 0x26, false, .word, [], .alarms, ⟨35, 3⟩⟩ } })).bays.a.state
      = .online := by decide

/-- R20, R52: the third failure in a row silences the bay. -/
theorem test_lockout :
    (after (.transactionLimitExpiry .a) (withA { online with
      traffic := { Traffic.fresh with bus := some hostRead, failures := 2 } })).bays.a.state
      = .silent := by decide

/-- R1: the expiry of a limit that has not run down finds nothing to end. -/
theorem test_early_limit :
    let s := withA { online with traffic := { Traffic.fresh with
      bus := some { hostRead with limit := ⟨35, 1⟩ }, failures := 2 } }
    after (.transactionLimitExpiry .a) s = s := by decide

/-- R1, R12: the limit's expiry grants the next request in the same event, and the late answer of the
ended transaction leaves that one alone; its own answer ends it. -/
theorem test_late_answer :
    let s := withA { online with traffic := { Traffic.fresh with
      bus := some hostRead, waiting := [{ request with tag := 2 }] } }
    let t := after (.transactionLimitExpiry .a) s
    t.bays.a.traffic.bus.map Transaction.owner = some (.host { request with tag := 2 } true) ∧
    after (.transactionCompletion .a (.late (.ack [0, 40]))) t = t ∧
    (after (.transactionCompletion .a (.own .nack)) t).bays.a.traffic.failures = 2 := by decide

/-- R10, R12: a held request does not stop the one behind it, and keeps its place. -/
theorem test_held_request :
    let s := { withA { online with traffic := { Traffic.fresh with
      bus := some hostRead, waiting := [{ request with cls := 3 }, { request with tag := 2 }] } } with
      holdMask := 0b1100 }
    let t := (after (.transactionCompletion .a (.own .nack)) s).bays.a.traffic
    t.bus.map Transaction.owner = some (.host { request with tag := 2 } true) ∧
    t.waiting = [{ request with cls := 3 }] := by decide

/-- R29: END_OF_DISCHARGE read by a poll sets DEPLETED. -/
theorem test_alarm_marks :
    (after (.transactionCompletion .a (.own (.ack [2, 0]))) (withA { online with
      traffic := { Traffic.fresh with
        bus := some ⟨.poll, 0x26, false, .word, [], .alarms, ⟨35, 3⟩⟩ } })).bays.a.record.depleted
      = true := by decide

/-- R69, R71: PWR_REQ starts the supply from an adapter. -/
theorem test_start_up :
    let s := { ready with supply := { ready.supply with adapter := some 2 } }
    (after .pwrReqRise s).supply.state = .starting ∧
    (after .startUpHoldExpiry (after .pwrReqRise s)).supply.state = .normal ∧
    (after .startUpHoldExpiry (after .pwrReqRise s)).supply.pAvail = 65000 := by decide

/-- R86: the power allowance of a 65 W adapter, by the defaults: min(1500 · 320 / 64, 65,000 − 55,000
− 5,000). -/
theorem test_allowance :
    (after .startUpHoldExpiry (after .pwrReqRise { ready with
      supply := { ready.supply with adapter := some 2 } })).back.pbl = 5000 := by decide

/-- R100: saturated and clamped illuminance; R97: the step moves down above 60,000 counts. -/
theorem test_light_sample :
    let s := { ready with light := { ready.light with front := { ready.light.front with
      condition := .noSample, conversion := some ⟨125, 125⟩ } } }
    let t := after (.lightSampleArrival .front (.own 65535) .g1 .t1 30) s
    t.light.front.sample.map LightSample.lux = some 200000 ∧ t.light.front.step = 1 ∧
    t.light.front.condition = .fresh ∧ t.light.theta = some ⟨30, 0⟩ := by decide

/-- R96: the late samples of two conversions that their limits ended are discarded, and leave the next
conversion in progress; an expiry taken after an arrival finds nothing to end. -/
theorem test_late_sample :
    let s := { ready with light := { ready.light with front := { ready.light.front with
      condition := .noSample, conversion := some ⟨125, 0⟩ } } }
    let t := [Instr.conversionLimitExpiry .front, .lightSampleArrival .front (.late 3000) .g4 .t4 30,
      .lightSampleArrival .front (.late 3000) .g4 .t4 30].foldl (fun s c => after c s) s
    t.light.front.sample = none ∧ t.light.front.failures = 1 ∧
    t.light.front.conversion = some ⟨125, 125⟩ ∧
    (after (.conversionLimitExpiry .front)
      (after (.lightSampleArrival .front (.own 3000) .g4 .t4 30) s)).light.front.failures = 0 := by decide

/-- R131: an expiry taken after an arrival that restarted the stale timer finds nothing to end; one
whose timer has run down makes the sensor STALE. -/
theorem test_accel_stale :
    let s := { ready with motion := { ready.motion with accel := { ready.motion.accel with
      condition := .running, stale := ⟨40, 0⟩ } } }
    (after .accelStaleExpiry (after (.accelSampleArrival 0 0 2048) s)).motion.accel.condition
      = .running ∧
    (after .accelStaleExpiry s).motion.accel.condition = .stale := by decide

/-- R130: the sensor's first four samples are discarded. -/
theorem test_accel_discards :
    (after (.accelSampleArrival 0 0 2048) ready).motion.accel.discards = 3 ∧
    (after (.accelSampleArrival 0 0 2048) ready).motion.accel.latest = none := by decide

/-- R135, R138: a hard sample in CALM is a knock. -/
theorem test_knock :
    (after (.accelSampleArrival 0 0 20000) { ready with motion := { ready.motion with
      accel := { ready.motion.accel with condition := .running, discards := 0 } } }).motion.guard
      = .impact := by decide

/-- R134: the record peak is present from the first impact sample. -/
theorem test_record_peak_present (p : Snapshot) (a : Accel3) (m : Motion) :
    (Motion.enterKnock m.convert a p m).work.recordPeak.isSome = true ∧
    (Motion.enterImpact a p m).work.recordPeak.isSome = true := ⟨rfl, rfl⟩

/-- R182: in DORMANT a request wakes the part, and is then answered. -/
theorem test_dormant_wakes :
    (after (.read 7 0 0 1) State.reset).ctl.mode = .active ∧
    (after (.read 7 0 0 1) State.reset).link.sending
      = some (.response ⟨7, 0, 0, .ok, [0]⟩) := by decide

/-- R184: a WRITE clamps; R188: its answer is sent at once. -/
theorem test_write_clamps :
    (after (.write 7 3 0x0A [0, 0]) ready).policy.pollPeriod = 250 ∧
    (after (.write 7 3 0x0A [0, 0]) ready).link.sending
      = some (.response ⟨7, 3, 0x0A, .ok, []⟩) := by decide

/-- R184, R196: in WRITE_ONE_CLEAR a WRITE over the PACK_POLICY flags and the default treatment clears
the flags written 1 and takes the treatment (2, BLOCK). -/
theorem test_write_flags_and_treatment :
    let s := { ready with
      flags := { ready.flags with policy := 7 },
      link := { ready.link with clearMode := .writeOneClear } }
    (after (.write 7 3 2 [5, 0, 2]) s).flags.policy = 2 ∧
    (after (.write 7 3 2 [5, 0, 2]) s).policy.defaultTreatment = .block := by decide

/-- 06, "A release at noon": the first tick after the release. -/
theorem test_noon_tick :
    let sees := fun (lux : Nat) (r : Sensor) => { r with
      condition := .fresh, sample := some ⟨0, .g1, .t1, false, 0, lux⟩ }
    let s := { ready with
      light := { ready.light with
        front := sees 75439 ready.light.front, rear := sees 104000 ready.light.rear,
        theta := some ⟨50, 0⟩ },
      back := { ready.back with
        on := true, filtered := some 60000, lout := 1180, bias := 10, pbl := 6600,
        tick := some ⟨50, 0⟩ } }
    let k := (after .brightnessTick s).back
    k.filtered = some 67719 ∧ k.stages = some ⟨1241, 1365, 1500, 1365, 1320⟩ ∧ k.lout = 1220 ∧
      k.drive = 3330 := by decide

/-- 04, "Two packs sharing", row 4: a pack that was discharging stops below V_hi − 250. -/
theorem test_sharing_row_4 :
    let pack := fun (mv : Nat) => { online with
      role := .candidate, record := { goodRecord with voltage := some ⟨mv, 0⟩ } }
    let s := { ready with
      bays := ⟨pack 11900, pack 11640⟩, supply := { ready.supply with state := .normal },
      due := some .other }
    s.closeEvent.bays.a.role = .candidate ∧ s.closeEvent.bays.b.role = .off := by decide

/-- 07, "A knock on the mount": two samples at 100 Hz end the window, HARD; 08: record 1 is KNOCK with
a peak of 8,300 mg on axis Z. -/
theorem test_knock_on_the_mount :
    let s := { State.reset with motion := { State.reset.motion with
      accel := { State.reset.motion.accel with condition := .running, discards := 0 } } }
    let t := after (.accelSampleArrival 0 1200 9000) (after (.accelSampleArrival 0 0 17000) s)
    t.motion.guard = .settling ∧ t.motion.work.severity = some .hard ∧
      t.drop.log.map DropRecord.peak = [some 8300] ∧ t.drop.log.map DropRecord.axis = [some .z] ∧
      t.ctl.wake = true := by decide

/-! ### The premises of the statements can be met

One theorem for each statement with premises: states and operands that meet them, clause by clause, at
the bounds of the ranges. `ready` and its variants take requests. -/

/-- A state like `ready` in what `Takes` asks for takes requests. -/
theorem takes_of {s : State}
    (h : (s.lines.resetN, s.link.inject, s.link.responses, s.ctl.mode, s.due)
      = (true, none, [], .active, none)) : s.Takes := by
  obtain ⟨h1, h2, h3, h4, h5⟩ : s.lines.resetN = true ∧ s.link.inject = none ∧
      s.link.responses = [] ∧ s.ctl.mode = .active ∧ s.due = none := by simpa using h
  exact ⟨h1, h2, by rw [h3]; decide, by rw [h4]; decide, h5⟩

/-- `ready` with the link changed. -/
def withLink (l : Link) : State := { ready with link := l }

/-- `n` responses in the list, with or without one being sent. -/
def listing (n : Nat) (u : Option UpPacket) : Link :=
  { Link.fresh with responses := List.replicate n resp, sending := u }

theorem witness_StepTakesFrontCommand :
    { ready with pending := [.uptimeTick, .brightnessTick] }.pending
      = .uptimeTick :: [.brightnessTick] ∧ ready.pending = [] := ⟨rfl, rfl⟩

theorem witness_EveryCommandCompletes :
    Instr.wakeAck 0 ≠ .uptimeTick ∧ Instr.wakeAck 0 ≠ .powerOnReset := by decide

/-- The state after reset with a command in front. -/
def busy : State := { State.reset with pending := [.contactRise .a] }

theorem busy_steps : ∃ t, step busy = .next t := ⟨_, rfl⟩

theorem witness_StepKeepsCapacities : busy.Bounded ∧ ∃ t, step busy = .next t :=
  ⟨⟨by unfold Link.bounded; decide, by unfold queuesBounded Traffic.bounded; decide,
    by unfold DropLog.bounded; decide, by decide⟩, busy_steps⟩

theorem witness_StepKeepsLatchesSound : busy.LatchesSound ∧ ∃ t, step busy = .next t :=
  ⟨⟨⟨by decide, by decide, by decide, rfl, rfl⟩, ⟨by decide, by decide, by decide, rfl, rfl⟩⟩,
    busy_steps⟩

theorem witness_StepKeepsPanelSound : busy.PanelSound ∧ ∃ t, step busy = .next t :=
  ⟨⟨rfl, by decide, rfl, rfl, fun _ => rfl⟩, busy_steps⟩

theorem witness_StepKeepsOutputsSound : busy.OutputsSound ∧ ∃ t, step busy = .next t :=
  ⟨fun _ => ⟨rfl, rfl, rfl, rfl⟩, busy_steps⟩

theorem witness_StepKeepsModeSound : busy.ModeSound ∧ ∃ t, step busy = .next t :=
  ⟨⟨by decide, rfl, fun _ => ⟨rfl, rfl, rfl, rfl⟩, ⟨rfl, rfl⟩, ⟨rfl, rfl⟩, rfl, fun _ => rfl⟩,
    busy_steps⟩

theorem witness_StepKeepsSettingsSound :
    busy.SettingsInRange ∧ busy.CurvesSound ∧ busy.TablesSound ∧ ∃ t, step busy = .next t :=
  ⟨⟨by unfold Policy.inRange; decide, by unfold Supply.inRange; decide,
      by unfold Light.inRange; decide, by unfold Backlight.inRange; decide,
      by unfold Motion.inRange; decide⟩,
    ⟨by unfold curveValid; decide, rfl, by decide⟩,
    ⟨rfl, by decide, by decide, rfl, by decide, by decide, rfl⟩, busy_steps⟩

theorem busy_logSound : busy.LogSound := by
  intro n r h
  have hl : busy.drop.log = [] := rfl
  rw [hl] at h
  simp at h

theorem witness_StepKeepsRecordsSound :
    busy.RecordsSound ∧ busy.LogSound ∧ ∃ t, step busy = .next t :=
  ⟨⟨⟨fun _ => ⟨rfl, rfl, rfl, rfl, rfl, rfl, rfl⟩, by decide, by decide⟩,
    ⟨fun _ => ⟨rfl, rfl, rfl, rfl, rfl, rfl, rfl⟩, by decide, by decide⟩⟩,
    busy_logSound, busy_steps⟩

theorem witness_StepKeepsSupplyCurrent :
    busy.SupplyCurrent ∧ busy.Settled ∧ ∃ t, step busy = .next t :=
  ⟨⟨⟨by decide, by decide, by decide, by decide, by decide⟩,
    ⟨by decide, by decide, by decide, by decide, by decide⟩, rfl, by decide, by decide⟩, rfl,
    busy_steps⟩

theorem witness_ResponseJoinsListOrOverruns :
    8 ≤ (listing 8 none).responses.length ∧
    ((listing 7 (some (.response resp))).responses.length < 8 ∧
      (listing 7 (some (.response resp))).sending.isSome = true) ∧
    ((listing 7 none).responses.length < 8 ∧ (listing 7 none).sending = none ∧
      ready.lines.resetN = true) := by decide

theorem witness_PacketSentChoosesNext :
    let u := some (UpPacket.response resp)
    (listing 1 u).sending = u ∧ (listing 1 u).responses = resp :: [] ∧
    { listing 0 u with alerts := [⟨.a, 3⟩] }.alerts = ⟨.a, 3⟩ :: [] ∧
    { listing 0 u with accelSlot := some ⟨1, 2, 3, 4, 5, true, true⟩ }.accelSlot
      = some ⟨1, 2, 3, 4, 5, true, true⟩ ∧
    { listing 0 u with lightSlot := some ⟨1, 2, none, none, none, 5⟩ }.lightSlot
      = some ⟨1, 2, none, none, none, 5⟩ ∧
    (listing 0 u).responses = [] ∧ (listing 0 u).alerts = [] ∧ (listing 0 u).accelSlot = none ∧
      (listing 0 u).lightSlot = none := by decide

set_option maxRecDepth 4000 in
theorem witness_ReceiverTakesEachByte :
    let five : Byte := 5
    { ready.lines with resetN := false }.resetN = false ∧ ready.lines.resetN = true ∧
    ready.link.rx = .hunt ∧ (0xC3 : Byte) = 0xC3 ∧ (0xC2 : Byte) ≠ 0xC3 ∧
    { Link.fresh with rx := .length }.rx ≠ .hunt ∧
    (5 ≤ (5 : Byte).toNat ∧ (38 : Byte).toNat ≤ 38) ∧
    ((4 : Byte).toNat < 5 ∧ 38 < (39 : Byte).toNat) ∧
    ({ Link.fresh with rx := .body 5 [1, 2, 3] }.rx = .body 5 [1, 2, 3] ∧
      [1, 2, 3].length + 1 < five.toNat) ∧
    ({ Link.fresh with rx := .body 5 [1, 2, 3, 4] }.rx = .body 5 [1, 2, 3, 4] ∧
      five.toNat ≤ [1, 2, 3, 4].length + 1) ∧
    ({ Link.fresh with rx := .check 5 [1, 3, 0, 1, 0] }.rx = .check 5 [1, 3, 0, 1, 0] ∧
      (0x8C : Byte) ≠ crc8 [5, 1, 3, 0, 1, 0] ∧
      crc8 [5, 1, 3, 0, 1, 0] = crc8 (5 :: [1, 3, 0, 1, 0])) ∧
    { Link.fresh with interByte := some ⟨10, 1⟩ }.interByte.isSome = true := by decide

theorem witness_FrameBytesActAsTheirPacket :
    ready.lines.resetN = true ∧ ready.link.rx = .hunt ∧
    (Packet.mk 1 3 0 1 []).len ≤ 38 ∧ (Packet.mk 1 2 0x11 0x40 (List.replicate 33 0)).len = 38 := by
  decide

theorem witness_PacketsAtTheGates :
    let p : Packet := ⟨1, 1, 0, 0, [1]⟩
    p.len ≤ 38 ∧ requestKind p.kind = true ∧ ready.lines.resetN = true ∧ ready.link.inject = none ∧
    { ready.lines with resetN := false }.resetN = false ∧
    { Link.fresh with inject := some ⟨1, 6, 0, []⟩ }.inject.isSome = true ∧
    ready.ctl.mode ≠ .dormant ∧ 8 ≤ (listing 8 none).responses.length ∧
    State.reset.ctl.mode = .dormant ∧ State.reset.lines.resetN = true ∧
    State.reset.link.inject = none ∧ (listing 7 none).responses.length < 8 ∧
    Link.fresh.interByte = none ∧ (List.replicate 33 (0 : Byte)).length ≤ 33 ∧
    (0 : Byte).toNat = 0 ∧ 5 < (6 : Byte).toNat ∧ ready.Takes :=
  by and_intros <;> first | exact ready_takes | decide

theorem witness_ReadAnswersFromTheSpace : ready.Takes ∧
    (let covers := fun (sp : Space) (off n : Nat) => coversExtent (touched (spaceMap sp) off n) off n
    let lacks := fun (sp : Space) (off n : Nat) => readsAbsent ready sp (touched (spaceMap sp) off n)
    (0 : Byte).toNat = 0 ∧ 32 < (33 : Byte).toNat ∧
    covers .hub 0x17 2 = false ∧ covers .policy 0x111 32 = true ∧
    (covers .bayA 0x18 1 = true ∧ lacks .bayA 0x18 1 = true) ∧
    (covers .hub 0 4 = true ∧ lacks .hub 0 4 = false ∧ ready.link.clearMode = .clearOnRead) ∧
    { Link.fresh with clearMode := .writeOneClear }.clearMode = .writeOneClear ∧
    spaceOf 0x77 = none ∧ passBay 0x77 = none) :=
  ⟨ready_takes, by decide⟩

theorem witness_WriteIsAllOrNothing : ready.Takes ∧
    (let kind := fun (m : ClearMode) (sp : Space) (off : Nat) (data : List Byte) =>
      writeKind m (touched (spaceMap sp) off data.length) off data
    kind .clearOnRead .hub 0x0D [0] = .outside ∧ kind .clearOnRead .hub 5 [0] = .readOnly ∧
    kind .writeOneClear .hub 2 [1, 0] = .fields 1 [] ∧ kind .clearOnRead .light 4 [0x20] = .action ∧
    actionOf .light 0x20 = none ∧
    kind .clearOnRead .hub 7 [1] = .fields 0 [(Setting.alertForwarding, [1])] ∧
    kind .writeOneClear .policy 2 [5, 0, 2] = .fields 5 [(Setting.defaultTreatment, [2])] ∧
    kind .writeOneClear .policy 2 [5, 0, 2, 1, 1]
      = .fields 5 [(Setting.defaultTreatment, [2]), (Setting.lockoutLimit .a, [1]),
        (Setting.lockoutLimit .b, [1])] ∧
    { Link.fresh with clearMode := .writeOneClear }.clearMode = .writeOneClear ∧
    Setting.defaultTreatment.accepts [2] = true ∧ Setting.defaultTreatment.accepts [1] = false ∧
    Setting.alertForwarding.accepts [1] = true ∧ Setting.alertForwarding.accepts [2] = false ∧
    kind .clearOnRead .policy 0x0A [0, 1, 2, 3]
      = .fields 0 [(Setting.pollPeriod, [0, 1]), (Setting.settleTime, [2, 3])] ∧
    1 ≤ [(1 : Byte)].length ∧ (List.replicate 32 (0 : Byte)).length ≤ 32 ∧
    spaceOf 0x77 = none ∧ passBay 0x77 = none) :=
  ⟨ready_takes, by decide⟩

/-- One record in the log. -/
def logged : DropRecord :=
  ⟨.knock, false, 9, 1, none, none, none, none, none, 0,
    ⟨⟨.online, .empty⟩, ⟨.off, .off⟩, .normal⟩, ⟨none, none⟩, 0⟩

theorem witness_LocationsReadAsLaidOut :
    (Bay.fresh false).record.identity = none ∧ online.record.identity = some ⟨1, 11000, 5000, 7⟩ ∧
    DropLog.fresh.log[DropLog.fresh.index]? = none ∧
    { DropLog.fresh with log := [logged] }.log[0]? = some logged := by decide

theorem witness_PackRequestsAtArrival : ready.Takes ∧ (withA online).Takes ∧
    (let look := fun (off : Half) (w : Bool) => Policy.defaults.lookup (off.setWidth 8) w
    (0 : Byte).toNat = 0 ∧ 32 < (33 : Byte).toNat ∧ 32 ≤ (32 : Byte).toNat ∧
    255 < (256 : Half).toNat ∧ (255 : Half).toNat ≤ 255 ∧
    (look 0x50 true).treatment = .block ∧
    ((look 0x20 true).allowed = false ∧ (look 0x20 true).treatment = .shadow) ∧
    ((look 0x20 false).allowed = true ∧ (look 0x20 false).treatment = .shadow) ∧
    ((look 0x40 true).allowed = true ∧ (look 0x40 true).treatment = .pass) ∧
    ready.bays.a.state.traffic = false ∧ BayState.silent.traffic = false ∧
    online.state.traffic = true ∧
    4 ≤ { Traffic.fresh with waiting := [request, request, request, request] }.queueLength ∧
    { Traffic.fresh with waiting := [request, request], bus := some hostRead }.queueLength < 4 ∧
    (online.traffic.bus = none ∧ online.tripDeferred = false ∧ online.traffic.alert = false ∧
      online.traffic.maintains = false ∧ online.traffic.waiting = [] ∧
      ready.holdMask.getLsbD 3 = false) ∧
    (let old : List HostRequest := [{ request with cls := 3 }]
     { Traffic.fresh with waiting := old }.queueLength < 4 ∧
     (∀ h ∈ old ++ [{ request with cls := 2 }], (0b1100 : BitVec 4).getLsbD h.cls = true) ∧
     old ++ [request] = old ++ request :: [] ∧
     (∀ h ∈ old, (0b1100 : BitVec 4).getLsbD h.cls = true) ∧
     (0b1100 : BitVec 4).getLsbD request.cls = false)) :=
  ⟨ready_takes, takes_of rfl, by decide⟩

theorem witness_ModeRequestSetsTheMode : ready.Takes ∧
    2 < (3 : Half).toNat ∧ modeOf (2 : Half).toNat = some .dormant ∧
    modeOf (0 : Half).toNat = some .active ∧ ready.ctl.mode = .active ∧
    modeOf (1 : Half).toNat = some .watch ∧ PartMode.watch ≠ ready.ctl.mode ∧
    ready.motion.guard = .calm ∧ ready.motion.accel.odr ≠ modeOdr ready.ctl.mode ∧
    { ready.motion with guard := .falling }.guard ≠ .calm :=
  ⟨ready_takes, by decide⟩

/-- Stimulus replaces all three sources. -/
def replaced : State :=
  { ready with streams := { Streams.fresh with stimulusOn := true, sources := 7 } }

theorem witness_InjectIsCheckedAndHeld : ready.Takes ∧ replaced.Takes ∧
    injectSamples ⟨0, 5, 6, 0, [2, 0, 0, 0, 0, 0, 8]⟩ = none ∧
    injectSamples ⟨0, 5, 6, 0, [1, 0, 0, 0, 0, 0, 8]⟩ = some (.accel, [.accel 0 0 2048]) ∧
    ready.streams.stimulusOn = false ∧ replaced.streams.stimulusOn = true ∧
    replaced.streams.sources.getLsbD Source.accel.bit = true :=
  ⟨ready_takes, takes_of rfl, by decide⟩

/-- An INJECT with samples left. -/
def injecting (xs : List InjectedSample) : State :=
  { replaced with link := { replaced.link with inject := some ⟨1, 6, 0, xs⟩ } }

theorem witness_InjectedSampleIsTaken :
    let x : InjectedSample := .rear 3000 .g1 .t1
    (injecting [x, x]).link.inject = some ⟨1, 6, 0, x :: [x]⟩ ∧ (injecting [x]).due = none ∧
    (injecting [x]).link.inject = some ⟨1, 6, 0, x :: []⟩ ∧ (injecting [x]).link.waiting = [] ∧
    { ready.light.rear with condition := .starting }.condition ≠ .off ∧
    ready.light.front.condition = .off ∧ ready.light.rear.condition = .off ∧
    { ready.light.front with condition := .faulted }.condition ≠ .off ∧
    (injecting []).link.inject.isSome = true ∧
    (withLink { Link.fresh with waiting := [⟨1, 1, 0, 0, [1]⟩] }).link.waiting
      = ⟨1, 1, 0, 0, [1]⟩ :: [] ∧ Link.fresh.inject = none ∧
    ready.motion.guard = .calm ∧
    (ready.motion.hardMg * 2048 / 1000) ^ 2 ≤ (16384 : Half).toInt.natAbs ^ 2 ∧
    ((2048 : Half).toInt.natAbs ^ 2 < (ready.motion.hardMg * 2048 / 1000) ^ 2 ∧
      (ready.motion.freeFallMg * 2048 / 1000) ^ 2 ≤ (2048 : Half).toInt.natAbs ^ 2) ∧
    (let k : StreamCtl := ⟨true, 3, 2, 65535⟩
     k.enabled = true ∧ k.divider ≤ k.count + 1) ∧ ready.ctl.mode ≠ .dormant ∧
    (listing 0 (some (.response resp))).sending.isSome = true := by decide

theorem witness_FullResetTakesEveryBlock : ready.Takes ∧ ready.lines.resetN = true ∧
    { ready.lines with resetN := false }.resetN = false ∧
    (let s := fun (y : Bay) => { withA y with
      lines := { ready.lines with contact := ⟨true, false⟩, lockConfirm := ⟨true, false⟩ },
      supply := { ready.supply with state := .normal } }
     let locked := { online with
      role := .candidate, latch := .locked, solenoid := true, reasons := ⟨true, false, true⟩ }
     ready.lines.contact.get .a = false ∧ (s online).lines.contact.get .a = true ∧
     { online with state := .inhibited }.state = .inhibited ∧ online.state ≠ .inhibited ∧
     ((s locked).supply.state = .normal ∧ (s locked).supply.adapter = none ∧
       locked.role ≠ .off ∧ locked.reasons.held = true) ∧
     (((s locked).fullReset.bay .a).reasons.lastSupply = locked.reasons.held ∧
       locked.state ≠ .releasing) ∧
     (let t := { s locked with supply := { ready.supply with adapter := some 2 } }
      (t.fullReset.bay .a).reasons.lastSupply = false ∧ locked.latch = .locked ∧
        t.lines.lockConfirm.get .a = true)) := ⟨ready_takes, by decide⟩

theorem witness_ControlResetKeepsTheBlocks : ready.Takes ∧ replaced.Takes ∧
    (withA { online with traffic := { Traffic.fresh with bus := some hostRead } }).Takes ∧
    hostRead.owner = .host request true ∧ (∀ r b, Owner.alert ≠ .host r b) ∧
    ready.streams.replaces .accel = false ∧ replaced.streams.replaces .accel = true ∧
    replaced.streams.replaces .rear = true :=
  ⟨ready_takes, takes_of rfl, takes_of rfl, rfl, nofun, by decide⟩

theorem witness_ReadmitStartsIdentification :
    (withA online).Takes ∧ online.state ≠ .quarantined ∧ online.state ≠ .silent ∧
    (Bay.fresh false).contact = false ∧
    (withA { online with state := .silent }).Takes ∧
    { online with state := .silent }.contact = true ∧
    (Policy.defaults.ownEntry .cls).isSome = true ∧ (Bay.fresh false).tripDeferred = false :=
  ⟨takes_of rfl, by decide, by decide, rfl, takes_of rfl, by decide⟩

/-- An inhibited pack that may be readmitted: at 550, five degrees below the discharge maximum. -/
def cooled (t : Int) : Bay :=
  { online with state := .inhibited, record := { goodRecord with temperature := some ⟨t, 0⟩ } }

theorem witness_InhibitAndSuspectAreCleared :
    (withA (cooled 550)).Takes ∧ (withA (cooled 550)).NoTrips ∧
    ((cooled 550).state = .inhibited ∧ ready.motion.guard = .calm ∧
      (∃ e t, classLimits ready.policy (cooled 550).record = some e ∧
        (cooled 550).record.temperature = some t ∧ t.value ≤ e.dMax.toInt - 50) ∧
      (cooled 550).record.alarmWord &&& 0b1001 = 0) ∧
    (∀ e, classLimits ready.policy (cooled 551).record = some e → ¬ (551 : Int) ≤ e.dMax.toInt - 50) ∧
    online.record.suspect = false ∧
    { goodRecord with suspect := true }.suspect = true :=
  ⟨takes_of rfl, ⟨rfl, rfl⟩,
    ⟨rfl, rfl, ⟨⟨1, 1, 9000, 12900, 6000, BitVec.ofInt 16 (-200), 600, 0, 450⟩, ⟨550, 0⟩, by decide,
      rfl, by decide⟩, by decide⟩,
    fun e h => by
      have : e = ⟨1, 1, 9000, 12900, 6000, BitVec.ofInt 16 (-200), 600, 0, 450⟩ := by
        have h' : classLimits ready.policy (cooled 551).record
          = some ⟨1, 1, 9000, 12900, 6000, BitVec.ofInt 16 (-200), 600, 0, 450⟩ := by decide
        rw [h'] at h; exact (Option.some.inj h).symm
      subst this; decide,
    rfl, rfl⟩

/-- A bay's latch and reasons. -/
def latched (l : LatchState) (guard host : Bool) (st : BayState := .online) : Bay :=
  { online with state := st, latch := l, reasons := ⟨guard, false, host⟩ }

theorem witness_HostLockMovesTheLatch : ready.Takes ∧ ready.OutputsSound ∧
    (latched .locked true false).reasons.held = true ∧
    (latched .unlocked false false .releasing).latch = .unlocked ∧
    (latched .unlocked false false).reasons.held = false ∧
    (latched .disengaging false false).latch = .disengaging ∧
    { ready.lines with lockConfirm := ⟨true, false⟩ }.lockConfirm.get .a = true ∧
    ready.lines.lockConfirm.get .a = false ∧
    (latched .locked true true).reasons.held = true ∧
    (latched .lockFailed false true).reasons.held = true ∧
    { (latched .lockFailed false true).reasons with host := false }.held = false :=
  ⟨ready_takes, fun _ => ⟨rfl, rfl, rfl, rfl⟩, by decide⟩

theorem witness_PanelActionsAct : ready.Takes ∧ ready.back.on = false ∧
    { ready.back with on := true }.on = true ∧ ready.back.stagedValid = true ∧
    { ready.back with stagedCount := 1 }.stagedValid = false ∧
    { ready.back with stagedCount := 17 }.stagedValid = false :=
  ⟨ready_takes, by decide⟩

theorem witness_LogWakeAndFlagsAreCleared : ready.Takes ∧ ready.link.clearMode = .clearOnRead ∧
    { Link.fresh with clearMode := .writeOneClear }.clearMode = .writeOneClear ∧
    online.traffic.reverify = none ∧
    { Traffic.fresh with reverify := some .record }.reverify = some .record ∧
    online.traffic.bus = none ∧ hostRead.owner ≠ .reverify .record ∧
    { hostRead with owner := .reverify .record }.owner = .reverify .record :=
  ⟨ready_takes, by decide⟩

/-- A used, sound Bay Command Table entry for code 0x60, as its bytes. -/
def entryBytes : List Byte := [1, 0x60, 1, 0, 0, 0, 0, 1]

/-- A used, sound Admission Table entry for a class, as its bytes. -/
def windowBytes (cls : Byte) : List Byte :=
  [1, cls] ++ le16 9000 ++ le16 12900 ++ le16 6000 ++ le16 0 ++ le16 600 ++ le16 0 ++ le16 450

theorem witness_TablesAreWrittenWhole : ready.Takes ∧
    (entryBytes.length = 8 * 1 ∧ 31 + 1 ≤ 32 ∧ (commandOf entryBytes).sound = true ∧
      codesUnique (Policy.defaults.commands.set 31 (commandOf entryBytes).clamp) = true ∧
      codesUnique (Policy.defaults.commands.set 31 (commandOf ([1, 0x20] ++ entryBytes.drop 2)).clamp)
        = false) ∧
    (List.replicate 32 (0 : Byte)).length = 8 * 4 ∧
    ((windowBytes 2).length = 16 * 1 ∧ 7 + 1 ≤ 8 ∧ (admissionOf (windowBytes 2)).clamp.sound = true ∧
      classesUnique (Policy.defaults.admission.set 7 (admissionOf (windowBytes 2)).clamp) = true ∧
      classesUnique (Policy.defaults.admission.set 7 (admissionOf (windowBytes 1)).clamp) = false) ∧
    ((∀ b ∈ [(63 : Byte)], b.toNat < 64) ∧ (∃ b ∈ [(64 : Byte)], 64 ≤ b.toNat) ∧
      5 + [(63 : Byte)].length ≤ 6) :=
  ⟨ready_takes, by decide⟩

/-- A bay with a failure count. -/
def failing (n : Nat) (raised : Bool) : Bay :=
  { online with traffic := { Traffic.fresh with failures := n, tripRaised := raised } }

/-- NORMAL, bay A the platform's only supply. -/
def soleBay (y : Bay) : State :=
  { withA y with supply := { ready.supply with state := .normal } }

theorem witness_LockoutLimitIsWritten :
    (withA (failing 2 false)).Takes ∧ (failing 2 false).traffic.failures ≤ min 15 (2 : Byte).toNat ∧
    (withA (failing 3 true)).Takes ∧ min 15 (2 : Byte).toNat < (failing 3 true).traffic.failures ∧
    (failing 3 true).traffic.tripRaised = true ∧
    (withA (failing 2 false)).NoTrips ∧ min 15 (1 : Byte).toNat < (failing 2 false).traffic.failures ∧
    (failing 2 false).traffic.tripRaised = false ∧ (failing 2 false).state.traffic = true ∧
    soleSupply (withA (failing 2 false)) .a = false ∧
    (let s := soleBay { failing 2 false with role := .kept, state := .identifying }
     s.Takes ∧ (failing 2 false).state = .online ∧ (s.bay .a).state = .identifying ∧
       (s.bay .a).role = .kept ∧ soleSupply s .a = true) ∧
    (failing 2 false).traffic.bus = none ∧
    { Traffic.fresh with bus := some hostRead }.bus = some hostRead ∧
    hostRead.owner = .host request true :=
  ⟨takes_of rfl, by decide, takes_of rfl, by decide, rfl, ⟨rfl, rfl⟩, by decide, rfl, rfl, by decide,
    ⟨takes_of rfl, rfl, rfl, rfl, by decide⟩, rfl, rfl, rfl⟩

theorem witness_LightSettingsActAtOnce : ready.Takes ∧
    1 < (2 : Byte).toNat ∧ ready.light.front.condition = .off ∧
    { ready.light.front with condition := .fresh }.condition ≠ .off ∧
    ready.ctl.mode = .active ∧ { ready.ctl with mode := .watch }.mode ≠ .active ∧
    ready.light.front.stale = none ∧
    (let t : Timer := ⟨1000, 801⟩
     { ready.light.front with stale := some t }.stale = some t ∧
      t.period - t.left < min 5000 (max 200 (0 : Half).toNat)) ∧
    (let t : Timer := ⟨1000, 800⟩
     min 5000 (max 200 (0 : Half).toNat) ≤ t.period - t.left) :=
  ⟨ready_takes, by decide⟩

theorem witness_CeilingWritesActAtOnce : ready.Takes ∧ ready.NoTrips ∧ ready.PanelSound ∧
    Instr.lMaxWrite 1 2001 = .lMaxWrite 1 2001 ∧ Instr.qWrite 1 0 = .qWrite 1 0 :=
  ⟨ready_takes, ready_noTrips, ⟨rfl, by decide, rfl, rfl, fun _ => rfl⟩, rfl, rfl⟩

theorem witness_SupplySettingsAreEvents : ready.Takes ∧
    holdOf (leNat [2]) = some .ms256 ∧ holdOf (leNat [3]) = none ∧ [(2 : Byte)].length = 1 ∧
    [(2 : Byte), 0].length = 2 ∧ [(2 : Byte), 0, 0, 0].length = 4 :=
  ⟨ready_takes, by decide⟩

theorem witness_LinkControlsAreWritten : ready.Takes ∧
    128 ≤ (128 : Byte).toNat ∧ (127 : Byte).toNat < 128 ∧ 1 < (2 : Byte).toNat ∧
    ready.streams.accel.enabled = false ∧ ready.streams.light.enabled = false ∧
    { StreamCtl.fresh with enabled := true }.enabled = true :=
  ⟨ready_takes, by decide⟩

theorem witness_StimulusReplacesSources : ready.Takes ∧ replaced.Takes ∧
    1 < (2 : Byte).toNat ∧ 7 < (8 : Byte).toNat ∧ (1 : Byte).toNat ≤ 1 ∧ (7 : Byte).toNat ≤ 7 ∧
    ready.streams.replaces .front = false ∧ replaced.streams.replaces .front = true ∧
    ready.streams.replaces .accel = false ∧ replaced.streams.replaces .accel = true :=
  ⟨ready_takes, takes_of rfl, by decide⟩

/-- NORMAL with the adapter absent, a re-evaluation owed. -/
def owing (a b : Bay) (st : SupplyState) (adapter : Option (Fin 4)) : State :=
  { ready with bays := ⟨a, b⟩, due := some .other,
               supply := { ready.supply with state := st, adapter := adapter } }

theorem witness_ReEvaluationSetsTheSupplyPath :
    let s := owing online online .normal none
    let t := owing online (Bay.fresh false) .normal (some 3)
    let w := owing online online .normal (some 3)
    let none' := Bay.fresh false
    let lost := fun (st : SupplyState) => owing none' none' st none
    let charged := { (lost .normal).supply with bridgeVoltage := some ⟨3750, 0⟩ }
    ((owing { online with tripDeferred := true } none' .normal none).bay .a).tripDeferred = true ∧
    (supplyExists (lost .normal) = false ∧ (lost .normal).supply.available = false ∧
      charged.available = true ∧ SupplyEvent.other ≠ .pwrReqFall) ∧
    (supplyExists (owing online none' .bridge none) = true ∧
      supplyExists (lost .starting) = false) ∧
    ((owing online none' .starting none).supply.hold = none ∧ SupplyEvent.other ≠ .holdExpiry) ∧
    { ready.supply with hold := some ⟨64, 5⟩ }.hold.isSome = true ∧
    ({ ready.lines with pwrReq := true }.pwrReq = true ∧
      (owing online none' .standby none).supply.barrier = false) ∧
    ({ ready.supply with barrier := true }.barrier = true ∧ ready.lines.pwrReq = false) ∧
    s.due = some .other ∧ s.NoTrips ∧ s.bays.a.eligible = true ∧
    (s.closeEvent.supply.state = .normal ∧ s.closeEvent.supply.adapter = none) ∧
    t.closeEvent.supply.adapter.isSome = true ∧
    (chargeCandidate t.policy t.closeEvent.supply t.bays.a).isSome = true ∧
    chargeCandidate t.policy t.closeEvent.supply t.bays.b = none ∧
    chargeCandidate w.policy w.closeEvent.supply w.bays.a = some 50 ∧
    chargeCandidate w.policy w.closeEvent.supply w.bays.b = some 50 :=
  by and_intros <;> first | rfl | decide

theorem witness_PowerAvailableByState :
    (owing { online with role := .candidate } (Bay.fresh false) .normal none).supply.adapter = none ∧
    (owing online online .normal (some 3)).supply.adapter = some 3 ∧
    (owing online online .bridge none).supply.state = .bridge ∧
    classLimits Policy.defaults online.record
      = some ⟨1, 1, 9000, 12900, 6000, BitVec.ofInt 16 (-200), 600, 0, 450⟩ := by decide

/-- A supply state with its timers. -/
def supplied (st : SupplyState) (pwr : Bool) (adapter : Option (Fin 4)) : State :=
  { ready with
    lines := { ready.lines with pwrReq := pwr },
    supply := { ready.supply with
      state := st, adapter := adapter, hold := some ⟨64, 0⟩, bridgeRun := some ⟨60000, 0⟩,
      save := some ⟨5000, 0⟩ } }

theorem witness_SupplyStateFollowsItsEvents :
    (supplied .standby false (some 2)).NoTrips ∧
    (supplied .standby false (some 2)).due = none ∧
    supplyExists (supplied .standby false (some 2)) = true ∧
    (supplied .standby false (some 2)).supply.barrier = false ∧
    supplyExists (supplied .standby false none) = false ∧
    (supplied .normal true (some 2)).lines.pwrReq = true ∧
    (supplied .starting true (some 2)).supply.hold.isSome = true ∧
    supplyExists (supplied .starting true (some 2)) = true ∧
    (supplied .bridge true none).supply.bridgeRun.isSome = true ∧
    supplyExists (supplied .bridge true none) = false ∧
    (supplied .save true none).supply.save.isSome = true ∧
    supplyExists (supplied .save true none) = false ∧
    supplyExists (supplied .save true (some 2)) = true ∧
    ready.supply.hold = none ∧ ready.supply.bridgeRun = none ∧ ready.supply.save = none ∧
    { ready.ctl with mode := .watch }.mode ≠ .active ∧ ready.ctl.enables.getLsbD 4 = true :=
  ⟨⟨rfl, rfl⟩, by decide⟩

theorem witness_BridgeSampleIsTaken :
    (supplied .normal true (some 2)).NoTrips ∧ (supplied .normal true (some 2)).due = none ∧
    supplyExists (supplied .normal true (some 2)) = true ∧
    supplyExists (supplied .bridge true none) = false ∧
    supplyExists (supplied .bridge true (some 2)) = true ∧
    (supplyExists (supplied .normal true none) = false ∧
      (supplied .normal true none).supply.readyThreshold ≤ min 5000 (3750 : Half).toNat ∧
      min 5000 (3749 : Half).toNat < (supplied .normal true none).supply.readyThreshold) ∧
    (3299 : Half).toNat < 3300 ∧ 3300 ≤ (3300 : Half).toNat :=
  ⟨⟨rfl, rfl⟩, by decide⟩

/-- A bay's contact line. -/
def touching (v : Bool) (y : Bay) : State :=
  { withA y with lines := { ready.lines with contact := ⟨v, false⟩ } }

theorem witness_ContactMovesTheBay :
    (touching true online).lines.contact.get .a = true ∧ (touching true online).due = none ∧
    (touching false online).lines.contact.get .a = false ∧ online.contact = true ∧
    ((Bay.fresh false).contact = false ∧ (Bay.fresh false).state = .empty ∧
      (Bay.fresh false).tripDeferred = false) ∧
    { ready.ctl with mode := .watch }.mode ≠ .active ∧ ready.ctl.enables.getLsbD 0 = true ∧
    online.loss = none ∧ { online with loss := some ⟨5, false⟩ }.loss.isSome = true ∧
    online.state ≠ .empty ∧ (Bay.fresh false).tripDeferred = false := by decide

/-- A bay with a filter running, its latch and its state. -/
def asking (st : BayState) (l : LatchState) (pending : Bool) : Bay :=
  { online with state := st, latch := l, returnPending := pending, intentFilter := some ⟨20, 0⟩ }

theorem witness_ReleaseFollowsIntent :
    ready.due = none ∧ ready.NoTrips ∧ ready.lines.intent.get .a = false ∧
    { ready.lines with intent := ⟨true, false⟩ }.intent.get .a = true ∧
    online.intentFilter = none ∧ (asking .online .locked false).intentFilter.isSome = true ∧
    ¬ ((asking .online .locked false).latch = .unlocked ∨
      (asking .online .locked false).latch = .lockFailed) ∧
    ((asking .quarantined .unlocked false).latch = .unlocked ∧
      (asking .quarantined .unlocked false).state ≠ .online) ∧
    ((asking .releasing .lockFailed true).state = .releasing ∧
      (asking .releasing .lockFailed true).returnPending = true) ∧
    (asking .online .unlocked false).state = .online ∧
    ready.motion.guard = .calm ∧ { ready.motion with guard := .impact }.guard ≠ .calm ∧
    online.timer = none ∧
    (∃ t : BayTimer, some (⟨.release, ⟨10000, 0⟩, false⟩ : BayTimer) = some t ∧ t.kind = .release ∧
      t.paused = false) ∧ online.contact = true :=
  by and_intros <;> first | rfl | decide

theorem witness_LatchFollowsLockConfirm : ready.OutputsSound ∧
    { ready.lines with lockConfirm := ⟨true, false⟩ }.lockConfirm.get .a = true ∧
    ready.lines.lockConfirm.get .a = false ∧ (latched .engaging true false).latch = .engaging ∧
    (latched .unlocked false false).latch ≠ .engaging ∧
    (latched .disengaging false false).latch = .disengaging ∧
    ((latched .locked true false).latch = .locked ∧ (latched .locked true false).reasons.held = true) ∧
    online.latchLimit = none ∧
    { latched .engaging true false with latchLimit := some ⟨100, 0⟩ }.latchLimit.isSome = true :=
  ⟨fun _ => ⟨rfl, rfl, rfl, rfl⟩, by decide⟩

theorem witness_AdapterChangesAreFiltered :
    ready.due = none ∧ ready.NoTrips ∧ false = ready.supply.adapter.isSome ∧
    (true ≠ ready.supply.adapter.isSome ∧ true ≠ ready.lines.adapterSense) ∧
    (let s := { ready with
        lines := { ready.lines with adapterSense := true },
        supply := { ready.supply with presenceFilter := some ⟨10, 3⟩ } }
     true ≠ s.supply.adapter.isSome ∧ true = s.lines.adapterSense ∧
       s.supply.presenceFilter.isSome = true) ∧
    (let s := supplied .normal true (some 2)
     s.supply.adapter = some 2 ∧ (3 : Fin 4) ≠ 2 ∧ (3 : Fin 4) ≠ s.lines.ratingPins) ∧
    ready.supply.presenceFilter = none ∧ ready.supply.codeFilter = none ∧
    { ready.supply with codeFilter := some ⟨10, 0⟩, adapter := some 2 }.codeFilter.isSome = true ∧
    { ready.ctl with mode := .watch }.mode ≠ .active ∧ ready.ctl.enables.getLsbD 2 = true :=
  ⟨rfl, ready_noTrips, by decide⟩

theorem witness_AlertsPollsAndSettles :
    ready.due = none ∧ ready.NoTrips ∧ ready.bays.a.state.traffic = false ∧
    online.state.traffic = true ∧
    { Traffic.fresh with bus := some hostRead }.bus.isSome = true ∧
    (online.traffic.bus = none ∧ online.tripDeferred = false ∧ online.traffic.waiting = []) ∧
    Policy.defaults.ownEntry .alarms = some ⟨1, 0x26, 1, 1, 0, 7, 1, 1⟩ ∧
    Policy.defaults.ownEntry .cls = some ⟨1, 0x30, 1, 1, 1, 8, 0, 1⟩ ∧
    online.traffic.pollTimer = none ∧
    { Traffic.fresh with pollTimer := some ⟨1000, 0⟩ }.pollTimer.isSome = true ∧
    (online.traffic.alert = false ∧ online.traffic.ident = none ∧ online.traffic.reverify = none) ∧
    nextPoll (online.traffic.round.getD 0) Policy.defaults.commands
      = some (0, ⟨1, 0x20, 1, 1, 0, 1, 1, 1⟩) ∧
    online.state ≠ .seated ∧
    { online with state := .seated }.state = .seated ∧
    { online with timer := some ⟨.settle, ⟨200, 0⟩, false⟩ }.timerRuns .settle = true ∧
    { Policy.defaults with commands := [] }.ownEntry .cls = none ∧ online.traffic.round = none ∧
    (let x := { hostRead with owner := .alert, snoop := .alarms }
     let y := { online with traffic := { Traffic.fresh with bus := some x } }
     (withA y).NoTrips ∧ (withA y).due = none ∧ y.traffic.bus = some x ∧ x.write = false ∧
       y.traffic.waiting = [] ∧ y.traffic.alert = false ∧ y.traffic.ident = none ∧
       y.traffic.reverify = none ∧ x.owner = .alert ∧ y.traffic.round = none ∧
       y.traffic.failures ≠ Policy.defaults.lockoutLimit.get .a ∧ x.limit.left = 0 ∧
       ([3, 0] : List Byte).length = x.size.bytes ∧ y.record.identity.isSome = true ∧
       PackRecord.absent.identity = none) ∧
    (let x := { hostRead with owner := .poll, snoop := .temperature }
     let y := fun (k : Nat) => { online with
      state := .quarantined, record := { goodRecord with outcome := .tempOut },
      traffic := { Traffic.fresh with bus := some x, round := some k } }
     x.owner = .poll ∧ x.limit.left = 0 ∧
       (y 7).traffic.failures ≠ Policy.defaults.lockoutLimit.get .a ∧
       (withA (y 7)).NoTrips ∧ (y 7).traffic.round = some 7 ∧
       (y 7).state.polls = true ∧ nextPoll 7 Policy.defaults.commands = none ∧
       nextPoll 6 Policy.defaults.commands = some (6, ⟨1, 0x26, 1, 1, 0, 7, 1, 1⟩) ∧
       x.snoop = .temperature ∧ x.snoop ≠ .alarms ∧ ready.motion.guard = .calm ∧
       (y 7).record.outcome = .tempOut ∧
       classLimits ready.policy (y 7).record
        = some ⟨1, 1, 9000, 12900, 6000, BitVec.ofInt 16 (-200), 600, 0, 450⟩ ∧
       (BitVec.ofInt 16 (-200)).toInt + 20 ≤ -180 ∧ (580 : Int) ≤ (600 : Half).toInt - 20 ∧
       ¬ (581 : Int) ≤ (600 : Half).toInt - 20) :=
  by and_intros <;> first | rfl | decide

/-- A bay with a host transaction on its bus. -/
def hosting (x : Transaction) (n : Nat) : Bay :=
  { online with traffic := { Traffic.fresh with bus := some x, failures := n } }

theorem witness_HostTransactionEnds :
    (withA (hosting hostRead 1)).due = none ∧ (withA (hosting hostRead 1)).NoTrips ∧
    online.traffic.bus = none ∧ (hosting hostRead 1).traffic.bus = some hostRead ∧
    ((hosting hostRead 1).traffic.waiting = [] ∧ (hosting hostRead 1).traffic.alert = false ∧
      (hosting hostRead 1).traffic.ident = none ∧ (hosting hostRead 1).traffic.reverify = none ∧
      (hosting hostRead 1).traffic.round = none) ∧
    hostRead.owner = .host request true ∧
    { hostRead with owner := .host request false }.owner = .host request false ∧
    (hosting hostRead 1).traffic.failures ≠ Policy.defaults.lockoutLimit.get .a ∧
    (hosting hostRead 3).traffic.failures ≠ Policy.defaults.lockoutLimit.get .a ∧
    { hostRead with write := true }.write = true ∧
    ([1, 2] : List Byte).length = hostRead.size.bytes ∧
    { hostRead with snoop := .none }.snoop = .none ∧
    hostRead.snoop ≠ .none ∧ online.record.identity.isSome = true ∧
    hostRead.limit.left = 0 ∧ { hostRead with limit := ⟨35, 1⟩ }.limit.left ≠ 0 ∧
    (hosting hostRead 2).traffic.failures = Policy.defaults.lockoutLimit.get .a ∧
    ((hosting hostRead 2).traffic.tripRaised = false ∧
      (hosting hostRead 2).state.traffic = true ∧
      soleSupply (withA (hosting hostRead 2)) .a = false) ∧
    { hosting hostRead 2 with state := .silent }.state.traffic = false ∧
    (let s := soleBay { hosting hostRead 2 with role := .candidate }
     (s.bay .a).state = .online ∧ soleSupply s .a = true) ∧
    { hosting hostRead 3 with tripDeferred := true }.tripDeferred = true ∧
    ({ hostRead with snoop := .alarms }.snoop = .alarms ∧
      (BitVec.ofNat 4 (leNat [1, 0])).getLsbD 0 = true ∧
      (BitVec.ofNat 4 (leNat [8, 0])).getLsbD 3 = true) :=
  ⟨rfl, ⟨rfl, rfl⟩, by decide⟩

/-- The premises of the arbiter's grants in `witness_HostTransactionEnds`'s bay: requests of both kinds
wait, held and not held, and each kind of maintenance is pending in turn. -/
theorem witness_HostTransactionEnds_arbiter :
    let x := { hostRead with write := true }
    let mask : BitVec 4 := 0b1100
    let held := { request with cls := 2 }
    let s := { withA (hosting x 1) with holdMask := mask }
    s.due = none ∧ s.NoTrips ∧ (hosting x 1).traffic.bus = some x ∧
    x.owner = .host request true ∧ (hosting x 1).state.traffic = true ∧ x.write = true ∧
    x.limit.left = 0 ∧ (hosting x 1).traffic.failures ≠ Policy.defaults.lockoutLimit.get .a ∧
    (hosting x 2).traffic.failures = Policy.defaults.lockoutLimit.get .a ∧
    (hosting x 2).traffic.tripRaised = false ∧ soleSupply (withA (hosting x 2)) .a = false ∧
    { Traffic.fresh with alert := true }.alert = true ∧ Traffic.fresh.alert = false ∧
    Policy.defaults.ownEntry .alarms = some ⟨1, 0x26, 1, 1, 0, 7, 1, 1⟩ ∧
    { Policy.defaults with commands := [] }.ownEntry .alarms = none ∧
    (Traffic.fresh.ident = none ∧ Traffic.fresh.reverify = none ∧ Traffic.fresh.round = none) ∧
    (∀ h ∈ [held], mask.getLsbD h.cls = true) ∧
    [held, request, held] = [held] ++ request :: [held] ∧ mask.getLsbD request.cls = false ∧
    { Traffic.fresh with lastServed := .maintenance }.lastServed = .maintenance ∧
    Traffic.fresh.lastServed = .host ∧
    (let d : Identification := ⟨0, none, none, none⟩
     { Traffic.fresh with ident := some d }.ident = some d ∧
       Policy.defaults.ownEntry (identField d.next) = some ⟨1, 0x30, 1, 1, 1, 8, 0, 1⟩) ∧
    { Traffic.fresh with reverify := some .record }.reverify = some .record ∧
    Policy.defaults.ownEntry .serial = some ⟨1, 0x33, 1, 1, 1, 11, 0, 1⟩ ∧
    { Traffic.fresh with round := some 6 }.round = some 6 ∧
    nextPoll 6 Policy.defaults.commands = some (6, ⟨1, 0x26, 1, 1, 0, 7, 1, 1⟩) ∧
    nextPoll 7 Policy.defaults.commands = none :=
  ⟨rfl, ⟨rfl, rfl⟩, by decide⟩

/-- A bay in identification at a step, its read on the bus. -/
def identifying (n : Nat) (d : Identification) : Bay :=
  { online with
    state := .identifying,
    traffic := { Traffic.fresh with
      ident := some d, failures := 1,
      bus := some ⟨.identification n, 0x30, false, .word, [], .none, ⟨35, 0⟩⟩ } }

theorem witness_IdentificationRunsItsReads :
    let d : Nat → Identification := fun n => ⟨n, some 1, some 2, some 3⟩
    (withA (identifying 0 (d 0))).due = none ∧ (withA (identifying 0 (d 0))).NoTrips ∧
    (identifying 0 (d 0)).traffic.ident = some (d 0) ∧ (identifying 0 (d 0)).state = .identifying ∧
    (identifying 0 (d 0)).traffic.waiting = [] ∧ (identifying 0 (d 0)).traffic.alert = false ∧
    ([1, 0] : List Byte).length = XferSize.word.bytes ∧ (d 0).next = 0 ∧ (d 1).next = 1 ∧
    (d 2).next = 2 ∧ d 3 = ⟨3, some 1, some 2, some 3⟩ ∧ (d 6).next = 6 ∧
    Policy.defaults.ownEntry .designMv = some ⟨1, 0x31, 1, 1, 1, 9, 0, 1⟩ ∧
    Policy.defaults.ownEntry .designMah = some ⟨1, 0x32, 1, 1, 1, 10, 0, 1⟩ ∧
    Policy.defaults.ownEntry .serial = some ⟨1, 0x33, 1, 1, 1, 11, 0, 1⟩ ∧
    Policy.defaults.ownEntry .voltage = some ⟨1, 0x20, 1, 1, 0, 1, 1, 1⟩ ∧
    (identifying 6 (d 6)).record.identity.isSome = true ∧
    (identifying 6 (d 6)).traffic.reverify = none ∧ (identifying 6 (d 6)).traffic.round = none ∧
    ready.motion.guard = .calm ∧ { ready.motion with guard := .settling }.guard ≠ .calm ∧
    (identifying 0 (d 0)).traffic.failures ≠ Policy.defaults.lockoutLimit.get .a ∧
    (d 4).next = 4 ∧ (d 5).next = 5 ∧ (d 2).next < 3 ∧
    Policy.defaults.ownEntry .temperature = some ⟨1, 0x22, 1, 1, 0, 3, 1, 1⟩ ∧
    Policy.defaults.ownEntry .alarms = some ⟨1, 0x26, 1, 1, 0, 7, 1, 1⟩ ∧
    { Policy.defaults with commands := [] }.ownEntry (identField ((d 2).next + 1)) = none ∧
    ((identifying 4 (d 4)).traffic.bus.map fun x => x.limit.left) = some 0 := by
  refine ⟨rfl, ⟨rfl, rfl⟩, ?_⟩
  decide

theorem witness_AdmissionCheckInOrder :
    let p := Policy.defaults
    let e : AdmissionEntry := ⟨1, 1, 9000, 12900, 6000, BitVec.ofInt 16 (-200), 600, 0, 450⟩
    let word := fun (w : BitVec 4) => { goodRecord with alarms := some ⟨w, 0⟩ }
    goodRecord.identity = some ⟨1, 11000, 5000, 7⟩ ∧ PackRecord.absent.identity = none ∧
    (word 1).alarms = some ⟨1, 0⟩ ∧ PackRecord.absent.alarms = none ∧
    (word 8).alarmWord.getLsbD 3 = true ∧
    ((word 1).alarmWord.getLsbD 3 = false ∧ (word 1).alarmWord.getLsbD 0 = true) ∧
    goodRecord.alarmWord.getLsbD 0 = false ∧
    p.classEntry 2 = none ∧ p.classEntry 1 = some e ∧
    (some (⟨1, 2, 3, 7⟩ : Identity)).map Identity.serial = some 7 ∧
    (none : Option Identity).map Identity.serial ≠ some 7 ∧
    ((9000 : Int) ≤ e.vMin.toNat ∧ ¬ e.vMin.toNat ≤ 8999 ∧ ¬ 12901 ≤ e.vMax.toNat ∧
      12900 ≤ e.vMax.toNat) ∧
    (e.dMin.toInt ≤ -200 ∧ ¬ e.dMin.toInt ≤ -201 ∧ 600 ≤ e.dMax.toInt ∧ ¬ 601 ≤ e.dMax.toInt) := by
  decide

/-- A sensor that converts. -/
def converting (c : LightCondition) (owed : Bool) (n : Nat) : Sensor :=
  { ready.light.front with
    condition := c, discardOwed := owed, failures := n, conversion := some ⟨125, 0⟩,
    stale := some ⟨1000, 0⟩ }

theorem witness_LightSensorsFollowTheirEvents :
    ready.light.front.conversion = none ∧ (converting .starting true 0).conversion.isSome = true ∧
    (converting .starting true 0).discardOwed = true ∧
    (converting .fresh false 0).discardOwed = false ∧
    (converting .fresh false 1).failures < 2 ∧ 2 ≤ (converting .stale false 2).failures ∧
    ready.light.front.stale = none ∧ (converting .fresh false 0).stale.isSome = true ∧
    (converting .fresh false 0).conversion = some ⟨125, 0⟩ ∧
    (⟨125, 1⟩ : Timer).left ≠ 0 ∧ (⟨125, 0⟩ : Timer).left = 0 := by decide

theorem witness_BrightnessTickRunsThePipeline :
    ready.back.tick = none ∧ { ready.back with tick := some ⟨50, 0⟩ }.tick.isSome = true ∧
    ready.streams.light.enabled = false ∧ ready.back.on = false ∧
    { ready.back with on := true }.on = true := by decide

theorem witness_CurveIsReadBetweenItsPoints :
    curveValid defaultCurve ∧ defaultCurve.head? = some ⟨0, 40⟩ ∧ 0 ≤ 0 ∧
    defaultCurve.getLast? = some ⟨100000, 1500⟩ ∧ 100000 ≤ 100000 ∧
    defaultCurve[0]? = some ⟨0, 40⟩ ∧ defaultCurve[0 + 1]? = some ⟨1000, 200⟩ ∧ 999 < 1000 ∧
    { ready.back with tick := some ⟨50, 0⟩, on := true, filtered := some 500 }.filtered = some 500 ∧
    ready.light.front.condition ≠ .fresh ∧ ready.light.rear.condition ≠ .fresh :=
  ⟨by unfold curveValid; decide, by decide⟩

theorem witness_AccelerometerFollowsItsEvents :
    ready.due = none ∧ ready.streams.accel.enabled = false ∧
    replaced.streams.replaces .accel = true ∧ ready.streams.replaces .accel = false ∧
    ready.motion.accel.condition = .starting ∧
    { ready.motion.accel with condition := .stale }.condition = .stale ∧
    { ready.motion.accel with condition := .running }.condition = .running ∧
    ready.motion.guard = .calm ∧
    (0 : Half).toInt.natAbs ^ 2 < (ready.motion.hardMg * 2048 / 1000) ^ 2 ∧
    (let n := (ready.motion.freeFallTime * ready.motion.accel.odr.hz + 999) / 1000
     ready.motion.freeFallRun + 1 < n) ∧
    ready.motion.accel.stale.left ≠ 0 ∧ { ready.motion.accel with stale := ⟨40, 0⟩ }.stale.left = 0 ∧
    ready.motion.accel.pendingOdr = none ∧
    { ready.motion.accel with pendingOdr := some .hz400 }.pendingOdr = some .hz400 ∧
    GuardState.falling ≠ .calm ∧ GuardState.impact ≠ .calm ∧ GuardState.settling ≠ .calm ∧
    { Working.clear with fallCount := some 20 }.fallCount = some 20 ∧
    ready.drop.log.length ≤ 16 ∧
    (let w := { Working.clear with windowPeak := some (accelOf 0 0 9000), kind := some .knock }
     w.windowPeak = some (accelOf 0 0 9000) ∧ w.kind = some .knock ∧ w.severity = none) := by
  decide

/-- The guard in a state, the sensor running at 400 Hz. -/
def guarding (g : GuardState) (run : Nat) : State :=
  { ready with motion := { ready.motion with
      guard := g, freeFallRun := run,
      work := { Working.clear with
        fallCount := some 39, catchRun := some 11, windowCount := some 7, kind := some .knock,
        windowPeak := some (accelOf 0 0 9000), settleCount := some 199 },
      accel := { ready.motion.accel with odr := .hz400, condition := .running, discards := 0 } } }

theorem witness_GuardTakesEachSample :
    DropLog.fresh.table = [0b001111, 0b010000, 0b010000, 0b110000, 0b010000, 0b110110] ∧
    (guarding .calm 19).due = none ∧ (guarding .calm 19).NoTrips ∧
    (guarding .calm 19).streams.accel.enabled = false ∧
    (guarding .calm 19).streams.replaces .accel = false ∧
    (guarding .calm 19).motion.accel.condition = .running ∧
    (let m := (guarding .calm 19).motion
     (m.hardMg * 2048 / 1000) ^ 2 ≤ (16384 : Half).toInt.natAbs ^ 2 ∧
     (0 : Half).toInt.natAbs ^ 2 < (m.freeFallMg * 2048 / 1000) ^ 2 ∧
     (m.freeFallTime * m.accel.odr.hz + 999) / 1000 ≤ m.freeFallRun + 1) ∧
    (State.reset.ctl.mode = .dormant ∧ ready.ctl.mode ≠ .dormant ∧ ready.drop.inForce = 0) ∧
    (let entry := ready.drop.entry .freeFall
     hasAction entry .park = true ∧ hasAction entry .lock = true ∧ hasAction entry .freeze = true ∧
     hasAction entry .hold = true ∧ hasAction (entry &&& 0b111110) .park = false ∧
     hasAction (ready.drop.entry .knockSevere) .suspect = true ∧ online.contact = true) ∧
    (let k := (guarding .falling 19).motion.conv
     let m2 := fun (x : Half) => x.toInt.natAbs ^ 2
     k.light2 ≤ m2 8192 ∧ m2 2048 < k.light2 ∧ k.freeFall2 ≤ m2 2048 ∧ m2 0 < k.freeFall2 ∧
     (0 < k.catchN ∧ 39 + 1 < k.maxFallN ∧ k.catchN ≤ 11 + 1 ∧ 10 + 1 < k.catchN) ∧
     k.maxFallN ≤ 799 + 1 ∧
     ((51 + 1 - 12) * 2500 / 1000 = 100 ∧ (50 + 1 - 12) * 2500 / 1000 < 100) ∧
     (7 + 1 = k.windowN ∧ 6 + 1 < k.windowN) ∧
     k.freeFallN ≤ 19 + 1 ∧ 18 + 1 < k.freeFallN ∧ k.settleN ≤ 199 + 1 ∧ 198 + 1 < k.settleN) ∧
    ((guarding .impact 0).motion.work.kind = some .knock ∧
      (guarding .impact 0).motion.work.severity = none) ∧
    (let w := { Working.clear with
      kind := some .fallImpact, severity := some .light, recordPeak := some (accelOf 0 0 9000) }
     w.kind = some .fallImpact ∧ w.severity = some .light ∧
       w.recordPeak = some (accelOf 0 0 9000) ∧ Severity.light.code < Severity.hard.code) ∧
    (let d := { DropLog.fresh with log := [logged], episodeRecord := true }
     d.episodeRecord = true ∧ d.log.getLast? = some logged ∧ d.log.length ≤ 16) :=
  ⟨rfl, rfl, ⟨rfl, rfl⟩, rfl, by decide, rfl, by decide, by decide, by decide, by decide, by decide,
    by decide, by decide⟩

/-- The premises of the blocks' parts of a settle's end, in `witness_GuardTakesEachSample`'s state. -/
theorem witness_GuardTakesEachSample_return :
    online.traffic.ident = none ∧ online.traffic.reverify = none ∧
    ({ online with loss := some ⟨5, true⟩ }.lossEndsAtReturn = true ∧
      { online with loss := some ⟨4, true⟩ }.lossEndsAtReturn = false ∧ online.state ≠ .empty) ∧
    { online with state := .identifying, decisionDeferred := true }.decisionDeferred = true ∧
    (let y := { online with state := .releasing, returnPending := true }
     y.state = .releasing ∧ y.returnPending = true ∧ y.contact = true ∧
       y.decisionDeferred = false) ∧
    (let y := { online with state := .quarantined, record := { goodRecord with outcome := .tempOut } }
     y.state = .quarantined ∧ y.record.outcome = .tempOut ∧
       y.record.temperature.isSome = true ∧
       readmissionPasses Policy.defaults y.record = true) ∧
    (let q := { logged with actions := 0b010000, isOpen := true }
     let d := { DropLog.fresh with log := [q], episodeRecord := true }
     d.episodeRecord = true ∧ d.log.getLast? = some q ∧ hasAction q.actions .reverify = true ∧
       q.isOpen = true ∧ q.verify.get .a = none ∧ q.snapshot.state.get .a = .online ∧
       q.snapshot.state.get .b ≠ .online) ∧
    hasAction logged.actions .reverify = false ∧
    ({ online with state := .silent }.state.traffic = false ∧ online.state.traffic = true ∧
      { Traffic.fresh with bus := some hostRead }.bus.isSome = true ∧ online.traffic.bus = none ∧
      online.traffic.waiting = [] ∧ online.traffic.alert = false ∧ online.traffic.round = none) ∧
    (DropLog.fresh.episodeRecord = false ∧ hasAction 0b001000 .hold = true ∧
      { Traffic.fresh with waiting := [request] }.waiting = request :: []) ∧
    Policy.defaults.ownEntry .serial = some ⟨1, 0x33, 1, 1, 1, 11, 0, 1⟩ ∧
    { Policy.defaults with commands := [] }.ownEntry .serial = none := by decide

/-- A log whose newest record is OPEN, and no other. -/
def openLog : State :=
  { ready with drop := { DropLog.fresh with
      log := [logged, { logged with isOpen := true, severity := some .light }],
      episodeRecord := true } }

theorem openLog_sound : openLog.LogSound := by
  intro n r h ho
  match n, h with
  | 0, h => cases h; cases ho
  | 1, _ => rfl
  | n + 2, h => cases h

theorem witness_ReportsBecomeRecords :
    4294967295 < 2 ^ 32 ∧ (List.replicate 16 logged).length ≤ 16 ∧ openLog.LogSound ∧
    openLog.drop.holdsOpen = true ∧
    RecordKind.knock = .knock ∧ RecordKind.fallImpact = .fallImpact ∧
    some Severity.hard = some .hard ∧ (none : Option Severity) = none ∧
    openLog.drop.log = [logged] ++ [{ logged with isOpen := true, severity := some .light }] ∧
    (openLog.drop.episodeRecord = true ∧ DropLog.fresh.episodeRecord = false) ∧
    (Severity.hard.code ≤ Severity.hard.code ∧ Severity.light.code < Severity.hard.code) ∧
    (logged.isOpen = false ∧ logged.verify.get .a = none ∧
      (⟨some .verified, none⟩ : Both (Option VerifyOutcome)).get .a = some .verified) ∧
    (let x := { hostRead with owner := .reverify .record, snoop := .serial }
     let y := { online with traffic := { Traffic.fresh with bus := some x } }
     (withA y).due = none ∧ (withA y).NoTrips ∧ y.traffic.bus = some x ∧
       x.owner = .reverify .record ∧ x.write = false ∧ x.limit.left = 0 ∧
       ([7, 0] : List Byte).length = x.size.bytes ∧ y.traffic.waiting = [] ∧
       y.traffic.alert = false ∧ y.traffic.ident = none ∧ y.traffic.reverify = none ∧
       y.traffic.round = none ∧
       y.traffic.failures ≠ Policy.defaults.lockoutLimit.get .a ∧
       y.record.identity = some ⟨1, 11000, 5000, 7⟩ ∧ leNat [7, 0] = 7 ∧ leNat [8, 0] ≠ 7 ∧
       ReverifyDest.record ≠ .withdrawn ∧ y.state.traffic = true ∧
       { Policy.defaults with commands := [] }.ownEntry .cls = none ∧
       Policy.defaults.ownEntry .cls = some ⟨1, 0x30, 1, 1, 1, 8, 0, 1⟩) :=
  ⟨by decide, by decide, openLog_sound, by decide, rfl, rfl, rfl, rfl, rfl, by decide, by decide,
    by decide, rfl, ⟨rfl, rfl⟩, by decide⟩

/-- Both streams on, in ACTIVE, with a count of 2 toward the divider. -/
def streaming (divider : Nat) (busy : Bool) : State :=
  { ready with
    ctl := { ready.ctl with mode := .active },
    back := { ready.back with tick := some ⟨50, 0⟩ },
    streams := { ready.streams with
      accel := ⟨true, divider, 2, 65535⟩, light := ⟨true, divider, 2, 65535⟩ },
    motion := { ready.motion with
      accel := { ready.motion.accel with condition := .running, discards := 0 } },
    link := { ready.link with
      sending := if busy then some (.accelSample ⟨1, 0, 0, 0, 0, false, false⟩) else none } }

theorem witness_StreamsForwardTheirItems :
    let s := streaming 3 false
    s.due = none ∧ s.ctl.mode = .active ∧ s.streams.light.enabled = true ∧
    s.back.tick.isSome = true ∧ s.streams.light.divider ≤ s.streams.light.count + 1 ∧
    (streaming 4 false).streams.light.count + 1 < (streaming 4 false).streams.light.divider ∧
    (streaming 3 true).link.sending.isSome = true ∧
    s.link.sending = none ∧ s.lines.resetN = true ∧ s.link.responses = [] ∧
    s.link.alerts = [] ∧ s.link.accelSlot = none ∧
    s.streams.accel.enabled = true ∧ s.streams.replaces .accel = false ∧
    s.NoTrips ∧ { s.ctl with mode := .watch }.mode ≠ .dormant ∧ s.ctl.mode ≠ .dormant ∧
    s.motion.accel.condition = .running ∧ s.motion.guard = .calm ∧
    (∀ i, (s.bay i).lossEndsAtReturn = false) ∧ State.reset.ctl.mode = .dormant ∧
    (2048 : Half).toInt.natAbs ^ 2 < (s.motion.hardMg * 2048 / 1000) ^ 2 ∧
    (s.motion.freeFallMg * 2048 / 1000) ^ 2 ≤ (2048 : Half).toInt.natAbs ^ 2 := by
  and_intros <;> first | rfl | decide | (intro i; cases i <;> rfl)

end Sys2Proof.Tests
end

section
/-!
PROOFS. Stage 2 of the backlight pipeline (R113): what a strictly increasing curve gives below its
first point, on each segment and from its last point on, and that the brightness tick reads the
working curve at the filtered illuminance.
-/

namespace Sys2Proof.Proofs.CurveRead
open Sys2Proof.Machine

/-! ### Strictly increasing curves -/

theorem increasing_cons_cons {p q : CurvePoint} {ps : List CurvePoint} :
    increasing (p :: q :: ps) = true ↔ p.lux < q.lux ∧ increasing (q :: ps) = true := by
  simp [increasing]

theorem head_lux_lt {p r : CurvePoint} {ps : List CurvePoint} (h : increasing (p :: ps) = true)
    (hr : r ∈ ps) : p.lux < r.lux := by
  induction ps generalizing p with
  | nil => cases hr
  | cons q qs ih =>
    obtain ⟨hpq, hqs⟩ := increasing_cons_cons.mp h
    rcases List.mem_cons.mp hr with rfl | hr
    · exact hpq
    · exact hpq.trans (ih hqs hr)

theorem head_lux_le {p r : CurvePoint} {ps : List CurvePoint} (h : increasing (p :: ps) = true)
    (hr : r ∈ p :: ps) : p.lux ≤ r.lux := by
  rcases List.mem_cons.mp hr with rfl | hr
  · exact le_rfl
  · exact (head_lux_lt h hr).le

theorem eq_head_of_lux_le {p r : CurvePoint} {ps : List CurvePoint}
    (h : increasing (p :: ps) = true) (hr : r ∈ p :: ps) (hle : r.lux ≤ p.lux) : r = p := by
  rcases List.mem_cons.mp hr with rfl | hr
  · rfl
  · exact absurd hle (head_lux_lt h hr).not_ge

/-! ### One segment -/

/-- The floor of a part of `e` lies between 0 and `e`, whichever sign `e` has. -/
theorem ediv_between {t d e : Int} (ht : 0 ≤ t) (htd : t < d) :
    min 0 e ≤ t * e / d ∧ t * e / d ≤ max 0 e := by
  have hd : 0 < d := by omega
  rcases le_total 0 e with he | he
  · have hle : t * e ≤ e * d := by nlinarith
    rw [min_eq_left he, max_eq_right he]
    exact ⟨Int.ediv_nonneg (mul_nonneg ht he) hd.le, Int.ediv_le_of_le_mul hd hle⟩
  · have hle : e * d ≤ t * e := by nlinarith
    have hnp : t * e ≤ 0 * d := by nlinarith
    rw [min_eq_right he, max_eq_left he]
    exact ⟨Int.le_ediv_of_mul_le hd hle, Int.ediv_le_of_le_mul hd hnp⟩

/-- On its segment the line never goes below 0, so the reading at `Nat` cuts nothing off. -/
theorem interpolate_cast {p q : CurvePoint} {a : Nat} (hp : p.lux ≤ a) (hq : a < q.lux) :
    (interpolate p q a : Int) =
      p.nits + (((a : Int) - p.lux) * ((q.nits : Int) - p.nits)) / ((q.lux : Int) - p.lux) := by
  have hlow := (ediv_between (t := a - p.lux) (d := q.lux - p.lux) (e := q.nits - p.nits)
    (by omega) (by omega)).1
  exact Int.toNat_of_nonneg (by omega)

theorem interpolate_between {p q : CurvePoint} {a : Nat} (hp : p.lux ≤ a) (hq : a < q.lux) :
    min p.nits q.nits ≤ interpolate p q a ∧ interpolate p q a ≤ max p.nits q.nits := by
  obtain ⟨hlow, hhigh⟩ := ediv_between (t := a - p.lux) (d := q.lux - p.lux)
    (e := q.nits - p.nits) (by omega) (by omega)
  have hval := interpolate_cast hp hq
  omega

@[simp] theorem interpolate_left (p q : CurvePoint) : interpolate p q p.lux = p.nits := by
  simp [interpolate]

/-! ### The walk along the segments -/

theorem curveFrom_of_lt {a : Nat} {p q : CurvePoint} {qs : List CurvePoint} (h : a < q.lux) :
    curveFrom a p (q :: qs) = interpolate p q a := if_pos h

theorem curveFrom_of_le {a : Nat} {p q : CurvePoint} {qs : List CurvePoint} (h : q.lux ≤ a) :
    curveFrom a p (q :: qs) = curveFrom a q qs := if_neg h.not_gt

theorem curveFrom_past_last {a : Nat} {p r : CurvePoint} {qs : List CurvePoint}
    (h : increasing (p :: qs) = true) (hr : (p :: qs).getLast? = some r) (ha : r.lux ≤ a) :
    curveFrom a p qs = r.nits := by
  induction qs generalizing p with
  | nil =>
    obtain rfl : p = r := by simpa using hr
    rfl
  | cons q qs ih =>
    have hqs := (increasing_cons_cons.mp h).2
    have hr' : (q :: qs).getLast? = some r := by rwa [List.getLast?_cons_cons] at hr
    have hqr := head_lux_le hqs (List.mem_of_getLast? hr')
    rw [curveFrom_of_le (hqr.trans ha), ih hqs hr']

theorem curveFrom_on_segment {a n : Nat} {p l r : CurvePoint} {qs : List CurvePoint}
    (h : increasing (p :: qs) = true) (hl : (p :: qs)[n]? = some l)
    (hr : (p :: qs)[n + 1]? = some r) (hla : l.lux ≤ a) (har : a < r.lux) :
    curveFrom a p qs = interpolate l r a := by
  induction qs generalizing p n with
  | nil => simp at hr
  | cons q qs ih =>
    cases n with
    | zero =>
      obtain ⟨rfl, rfl⟩ : p = l ∧ q = r := by simpa using And.intro hl hr
      exact curveFrom_of_lt har
    | succ n =>
      rw [List.getElem?_cons_succ] at hl hr
      have hqs := (increasing_cons_cons.mp h).2
      have hql := head_lux_le hqs (List.mem_of_getElem? hl)
      rw [curveFrom_of_le (hql.trans hla), ih hqs hl hr]

/-! ### The curve read -/

theorem curveAt_of_le {a : Nat} {p : CurvePoint} {ps : List CurvePoint} (h : a ≤ p.lux) :
    curveAt (p :: ps) a = p.nits := if_pos h

theorem curveAt_of_lt {a : Nat} {p : CurvePoint} {ps : List CurvePoint} (h : p.lux < a) :
    curveAt (p :: ps) a = curveFrom a p ps := if_neg h.not_ge

theorem curveAt_before_first {a : Nat} {p : CurvePoint} {pts : List CurvePoint}
    (hp : pts.head? = some p) (ha : a ≤ p.lux) : curveAt pts a = p.nits := by
  obtain ⟨ps, rfl⟩ := List.head?_eq_some_iff.mp hp
  exact curveAt_of_le ha

theorem curveAt_past_last {a : Nat} {r : CurvePoint} {pts : List CurvePoint}
    (h : increasing pts = true) (hr : pts.getLast? = some r) (ha : r.lux ≤ a) :
    curveAt pts a = r.nits := by
  cases pts with
  | nil => simp at hr
  | cons p ps =>
    rcases le_or_gt a p.lux with hap | hpa
    · rw [curveAt_of_le hap, eq_head_of_lux_le h (List.mem_of_getLast? hr) (ha.trans hap)]
    · rw [curveAt_of_lt hpa, curveFrom_past_last h hr ha]

theorem curveAt_on_segment {a n : Nat} {l r : CurvePoint} {pts : List CurvePoint}
    (h : increasing pts = true) (hl : pts[n]? = some l) (hr : pts[n + 1]? = some r)
    (hla : l.lux ≤ a) (har : a < r.lux) : curveAt pts a = interpolate l r a := by
  cases pts with
  | nil => simp at hl
  | cons p ps =>
    rcases le_or_gt a p.lux with hap | hpa
    · obtain rfl := eq_head_of_lux_le h (List.mem_of_getElem? hl) (hla.trans hap)
      obtain rfl : a = l.lux := le_antisymm hap hla
      rw [curveAt_of_le hap, interpolate_left]
    · rw [curveAt_of_lt hpa, curveFrom_on_segment h hl hr hla har]

/-! ### The tick reads the working curve -/

@[simp] theorem redrive_stages (undriven : Bool) (k : Backlight) :
    (Backlight.redrive undriven k).stages = k.stages := by
  cases undriven <;> rfl

theorem pipeline_n (undriven : Bool) (a : Nat) (theta : Int) (k : Backlight) :
    (Backlight.pipeline undriven a theta k).stages.map Stages.n = some (curveAt k.working a) := by
  simp [Backlight.pipeline]

/-- With E_eff absent the filter holds A (R112), and the tick reads the working curve there. -/
theorem tickStages_n_of_held {k : Backlight} {a : Nat} (undriven : Bool) (theta : Int)
    (hon : k.on = true) (ha : k.filtered = some a) :
    (Backlight.tickStages undriven none theta k).stages.map Stages.n =
      some (curveAt k.working a) := by
  simp [Backlight.tickStages, filterStage, ha, hon, pipeline_n]

theorem usable_of_not_fresh {r : Sensor} (h : r.condition ≠ .fresh) : r.usable = none := if_neg h

theorem brightnessTick_back (s : State) :
    s.brightnessTick.back = Backlight.tickStages (undriven s)
      (fuse s.light.weight s.light.front.usable s.light.rear.usable) s.light.tickTheta s.back := by
  simp only [State.brightnessTick, State.offerLight_frame, State.onBack_back]
  split <;> rfl

theorem exec_brightnessTick_of_running {s : State} (h : s.back.tick.isSome = true) :
    exec .brightnessTick s = .next s.brightnessTick :=
  congrArg Host.Outcome.next (if_pos h)

/-- Settles O56: the walk along the segments ends at the one that holds `a`, and there the line's
floor lies between the two ends. -/
theorem curveIsReadBetweenItsPoints : Obligations.CurveIsReadBetweenItsPoints := by
  unfold Obligations.CurveIsReadBetweenItsPoints
  refine ⟨fun pts a ⟨_, _, hinc, _⟩ => ⟨fun p hp ha => ?first, fun p hp ha => ?last,
    fun n p q hp hq hpa haq => ?segment⟩, rfl, fun s a htick hon ha hfront hrear =>
    ⟨s.brightnessTick, exec_brightnessTick_of_running htick, ?tick⟩⟩
  case first => exact curveAt_before_first hp ha
  case last => exact curveAt_past_last hinc hp ha
  case segment =>
    rw [curveAt_on_segment hinc hp hq hpa haq]
    exact ⟨interpolate_cast hpa haq, interpolate_between hpa haq⟩
  case tick =>
    rw [brightnessTick_back, usable_of_not_fresh hfront, usable_of_not_fresh hrear]
    exact tickStages_n_of_held _ _ hon ha

end Sys2Proof.Proofs.CurveRead
end

section
/-!
PROOFS. The controls of the trunk link and of the streams (R161, R186, R190): a WRITE that covers one
setting of its space's map, and a READ of it, then what each control takes, refuses and reads as.
-/

namespace Sys2Proof.Proofs.LinkControls
open Sys2Proof.Machine

/-! ### A READ of one setting (R183) -/

theorem coversExtent_rw' (off n : Nat) (x : Setting) : coversExtent [rw' off n x] off n = true := by
  simp [coversExtent, spanEnd, rw']

theorem readsAbsent_rw' (s : State) (sp : Space) (off n : Nat) (x : Setting) :
    readsAbsent s sp [rw' off n x] = false := by
  simp [readsAbsent, windowAbsent, Loc.absentGroup, rw']

theorem extentBytes_rw' (s : State) (off n : Nat) (x : Setting) (hx : (x.get s).length = n) :
    extentBytes s [rw' off n x] off n = x.get s := by
  simp [extentBytes, Loc.bytes, exactly, rw', ← hx]

theorem readAnswer_setting {s : State} {sp : Space} {off n : Nat} {x : Setting}
    (ht : touched (spaceMap sp) off n = [rw' off n x]) (hx : (x.get s).length = n) (hn : 0 < n)
    (hle : n ≤ 32) : readAnswer s sp off n = (.ok, x.get s) := by
  simp [readAnswer, ht, coversExtent_rw', readsAbsent_rw', extentBytes_rw' s off n x hx, hn.ne',
    hle.not_gt]

/-! ### A WRITE of one setting (R184) -/

theorem writeKind_rw' (m : ClearMode) (off : Nat) (data : List Byte) (x : Setting) :
    writeKind m [rw' off data.length x] off data = .fields 0 [(x, data)] := by
  simp [writeKind, fitsExtent, spanEnd, Access.readOnly, writtenFlags, writtenSettings, rw']

@[simp] theorem set_get (fs : SpaceFlags) (sp : Space) : fs.set sp (fs.get sp) = fs := by
  cases sp <;> rfl

@[simp] theorem clearFlags_zero (s : State) (sp : Space) : s.clearFlags sp 0 = s := by
  have hkeep : s.flags.get sp &&& ~~~0 = s.flags.get sp := BitVec.and_allOnes
  simp only [State.clearFlags, State.onFlags, hkeep, set_get]

@[simp] theorem spaceOf_spaceDest (sp : Space) : spaceOf (spaceDest sp) = some sp := by
  cases sp <;> rfl

theorem dispatch_write {s : State} {tag : Byte} {sp : Space} {off : Half} {data : List Byte}
    (hn : 0 < data.length) (hle : data.length ≤ 32) :
    s.dispatch (writePacket tag (spaceDest sp) off data) =
      s.writeSpace sp (writePacket tag (spaceDest sp) off data) data := by
  have hlen : 1 ≤ data.length ∧ data.length ≤ 32 := ⟨hn, hle⟩
  simp [State.dispatch, State.writeRequest, writePacket, hlen]

/-- A hub that takes packets hands a WRITE of one whole setting to that setting alone (R184). -/
theorem receivePacket_settingWrite {s : State} (h : s.Takes) {tag : Byte} {sp : Space} {off : Half}
    {data : List Byte} {x : Setting} (hn : 0 < data.length) (hle : data.length ≤ 32)
    (ht : touched (spaceMap sp) off.toNat data.length = [rw' off.toNat data.length x]) :
    s.receivePacket (writePacket tag (spaceDest sp) off data) =
      conclude sp (writePacket tag (spaceDest sp) off data)
        (s.heard.takeFields sp 0 [(x, data)]) := by
  have hlen : (writePacket tag (spaceDest sp) off data).len ≤ 38 := by
    simp only [Packet.len, writePacket]
    omega
  rw [State.receivePacket_taken h rfl hlen, dispatch_write hn hle]
  simp only [State.writeSpace]
  rw [show (writePacket tag (spaceDest sp) off data).offset = off from rfl, ht, writeKind_rw']

theorem answer_badValue (s : State) (sp : Space) (p : Packet) :
    s.answer sp p .badValue [] = { s with
      flags := s.flags.raised sp (2 ||| 8) }.answered p.tag p.dest p.offset .badValue [] := by
  have hflags : s.answerFlags sp .badValue = { s with flags := s.flags.raised sp (2 ||| 8) } := by
    cases sp <;>
      simp [State.answerFlags, State.raise, State.onFlags, SpaceFlags.raised, SpaceFlags.get,
        SpaceFlags.set, Flag.mask, Flag.bit, BitVec.or_assoc]
  simp only [State.answer, hflags, State.answered]

theorem takeFields_refused {s : State} {sp : Space} {x : Setting} {data : List Byte}
    (hx : x.accepts data = false) : s.takeFields sp 0 [(x, data)] = (s, .badValue) := by
  simp [State.takeFields, hx]

/-- A value that its setting refuses changes nothing but the flags (R185, R196). -/
theorem settingWrite_refused {s : State} (h : s.Takes) {tag : Byte} {sp : Space} {off : Half}
    {data : List Byte} {x : Setting} (hn : 0 < data.length) (hle : data.length ≤ 32)
    (ht : touched (spaceMap sp) off.toNat data.length = [rw' off.toNat data.length x])
    (hx : x.accepts data = false) :
    s.receivePacket (writePacket tag (spaceDest sp) off data) = { s.heard with
      flags := s.flags.raised sp (2 ||| 8) }.answered tag (spaceDest sp) off .badValue [] := by
  rw [receivePacket_settingWrite h hn hle ht, takeFields_refused hx, conclude_of_settled h.settled,
    answer_badValue]
  rfl

/-! ### The four controls -/

/-- Where the controls stand in their maps: space, offset, size and setting (R198). -/
inductive ControlAt : Space → Half → Nat → Setting → Prop where
  | forwarding : ControlAt .hub 7 1 .alertForwarding
  | attention : ControlAt .hub 8 1 .attention
  | accelStream : ControlAt .motion 0x70 2 (.stream .accel)
  | lightStream : ControlAt .motion 0x72 2 (.stream .light)

namespace ControlAt
variable {sp : Space} {off : Half} {n : Nat} {x : Setting}

theorem touched_eq (hc : ControlAt sp off n x) :
    touched (spaceMap sp) off.toNat n = [rw' off.toNat n x] := by
  cases hc <;> rfl

theorem size_pos (hc : ControlAt sp off n x) : 0 < n := by cases hc <;> decide

theorem size_le (hc : ControlAt sp off n x) : n ≤ 32 := by cases hc <;> decide

/-- No control is a table entry, an impact threshold, L_max or Q, nor an event of the supply
controller: a WRITE of one ends with its own effect. -/
theorem takeFields_eq (hc : ControlAt sp off n x) {s : State} {data : List Byte}
    (hx : x.accepts data = true) : s.takeFields sp 0 [(x, data)] = (x.put data s, .ok) := by
  have hplain : structureOk [x] (x.put data s).policy (x.put data s).motion = true ∧
      (x.put data s).afterPuts [x] = x.put data s := by
    cases hc <;> exact ⟨rfl, rfl⟩
  simp only [State.takeFields, clearFlags_zero]
  simp [State.putAll, hx, hplain]

theorem put_due (hc : ControlAt sp off n x) (s : State) (data : List Byte) :
    (x.put data s).due = s.due := by
  cases hc <;> simp [Setting.put]

theorem write_refused (hc : ControlAt sp off n x) {s : State} (h : s.Takes) {tag : Byte}
    {data : List Byte} (hn : data.length = n) (hx : x.accepts data = false) :
    s.receivePacket (writePacket tag (spaceDest sp) off data) = { s.heard with
      flags := s.flags.raised sp (2 ||| 8) }.answered tag (spaceDest sp) off .badValue [] := by
  subst hn
  exact settingWrite_refused h hc.size_pos hc.size_le hc.touched_eq hx

theorem write_taken (hc : ControlAt sp off n x) {s : State} (h : s.Takes) {tag : Byte}
    {data : List Byte} (hn : data.length = n) (hx : x.accepts data = true) :
    s.receivePacket (writePacket tag (spaceDest sp) off data) =
      (x.put data s.heard).answered tag (spaceDest sp) off .ok [] := by
  subst hn
  have hdue : (x.put data s.heard).due = none := (hc.put_due _ _).trans h.settled
  rw [receivePacket_settingWrite h hc.size_pos hc.size_le hc.touched_eq, hc.takeFields_eq hx,
    conclude_of_settled hdue]
  rfl

end ControlAt

/-! ### The streams after a reset (R169) -/

theorem fullReset_streams (s : State) : s.fullReset.streams = .fresh := by
  simp only [State.fullReset, State.closeEvent_frame, State.arbitrateBoth_frame,
    State.onBack_frame, State.leftReleasing_frame, State.fullResetSupply_frame]
  rfl

theorem setStimulus_streams (s : State) (u : Streams) : (s.setStimulus u).streams = u := by
  simp only [State.setStimulus, State.onBack_frame, State.syncPins_frame]
  split <;> simp

theorem controlReset_streams (s : State) : s.controlReset.streams = .fresh := by
  simp only [State.controlReset, State.onLink_frame, setStimulus_streams]

theorem powerOn_streams (s : State) : s.powerOn.streams = .fresh := by
  simp only [State.powerOn, State.closeEvent_frame, State.senseAdapter_frame,
    State.senseContact_frame]
  rfl

/-! ### What the controls accept -/

theorem accepts_attention (v : Byte) :
    Setting.accepts [v] .attention = decide (v.toNat < 128) := by
  simp [Setting.accepts, leNat]

theorem accepts_forwarding (v : Byte) :
    Setting.accepts [v] .alertForwarding = decide (v.toNat ≤ 1) := by
  simp [Setting.accepts, leNat]

theorem accepts_stream (st : StreamId) (v w : Byte) :
    Setting.accepts [v, w] (.stream st) = decide (v.toNat ≤ 1) := by
  simp [Setting.accepts, byteAt]

/-! ### What the controls store -/

theorem put_attention (s : State) (v : Byte) :
    Setting.put [v] s .attention = { s with link := { s.link with attention := v.setWidth 7 } } := by
  simp [Setting.put, State.onLink, leNat]

/-- A switch off discards the pending sample of a stream that was enabled; one that was not keeps
its slot as it is. -/
theorem put_accelStream_off (s : State) (w : Byte) :
    Setting.put [0, w] s (.stream .accel) = { s with
      streams := { s.streams with accel := { s.streams.accel with enabled := false } },
      link := { s.link with
        accelSlot := if s.streams.accel.enabled then none else s.link.accelSlot } } := by
  cases h : s.streams.accel.enabled <;>
    simp [Setting.put, State.writeStream, byteAt, StreamCtl.write, h, Link.discardSlot,
      State.onStreams, State.onLink]

theorem put_lightStream_off (s : State) (w : Byte) :
    Setting.put [0, w] s (.stream .light) = { s with
      streams := { s.streams with light := { s.streams.light with enabled := false } },
      link := { s.link with
        lightSlot := if s.streams.light.enabled then none else s.link.lightSlot } } := by
  cases h : s.streams.light.enabled <;>
    simp [Setting.put, State.writeStream, byteAt, StreamCtl.write, h, Link.discardSlot,
      State.onStreams, State.onLink]

/-- A stream that is enabled already keeps its control, whatever divider is written. -/
theorem write_of_enabled {c : StreamCtl} (h : c.enabled = true) (d : Nat) : c.write true d = c :=
  if_pos h

theorem write_of_disabled {c : StreamCtl} (h : c.enabled = false) (d : Nat) :
    c.write true d = ⟨true, min 255 (max 1 d), 0, 0⟩ := by
  simp [StreamCtl.write, h, clampNat]

theorem put_accelStream_on (s : State) (w : Byte) :
    Setting.put [1, w] s (.stream .accel) =
      { s with streams := { s.streams with accel := s.streams.accel.write true w.toNat } } := by
  simp [Setting.put, State.writeStream, byteAt, State.onStreams]

theorem put_lightStream_on (s : State) (w : Byte) :
    Setting.put [1, w] s (.stream .light) =
      { s with streams := { s.streams with light := s.streams.light.write true w.toNat } } := by
  simp [Setting.put, State.writeStream, byteAt, State.onStreams]

/-- Settles O39: each command is a WRITE of one control of its map, which the control either refuses
or takes with the effect that its rule names. -/
theorem linkControlsAreWritten : Obligations.LinkControlsAreWritten := by
  unfold Obligations.LinkControlsAreWritten
  intro s tag v w h refused hub stream
  refine ⟨?readAccel, ?readLight, ⟨?full, ?control, ?power⟩, fun hv => ?attentionRefused,
    fun hv => ?attention, fun hv => ⟨?forwardingRefused, ?accelRefused, ?lightRefused⟩,
    ?off, ?on⟩
  case readAccel =>
    exact readAnswer_setting ControlAt.accelStream.touched_eq rfl ControlAt.accelStream.size_pos
      ControlAt.accelStream.size_le
  case readLight =>
    exact readAnswer_setting ControlAt.lightStream.touched_eq rfl ControlAt.lightStream.size_pos
      ControlAt.lightStream.size_le
  case full => simp [fullReset_streams, Streams.fresh, StreamCtl.fresh]
  case control => simp [controlReset_streams, Streams.fresh, StreamCtl.fresh]
  case power => simp [powerOn_streams, Streams.fresh, StreamCtl.fresh]
  case attentionRefused =>
    exact congrArg Host.Outcome.next (ControlAt.attention.write_refused h rfl (by
      simpa [accepts_attention] using hv))
  case attention =>
    have hw := ControlAt.attention.write_taken h (tag := tag) (data := [v]) rfl (by
      simpa [accepts_attention] using hv)
    rw [put_attention] at hw
    exact congrArg Host.Outcome.next hw
  case forwardingRefused =>
    exact congrArg Host.Outcome.next (ControlAt.forwarding.write_refused h rfl (by
      simpa [accepts_forwarding] using hv))
  case accelRefused =>
    exact congrArg Host.Outcome.next (ControlAt.accelStream.write_refused h rfl (by
      simpa [accepts_stream] using hv))
  case lightRefused =>
    exact congrArg Host.Outcome.next (ControlAt.lightStream.write_refused h rfl (by
      simpa [accepts_stream] using hv))
  case off =>
    rintro rfl
    have hf := ControlAt.forwarding.write_taken h (tag := tag) (data := [0]) rfl rfl
    have ha := ControlAt.accelStream.write_taken h (tag := tag) (data := [0, w]) rfl rfl
    have hl := ControlAt.lightStream.write_taken h (tag := tag) (data := [0, w]) rfl rfl
    rw [put_accelStream_off] at ha
    rw [put_lightStream_off] at hl
    exact ⟨congrArg _ hf, congrArg _ ha, congrArg _ hl⟩
  case on =>
    rintro rfl
    have hf := ControlAt.forwarding.write_taken h (tag := tag) (data := [1]) rfl rfl
    have ha := ControlAt.accelStream.write_taken h (tag := tag) (data := [1, w]) rfl rfl
    have hl := ControlAt.lightStream.write_taken h (tag := tag) (data := [1, w]) rfl rfl
    rw [put_accelStream_on, State.heard_streams] at ha
    rw [put_lightStream_on, State.heard_streams] at hl
    refine ⟨congrArg _ hf, fun he => ?_, fun he => ?_, fun he => ?_, fun he => ?_⟩
    · rw [write_of_enabled he] at ha
      exact congrArg _ ha
    · rw [write_of_enabled he] at hl
      exact congrArg _ hl
    · rw [write_of_disabled he] at ha
      exact congrArg _ ha
    · rw [write_of_disabled he] at hl
      exact congrArg _ hl

end Sys2Proof.Proofs.LinkControls
end

section
/-!
PROOFS. The receiver (R181): what each framing state makes of one received byte, the discard of a
partial packet, and that what an event does at its end never touches the framing state, so that
every reset leaves the receiver in HUNT.
-/

namespace Sys2Proof.Proofs.Receiver
open Sys2Proof.Machine

/-! ### The gate of RESET_N (R191) -/

theorem exec_byteReceived_of_low {s : State} (h : s.lines.resetN = false) (x : RxByte) :
    exec (.byteReceived x) s = .next s :=
  congrArg Host.Outcome.next (if_neg (by simp [h]))

theorem exec_byteReceived_of_high {s : State} (h : s.lines.resetN = true) (x : RxByte) :
    exec (.byteReceived x) s = .next (s.receiveByte x) :=
  congrArg Host.Outcome.next (if_pos h)

/-! ### The discard of a partial packet -/

theorem discardFrame_eq (s : State) :
    s.discardFrame = { s.heard with flags := s.flags.raised .hub 16 } := rfl

theorem exec_truncated_of_running {s : State} (h : s.link.interByte.isSome = true) :
    exec .truncated s = .next { s.heard with flags := s.flags.raised .hub 32 } :=
  congrArg Host.Outcome.next (if_pos h)

/-! ### One byte in each framing state (R181) -/

section Framing
variable {s : State} {b len : Byte} {kept : List Byte}

theorem receiveByte_hunt_inError (h : s.link.rx = .hunt) : s.receiveByte .inError = s := by
  simp only [State.receiveByte, h]

theorem receiveByte_hunt_other (h : s.link.rx = .hunt) (hb : b ≠ 0xC3) :
    s.receiveByte (.good b) = s := by
  simp only [State.receiveByte, h, if_neg hb]

theorem receiveByte_hunt_sync (h : s.link.rx = .hunt) :
    s.receiveByte (.good 0xC3) = s.onLink (Link.receiving .length) := by
  simp only [State.receiveByte, h, if_pos]

/-- A byte in error spoils a partial packet, whichever part of it the receiver waits for. -/
theorem receiveByte_partial_inError (h : s.link.rx ≠ .hunt) :
    s.receiveByte .inError = s.discardFrame := by
  cases hrx : s.link.rx with
  | hunt => exact absurd hrx h
  | length => simp only [State.receiveByte, hrx]
  | body len kept => simp only [State.receiveByte, hrx]
  | check len kept => simp only [State.receiveByte, hrx]

theorem receiveByte_length_sound (h : s.link.rx = .length) (hb : 5 ≤ b.toNat ∧ b.toNat ≤ 38) :
    s.receiveByte (.good b) = s.onLink (Link.receiving (.body b [])) := by
  simp [State.receiveByte, h, hb]

theorem receiveByte_length_bad (h : s.link.rx = .length) (hb : b.toNat < 5 ∨ 38 < b.toNat) :
    s.receiveByte (.good b) = s.discardFrame := by
  have hout : ¬(5 ≤ b.toNat ∧ b.toNat ≤ 38) := by omega
  simp [State.receiveByte, h, hout]

theorem receiveByte_body_more (h : s.link.rx = .body len kept)
    (hlen : kept.length + 1 < len.toNat) :
    s.receiveByte (.good b) = s.onLink (Link.receiving (.body len (kept ++ [b]))) := by
  simp [State.receiveByte, h, hlen.not_ge]

theorem receiveByte_body_last (h : s.link.rx = .body len kept)
    (hlen : len.toNat ≤ kept.length + 1) :
    s.receiveByte (.good b) = s.onLink (Link.receiving (.check len (kept ++ [b]))) := by
  simp [State.receiveByte, h, hlen]

theorem receiveByte_check_match (h : s.link.rx = .check len kept) (hb : b = crc8 (len :: kept)) :
    s.receiveByte (.good b) = s.heard.handOn (packetOf kept) := by
  simp only [State.receiveByte, h, if_pos hb]
  rfl

theorem receiveByte_check_mismatch (h : s.link.rx = .check len kept)
    (hb : b ≠ crc8 (len :: kept)) : s.receiveByte (.good b) = s.discardFrame := by
  simp only [State.receiveByte, h, if_neg hb]

end Framing

/-! ### The framing state at an event's end -/

@[simp] theorem choose_rx (l : Link) : l.choose.rx = l.rx := by
  unfold Link.choose
  split <;> rfl

@[simp] theorem transmit_rx (s : State) : s.transmit.link.rx = s.link.rx := by
  unfold State.transmit
  split <;> simp

@[simp] theorem respond_rx (s : State) (r : Response) : (s.respond r).link.rx = s.link.rx := by
  unfold State.respond
  split <;> simp

@[simp] theorem answerFromRecord_rx (s : State) (i : BayId) (o : Answer) (r : HostRequest) :
    (s.answerFromRecord i o r).link.rx = s.link.rx := by
  unfold State.answerFromRecord
  split <;> exact respond_rx _ _

@[simp] theorem answerQueue_rx (s : State) (i : BayId) (o : Answer) (rs : List HostRequest) :
    (s.answerQueue i o rs).link.rx = s.link.rx := by
  induction rs generalizing s with
  | nil => rfl
  | cons r rs ih => exact (ih _).trans (answerFromRecord_rx s i o r)

@[simp] theorem takeTrip_rx (s : State) (i : BayId) : (s.takeTrip i).link.rx = s.link.rx := by
  simp [State.takeTrip, State.settleSilent]

@[simp] theorem endDeferral_rx (s : State) (i : BayId) : (s.endDeferral i).link.rx = s.link.rx := by
  unfold State.endDeferral
  split
  · exact takeTrip_rx s i
  · rfl

@[simp] theorem closeEventIn_rx (n : Nat) (s : State) :
    (s.closeEventIn n).link.rx = s.link.rx := by
  induction n generalizing s with
  | zero => simp [State.closeEventIn]
  | succ n ih =>
    unfold State.closeEventIn
    split
    · rfl
    · simp [ih]

@[simp] theorem closeEvent_rx (s : State) : s.closeEvent.link.rx = s.link.rx :=
  closeEventIn_rx 3 s

/-! ### The framing state after a reset -/

theorem fullReset_rx (s : State) : s.fullReset.link.rx = .hunt := by
  simp only [State.fullReset, closeEvent_rx, State.arbitrateBoth_frame, State.onBack_frame,
    State.leftReleasing_frame, State.fullResetSupply_frame]
  rfl

theorem controlReset_rx (s : State) : s.controlReset.link.rx = .hunt := by
  simp only [State.controlReset, State.onLink_link]
  rfl

theorem powerOn_rx (s : State) : s.powerOn.link.rx = .hunt := by
  simp only [State.powerOn, closeEvent_rx, State.senseAdapter_frame, State.senseContact_frame]
  rfl

/-- Settles O14, by the framing state that meets the byte. -/
theorem receiverTakesEachByte : Obligations.ReceiverTakesEachByte := by
  unfold Obligations.ReceiverTakesEachByte
  refine ⟨fun s b => ⟨exec_byteReceived_of_low, fun hr => ?bytes⟩,
    fun s => ⟨fullReset_rx s, controlReset_rx s, s.powerOn, rfl, powerOn_rx s⟩,
    fun s => exec_truncated_of_running⟩
  simp only [exec_byteReceived_of_high hr, ← discardFrame_eq]
  refine ⟨fun h => ⟨?noise, fun hb => ?other, ?sync⟩, fun h => ?inError,
    fun h => ⟨fun hb => ?len, fun hb => ?badLen⟩,
    fun len kept h => ⟨fun hl => ?more, fun hl => ?last⟩,
    fun len kept h => ⟨fun hb => ?sound, fun hb => ?spoilt⟩⟩
  case noise => rw [receiveByte_hunt_inError h]
  case other => rw [receiveByte_hunt_other h hb]
  case sync =>
    rintro rfl
    rw [receiveByte_hunt_sync h]
    rfl
  case inError => rw [receiveByte_partial_inError h]
  case len =>
    rw [receiveByte_length_sound h hb]
    rfl
  case badLen => rw [receiveByte_length_bad h hb]
  case more =>
    rw [receiveByte_body_more h hl]
    rfl
  case last =>
    rw [receiveByte_body_last h hl]
    rfl
  case sound => rw [receiveByte_check_match h hb]
  case spoilt => rw [receiveByte_check_mismatch h hb]

end Sys2Proof.Proofs.Receiver
end

section
/-!
PROOFS. What every event is made of. A predicate of the state that each elementary update of the block
keeps (`Kept`) is kept by every operation of the bay manager, the pack traffic units, the drop log unit
and the supply controller. Each operation is walked through once, here; an invariant is then shown of
the elementary updates alone.
-/

namespace Sys2Proof.Proofs
open Sys2Proof.Machine

/-! ### Changes that no invariant reads -/

/-- A change of a bay that no invariant of the block reads: the state, the latch and its reasons, the
pins, the gates, the record but for its outcome, and the identification stay as they are. -/
structure Bay.Quiet (y z : Bay) : Prop where
  state      : z.state = y.state
  record     : { z.record with outcome := y.record.outcome } = y.record
  latch      : z.latch = y.latch
  limit      : z.latchLimit.isSome = y.latchLimit.isSome
  solenoid   : z.solenoid = y.solenoid
  pin        : z.solenoidPin = y.solenoidPin
  reasons    : z.reasons = y.reasons
  role       : z.role = y.role
  charging   : z.charging = y.charging
  ident      : z.traffic.ident.isSome = true → y.traffic.ident.isSome = true

/-- A change of the drop log unit that no invariant reads: the table, the PARK pin, the counts, and of
the log all but its newest record stay as they are. -/
structure DropLog.Quiet (d e : DropLog) : Prop where
  table : e.table = d.table
  pin   : e.parkPin = d.parkPin
  drops : e.drops = d.drops
  index : e.index = d.index
  log   : e.log = d.log ∨ ∃ f, e.log = onNewest f d.log

/-- A bay whose pack has left, before it moves to EMPTY (R27, R43). -/
def Bay.cleared (y : Bay) : Bay :=
  { y with contact := false, loss := none, tripDeferred := false, record := .absent }

/-- A record that joins the log (R155). -/
def DropLog.joined (n : Nat) (r : DropRecord) (d : DropLog) : DropLog :=
  { d with drops := min 65535 n, log := joinLog r d.log, episodeRecord := true }

/-! ### The elementary updates -/

/-- `P` is kept by each elementary update of the bays, the drop log unit, the link and the flags. -/
structure Kept (P : State → Prop) : Prop where
  link        : ∀ {s} f, P s → P (s.onLink f)
  flags       : ∀ {s} f, P s → P (s.onFlags f)
  lines       : ∀ {s} f, P s → P (s.onLines f)
  choice      : ∀ {s}, P s → P s.bumpChoice
  holdMask    : ∀ {s} m, P s → P (s.withHoldMask m)
  wake        : ∀ {s} k, P s → P (s.wakeEvent k)
  owe         : ∀ {s} e, P s → P (s.owe e)
  pins        : ∀ {s}, P s → P s.syncPins
  reasons     : ∀ {s} i f, (∀ r, (f r).lastSupply = r.lastSupply) → P s → P (s.setReasons i f)
  bay         : ∀ {s} i f, Bay.Quiet (s.bay i) (f (s.bay i)) → P s → P (s.onBay i f)
  move        : ∀ {s} i n, n ≠ .empty → n ≠ .seated →
    (n = .releasing → (s.bay i).latch.opens = true) → P s → P (s.moveBay i n)
  seat        : ∀ {s} i, (s.bay i).state = .empty → P s → P (s.moveBay i .seated)
  vacate      : ∀ {s} i f, P s → P (((s.onBay i Bay.cleared).onFlags f).moveBay i .empty)
  clear       : ∀ {s} i, (s.bay i).state = .empty → P s → P (s.onBay i Bay.cleared)
  identify    : ∀ {s} i, P s → P (s.enterIdentifying i)
  writeRecord : ∀ {s} i f v, (s.bay i).record.identity.isSome = true → P s →
    P (s.writeRecord i f v)
  identity    : ∀ {s} i d, (s.bay i).traffic.ident.isSome = true → P s →
    P ((s.onRecord i fun r => { r with identity := some d }).owe .other)
  suspect     : ∀ {s}, P s → P s.takeSuspect
  drop        : ∀ {s} f, DropLog.Quiet s.drop (f s.drop) → (f s.drop).parkLine = s.drop.parkLine →
    P s → P (s.onDrop f)
  park        : ∀ {s} f, DropLog.Quiet s.drop (f s.drop) → P s → P (s.onDrop f).syncPins
  join        : ∀ {s} r, s.drop.holdsOpen = false → P s →
    P (s.onDrop (DropLog.joined (s.drop.drops + 1) r))

theorem DropLog.Quiet.of_log_eq {d e : DropLog} (ht : e.table = d.table) (hp : e.parkPin = d.parkPin)
    (hd : e.drops = d.drops) (hi : e.index = d.index) (hl : e.log = d.log) : DropLog.Quiet d e :=
  ⟨ht, hp, hd, hi, .inl hl⟩

/-- The states that the admission check may give (R33). -/
theorem admissionCheck_state (p : Policy) (o : Option Identity) (r : PackRecord) :
    (admissionCheck p o r).1 = .inhibited ∨ (admissionCheck p o r).1 = .quarantined ∨
      (admissionCheck p o r).1 = .online := by
  unfold admissionCheck
  (repeat' split) <;> simp

/-! ### The newest record -/

theorem getLast?_onNewest (f : DropRecord → DropRecord) (l : List DropRecord) :
    (onNewest f l).getLast? = l.getLast?.map f := by
  induction l with
  | nil => rfl
  | cons r rs ih =>
    cases rs with
    | nil => rfl
    | cons q qs =>
      rw [onNewest, List.getLast?_cons, ih]
      · simp [List.getLast?_cons]
      · simp

theorem interrupt_isOpen (r : DropRecord) : r.interrupt.isOpen = false := by
  unfold DropRecord.interrupt
  split <;> simp_all

/-- After the INTERRUPTED close no record is OPEN at the newest position (R156). -/
theorem interruptedClose_holdsOpen (s : State) : s.interruptedClose.drop.holdsOpen = false := by
  unfold State.interruptedClose
  split
  · simp only [DropLog.holdsOpen, State.onTraffic_frame, State.onDrop_drop, getLast?_onNewest]
    cases s.drop.log.getLast? <;> simp [interrupt_isOpen]
  · simp_all

namespace Kept
variable {P : State → Prop} {s : State}

/-! ### Flags, the transmitter, responses -/

section
variable (K : Kept P)
include K

theorem raise (sp : Space) (f : Flag) (h : P s) : P (s.raise sp f) := K.flags _ h

theorem transmit (h : P s) : P s.transmit := by
  unfold State.transmit
  split
  · exact K.link _ h
  · exact h

theorem respond (r : Response) (h : P s) : P (s.respond r) := by
  unfold State.respond
  split
  · exact K.raise _ _ h
  · exact K.transmit (K.link _ h)

theorem handAlert (p : AlertPacket) (h : P s) : P (s.handAlert p) := K.transmit (K.link _ h)

theorem report (i : BayId) (d : ReverifyDest) (o : VerifyOutcome) (h : P s) : P (s.report i d o) := by
  cases d
  · exact K.drop (fun d => { d with log := onNewest (DropRecord.writeVerify i o) d.log })
      ⟨rfl, rfl, rfl, rfl, .inr ⟨_, rfl⟩⟩ rfl h
  · exact h
  · exact h

theorem answerFromRecord (i : BayId) (o : Answer) (r : HostRequest) (h : P s) :
    P (s.answerFromRecord i o r) := by
  unfold State.answerFromRecord
  split <;> exact K.respond _ h

theorem answerQueue (i : BayId) (o : Answer) (rs : List HostRequest) (h : P s) :
    P (s.answerQueue i o rs) := by
  induction rs generalizing s with
  | nil => exact h
  | cons r rs ih => exact ih (K.answerFromRecord i o r h)

/-! ### The traffic unit's part of a bay change -/

/-- A change of a traffic unit that begins no identification. -/
theorem traffic (i : BayId) (f : Traffic → Traffic)
    (hf : (f (s.bay i).traffic).ident.isSome = true → (s.bay i).traffic.ident.isSome = true)
    (h : P s) : P (s.onTraffic i f) :=
  K.bay i _ ⟨rfl, rfl, rfl, rfl, rfl, rfl, rfl, rfl, rfl, hf⟩ h

theorem reportLost (i : BayId) (t : Traffic) (h : P s) : P (s.reportLost i t) := by
  unfold State.reportLost
  (repeat' split) <;> simp only [K.report, h]

theorem settleSilent (i : BayId) (h : P s) : P (s.settleSilent i) :=
  K.answerQueue _ _ _ (K.reportLost _ _ (K.traffic i _ (by simp [Traffic.settled]) h))

theorem settleEmpty (i : BayId) (h : P s) : P (s.settleEmpty i) := by
  have h1 := K.reportLost i (s.bay i).traffic (K.traffic i (fun t =>
    { t.settled with bus := none, failures := 0, tripRaised := false })
    (by simp [Traffic.settled]) h)
  refine K.answerQueue _ _ _ ?_
  (repeat' split) <;> simp only [K.respond, h1]

/-! ### Moving a bay -/

theorem onIndications (i : BayId) (f : Bay → Bay) (hf : Bay.Quiet (s.bay i) (f (s.bay i)))
    (h : P s) : P (s.onIndications i f) :=
  K.owe _ (K.bay i f hf h)

theorem startSettle (i : BayId) (h : P s) : P (s.startSettle i) :=
  K.bay i _ (by constructor <;> simp) h

theorem startRelease (i : BayId) (h : P s) : P (s.startRelease i) :=
  K.bay i _ (by constructor <;> simp) h

theorem contactArrival (i : BayId) (h : P s) : P (s.contactArrival i) := by
  have h1 : P (s.onBay i fun y => { y with contact := true, loss := none }) :=
    K.bay i _ (by constructor <;> simp) h
  unfold State.contactArrival
  split
  next he => exact K.wake _ (K.startSettle i (K.seat i (by simpa using he) h1))
  next => exact h1

theorem contactLoss (i : BayId) (h : P s) : P (s.contactLoss i) := by
  unfold State.contactLoss
  split
  next he => exact K.clear i he h
  next =>
    refine K.settleEmpty i ?_
    split
    · exact K.vacate i (fun f => f) h
    · exact K.vacate i _ h

theorem takeCheck (i : BayId) (h : P s) : P (s.takeCheck i) := by
  obtain e | e | e := admissionCheck_state s.policy (s.bay (otherBay i)).record.identity
    (s.bay i).record <;>
  · simp only [State.takeCheck, e]
    exact K.move i _ (by decide) (by decide) (by simp) (K.bay i _ (by constructor <;> simp) h)

theorem readmissionTest (i : BayId) (h : P s) : P (s.readmissionTest i) := by
  unfold State.readmissionTest
  dsimp only
  split
  · exact K.takeCheck i h
  · exact h

theorem identificationDone (i : BayId) (h : P s) : P (s.identificationDone i) := by
  unfold State.identificationDone
  split
  · exact K.onIndications i _ (by constructor <;> simp) h
  · exact K.takeCheck i h

theorem tableIncomplete (i : BayId) (h : P s) : P (s.tableIncomplete i) :=
  K.move i _ (by decide) (by decide) (by simp) (K.bay i _ (by constructor <;> simp) h)

theorem alarmWritten (i : BayId) (h : P s) : P (s.alarmWritten i) := by
  unfold State.alarmWritten
  dsimp only
  split
  · exact K.move i _ (by decide) (by decide) (by simp) (K.bay i _ (by constructor <;> simp) h)
  · exact h

/-! ### Lockout trips (R51 to R53) -/

theorem takeTrip (i : BayId) (h : P s) : P (s.takeTrip i) :=
  K.settleSilent i
    (K.move i _ (by decide) (by decide) (by simp) (K.bay i _ (by constructor <;> simp) h))

theorem tripRaised (i : BayId) (h : P s) : P (s.tripRaised i) := by
  unfold State.tripRaised
  dsimp only
  split
  · exact h
  · split
    · exact K.raise _ _ (K.onIndications i _ (by constructor <;> simp) h)
    · exact K.takeTrip i h

theorem raiseTrip (i : BayId) (h : P s) : P (s.raiseTrip i) := by
  unfold State.raiseTrip
  split
  · exact h
  · exact K.tripRaised i (K.traffic i _ id h)

theorem countFailure (i : BayId) (h : P s) : P (s.countFailure i) := by
  unfold State.countFailure
  dsimp only
  split
  · exact K.raiseTrip i (K.traffic i _ id h)
  · exact K.traffic i _ id h

theorem countAck (i : BayId) (h : P s) : P (s.countAck i) := by
  unfold State.countAck
  dsimp only
  split
  · exact K.onIndications i _ (by constructor <;> simp) (K.traffic i _ id h)
  · exact K.traffic i _ id h

theorem lockoutLimitWritten (i : BayId) (h : P s) : P (s.lockoutLimitWritten i) := by
  unfold State.lockoutLimitWritten
  dsimp only
  split
  · exact K.raiseTrip i (K.traffic i _ id h)
  · exact h

theorem endDeferral (i : BayId) (h : P s) : P (s.endDeferral i) := by
  unfold State.endDeferral
  split
  · exact K.takeTrip i h
  · exact h

/-! ### The arbiter (R12) -/

theorem grant (i : BayId) (x : Transaction) (f : Traffic → Traffic)
    (hf : (f (s.bay i).traffic).ident.isSome = true → (s.bay i).traffic.ident.isSome = true)
    (h : P s) : P (s.grant i x f) :=
  K.traffic i _ hf h

theorem serveMaintenance (i : BayId) (h : P s) : P (s.serveMaintenance i).1 := by
  unfold State.serveMaintenance
  dsimp only
  (repeat' split) <;> dsimp only
  · exact K.grant i _ _ id h
  · exact K.tableIncomplete i h
  · exact K.grant i _ _ id h
  · exact K.report _ _ _ (K.traffic i _ id h)
  · exact K.grant i _ _ id h
  · exact K.traffic i _ id h
  · exact h

theorem arbitrateOnce (i : BayId) (h : P s) : P (s.arbitrateOnce i).1 := by
  have hm := K.serveMaintenance i h
  unfold State.arbitrateOnce
  dsimp only
  (repeat' split) <;> try dsimp only
  · exact h
  · exact K.grant i _ _ id h
  · exact K.traffic i _ id h
  · exact hm
  · exact K.grant i _ _ id h
  · exact hm

theorem arbitrate (i : BayId) (h : P s) : P (s.arbitrate i) := by
  suffices ∀ n, P (s.arbitrateIn i n) from this 8
  intro n
  induction n generalizing s with
  | zero => exact h
  | succ n ih =>
    unfold State.arbitrateIn
    dsimp only
    split
    · exact K.arbitrateOnce i h
    · exact ih (K.arbitrateOnce i h)

theorem requestReverify (i : BayId) (h : P s) : P (s.requestReverify i) := by
  unfold State.requestReverify
  split
  · exact K.arbitrate i (K.traffic i _ id h)
  · exact K.report _ _ _ h

/-! ### Snooping and identification (R15, R19, R25) -/

theorem snoop (i : BayId) (f : SnoopField) (data : List Byte) (h : P s) : P (s.snoop i f data) := by
  unfold State.snoop
  dsimp only
  split
  · exact h
  next hi =>
    have hw := K.writeRecord i f (snoopValue data)
      (Option.ne_none_iff_isSome.mp fun e => hi (by simp [e])) h
    split
    · exact K.alarmWritten i hw
    · exact hw

theorem identificationRead (i : BayId) (n : Nat) (data : List Byte) (h : P s) :
    P (s.identificationRead i n data) := by
  unfold State.identificationRead
  split
  · exact h
  next d hd =>
    have h1 : P (s.onTraffic i fun t => { t with ident := some (d.gather n (snoopValue data)) }) :=
      K.traffic i _ (by simp [hd]) h
    dsimp only
    (repeat' split)
    · exact h1
    · exact K.identity i _ (by simp) h1
    · exact h1
    · exact K.snoop i _ data h1
    · exact K.identificationDone i (K.snoop i _ data (K.traffic i _ (by simp) h1))

/-! ### The end of a transaction (R1, R8, R14 to R18) -/

theorem respondHost (i : BayId) (r : HostRequest) (b : Bool) (o : Answer) (data : List Byte)
    (h : P s) : P (s.respondHost i r b o data) := by
  unfold State.respondHost
  split
  · exact K.respond _ h
  · exact h

theorem endRound (i : BayId) (h : P s) : P (s.endRound i) := by
  unfold State.endRound
  split
  · split
    · exact K.traffic i _ id h
    · exact h
  · exact h

theorem acknowledged (i : BayId) (x : Transaction) (data : List Byte) (h : P s) :
    P (s.acknowledged i x data) := by
  have hs := fun f => K.snoop i f data h
  unfold State.acknowledged
  split
  · dsimp only
    split
    · exact K.respondHost _ _ _ _ _ h
    · exact K.respondHost _ _ _ _ _ (hs _)
  · unfold State.alertRead
    dsimp only
    split
    · exact K.handAlert _ (hs _)
    · exact hs _
  · exact K.identificationRead i _ data h
  · unfold State.reverifyRead
    dsimp only
    split
    · exact K.identify i (K.report _ _ _ (hs _))
    · exact K.report _ _ _ (hs _)
  · unfold State.pollRead
    refine K.endRound i ?_
    split
    · exact K.readmissionTest i (hs _)
    · exact hs _
  · exact hs _

theorem failed (i : BayId) (x : Transaction) (o : Answer) (h : P s) : P (s.failed i x o) := by
  unfold State.failed
  split
  · exact K.respondHost _ _ _ _ _ h
  · exact K.report _ _ _ h
  · exact K.endRound i h
  · exact h
  · exact h
  · exact h

theorem complete (i : BayId) (e : Ending) (h : P s) : P (s.complete i e) := by
  unfold State.complete
  split
  · exact h
  · have h1 : P (s.onTraffic i fun t => { t with bus := none }) := K.traffic i _ id h
    refine K.arbitrate i (K.endDeferral i ?_)
    cases e with
    | ack data => exact K.acknowledged i _ _ (K.countAck i h1)
    | nack => exact K.countFailure i (K.failed i _ _ h1)
    | timeout => exact K.countFailure i (K.failed i _ _ h1)

/-! ### Host pack requests at arrival (R7) -/

theorem answerFlags (sp : Space) (o : Answer) (h : P s) : P (s.answerFlags sp o) := by
  unfold State.answerFlags
  split <;> simp only [K.raise, h]

theorem packRequest (i : BayId) (tag : Byte) (offset : Half) (w : Bool) (n : Nat)
    (data : List Byte) (h : P s) : P (s.packRequest i tag offset w n data) := by
  unfold State.packRequest
  dsimp only
  split
  · exact K.respond _ (K.answerFlags _ _ h)
  · unfold State.admitRequest
    (repeat' split)
    · exact K.respond _ (K.answerFlags _ _ h)
    · exact K.answerFromRecord _ _ _ h
    · exact K.respond _ h
    · exact K.arbitrate i (K.traffic i _ id h)

/-! ### The drop log unit's actions (R146 to R149) -/

theorem takeLock (h : P s) : P s.takeLock :=
  K.reasons _ _ (fun _ => rfl) (K.reasons _ _ (fun _ => rfl)
    (K.drop _ (.of_log_eq rfl rfl rfl rfl rfl) rfl h))

theorem pauseTimer (i : BayId) (b : Bool) (h : P s) : P (s.onBay i (Bay.pauseTimer b)) :=
  K.bay i _ (by constructor <;> simp) h

theorem takeTrigger (t : Trigger) (h : P s) : P (s.takeTrigger t) := by
  unfold State.takeTrigger
  extract_lets entry takes fresh joins s1 s2 s3 s4 s5
  have h1 : P s1 := by
    refine K.drop _ ⟨rfl, rfl, rfl, rfl, ?_⟩ rfl h
    dsimp only
    split
    · exact .inr ⟨_, rfl⟩
    · exact .inl rfl
  have h2 : P s2 := by
    unfold s2
    split
    · exact K.park _ (.of_log_eq rfl rfl rfl rfl rfl) h1
    · exact h1
  have h3 : P s3 := by
    unfold s3
    split
    · exact K.takeLock h2
    · exact h2
  have h4 : P s4 := by
    unfold s4
    split
    · exact K.pauseTimer .b true (K.pauseTimer .a true h3)
    · exact h3
  have h5 : P s5 := by
    unfold s5
    split
    · exact K.holdMask _ h4
    · exact h4
  split
  · exact K.suspect h5
  · exact h5

/-! ### The drop log unit's records (R155 to R157) -/

theorem interruptedClose (h : P s) : P s.interruptedClose := by
  unfold State.interruptedClose
  split
  · exact K.traffic .b _ id (K.traffic .a _ id
      (K.drop (fun d => { d with log := onNewest DropRecord.interrupt d.log })
        ⟨rfl, rfl, rfl, rfl, .inr ⟨_, rfl⟩⟩ rfl h))
  · exact h

theorem createRecord (r : DropReport) (h : P s) : P (s.createRecord r) := by
  have h1 := K.raise .motion .dropRecorded (K.join
    (buildRecord r (min 65535 (s.interruptedClose.drop.drops + 1)) s.interruptedClose.uptime
      s.interruptedClose.streams.stimulusOn (s.interruptedClose.ctl.mode == .dormant)
      s.interruptedClose.drop.episode) (interruptedClose_holdsOpen s) (K.interruptedClose h))
  unfold State.createRecord
  dsimp only
  split
  · exact K.wake _ h1
  · exact h1

theorem updateRecord (p : Accel3) (sev : Severity) (m : Bool) (h : P s) :
    P (s.updateRecord p sev m) := by
  unfold State.updateRecord
  split
  · have h1 : P (s.onDrop fun d => { d with log := onNewest (DropRecord.update p sev m) d.log }) :=
      K.drop _ ⟨rfl, rfl, rfl, rfl, .inr ⟨_, rfl⟩⟩ rfl h
    dsimp only
    (repeat' split)
    · exact K.wake _ (K.raise _ _ h1)
    · exact K.raise _ _ h1
    · exact h1
  · exact h

theorem recordEnded (h : P s) : P s.recordEnded :=
  K.drop _ (.of_log_eq rfl rfl rfl rfl rfl) rfl (K.interruptedClose h)

theorem guardLeavesCalm (h : P s) : P s.guardLeavesCalm :=
  K.bay .b _ (by constructor <;> simp) (K.bay .a _ (by constructor <;> simp) h)

/-! ### The guard's return (R57, R150, R151) -/

theorem withdrawLock (h : P s) : P s.withdrawLock := by
  unfold State.withdrawLock
  split
  · exact K.reasons _ _ (fun _ => rfl) (K.reasons _ _ (fun _ => rfl) h)
  · exact h

theorem arbitrateBoth (h : P s) : P s.arbitrateBoth := K.arbitrate .b (K.arbitrate .a h)

theorem withdrawRest (h : P s) : P s.withdrawRest := by
  refine K.park _ (.of_log_eq rfl rfl rfl rfl rfl) ?_
  unfold State.withdrawHold
  split
  · exact K.arbitrateBoth (K.holdMask _ h)
  · exact h

theorem verifyBay (i : BayId) (st : BayState) (h : P s) : P (s.verifyBay i st) := by
  unfold State.verifyBay
  split
  · exact K.requestReverify i h
  · exact K.report _ _ _ h

theorem dropReturn (h : P s) : P s.dropReturn := by
  have h1 : P (s.withdrawRest.onDrop fun d => { d with episodeRecord := false }) :=
    K.drop _ (.of_log_eq rfl rfl rfl rfl rfl) rfl (K.withdrawRest h)
  unfold State.dropReturn State.startReverify
  dsimp only
  (repeat' split)
  · exact K.verifyBay _ _ (K.verifyBay _ _ h1)
  · exact h1
  · exact h1

theorem bayReturn (i : BayId) (h : P s) : P (s.bayReturn i) := by
  have h1 : P (s.returnFilters i) := by
    refine K.pauseTimer i false ?_
    split
    · exact K.contactLoss i h
    · exact K.bay i _ (by constructor <;> simp) h
  have h2 : P ((s.returnFilters i).returnDecision i) := by
    unfold State.returnDecision
    split
    · exact K.takeCheck i h1
    · exact h1
  have h3 : P (((s.returnFilters i).returnDecision i).returnOnline i) := by
    unfold State.returnOnline
    dsimp only
    split
    · exact K.move i _ (by decide) (by decide) (by simp) h2
    · exact h2
  unfold State.bayReturn State.returnReadmission
  split
  · exact K.readmissionTest i h3
  · exact h3

theorem returnAtBlocks (h : P s) : P s.returnAtBlocks := by
  have h1 := K.withdrawLock h
  have both {s} (h : P s) : P s.baysReturn := K.bayReturn .b (K.bayReturn .a h)
  unfold State.returnAtBlocks
  dsimp only
  (repeat' split)
  · exact both (K.dropReturn (K.choice h1))
  · exact K.dropReturn (both (K.choice h1))
  · exact both (K.dropReturn h1)

end
end Kept

end Sys2Proof.Proofs
end

section
/-!
PROOFS. From the elementary updates to the commands: a predicate that each block's own updates keep
(`StepKept`) is kept by every command, and so by every step.
-/

namespace Sys2Proof.Proofs
open Sys2Proof.Machine

/-! ### Changes that no invariant reads -/

/-- A change of the motion unit that keeps its settings and its rates, and does not bring the guard
to CALM. -/
structure Motion.Quiet (m n : Motion) : Prop where
  settings : n.freeFallMg = m.freeFallMg ∧ n.freeFallTime = m.freeFallTime ∧
    n.lightMg = m.lightMg ∧ n.hardMg = m.hardMg ∧ n.severeMg = m.severeMg
  odr      : n.accel.odr = m.accel.odr
  pending  : n.accel.pendingOdr = m.accel.pendingOdr
  guard    : n.guard = .calm → m.guard = .calm

/-- A change of a light sensor that keeps its settings, whether it is OFF and whether it converts. -/
structure Sensor.Quiet (r q : Sensor) : Prop where
  enable     : q.enable = r.enable
  trim       : q.trim = r.trim
  conversion : q.conversion.isSome = r.conversion.isSome
  off        : (q.condition = .off ↔ r.condition = .off) ∨
    (r.conversion.isSome = true ∧ q.condition ≠ .off)

/-- A change of the light unit that is quiet at both sensors and keeps the settings. -/
structure Light.Quiet (u v : Light) : Prop where
  front : Sensor.Quiet u.front v.front
  rear  : Sensor.Quiet u.rear v.rear
  stale : v.staleLimit = u.staleLimit
  weight : v.weight = u.weight

/-- A change of the supply controller that keeps its settings, its state and its power figures. -/
structure Supply.Quiet (u v : Supply) : Prop where
  state    : v.state = u.state
  pAvail   : v.pAvail = u.pAvail
  pbl      : v.pbl = u.pbl
  settings : v.readyThreshold = u.readyThreshold ∧ v.bridgeLimit = u.bridgeLimit ∧
    v.saveWindow = u.saveWindow ∧ v.bridgePower = u.bridgePower ∧
    v.normalReserve = u.normalReserve ∧ v.bridgeReserve = u.bridgeReserve ∧
    v.shareWindow = u.shareWindow

/-- The state of a full reset before the arbiters look and the event ends. -/
def fullResetPlaced (s : State) : State :=
  (((s.fullResetBlocks.fullResetSupply).leftReleasing .a s.bays.a.state).leftReleasing .b
    s.bays.b.state).onBack (Backlight.ownWrite false true)

/-- `P` is kept by each elementary update of every block. -/
structure StepKept (P : State → Prop) : Prop extends Kept P where
  pending      : ∀ {s} q, P s → P (s.withPending q)
  closeEvent   : ∀ {s}, P s → P s.closeEvent
  ctl          : ∀ {s} f, (f s.ctl).mode = s.ctl.mode →
    ((f s.ctl).wake = true → s.ctl.wake = true) → P s → P (s.onCtl f)
  motion       : ∀ {s} f, Motion.Quiet s.motion (f s.motion) → P s → P (s.onMotion f)
  returnToCalm : ∀ {s}, P s → P s.returnToCalm
  light        : ∀ {s} f, Light.Quiet s.light (f s.light) → P s → P (s.onLight f)
  streams      : ∀ {s} f, (f s.streams).stimulusOn = s.streams.stimulusOn →
    (f s.streams).sources = s.streams.sources → (f s.streams).drives = s.streams.drives →
    P s → P (s.onStreams f)
  brightness   : ∀ {s} e th, s.back.tick.isSome = true → P s →
    P (s.onBack (Backlight.tickStages (undriven s) e th))
  panelOn      : ∀ {s}, P s → P s.backlightOn.1
  panelOff     : ∀ {s}, P s → P s.backlightOff.1
  applyCurve   : ∀ {s}, P s → P s.applyCurve.1
  forget       : ∀ {s}, P s → P (s.onDrop fun d => { d with log := [], episodeRecord := false })
  clearSuspect : ∀ {s} i, P s → P (s.clearSuspect i).1
  setMode      : ∀ {s} m, P s → P (s.setMode m)
  setStimulus  : ∀ {s} u, P s → P (s.setStimulus u)
  takeFields   : ∀ {s} sp c xs, P s → P (s.takeFields sp c xs).1
  supply       : ∀ {s} f e, Supply.Quiet s.supply (f s.supply) → P s → P ((s.onSupply f).owe e)
  filters      : ∀ {s} (p c : Supply → Option Timer), P s →
    P (s.onSupply fun u => { u with presenceFilter := p u, codeFilter := c u })
  confirmRose  : ∀ {s} i, P s → P ((s.onBay i Bay.confirmRose).syncPins)
  confirmFell  : ∀ {s} i, P s → P ((s.onBay i Bay.confirmFell).syncPins)
  engageLimit  : ∀ {s} i, (s.bay i).latch = .engaging → P s →
    P ((s.onBay i fun y =>
      { y with latch := .lockFailed, latchLimit := none, solenoid := false }).syncPins)
  releaseLimit : ∀ {s} i, (s.bay i).latch = .disengaging → P s →
    P ((s.onBay i fun y =>
      { y with latch := .unlocked, latchLimit := none, solenoid := false }).syncPins)
  tick         : ∀ {s}, P s → P s.tick
  placed       : ∀ {s}, P s → P (fullResetPlaced s)
  atPowerOn    : ∀ s : State, P s →
    P { State.atPowerOn s.lines s.store with pending := s.pending, choice := s.choice }

/-! ### What a sample leaves quiet -/

theorem Sensor.Quiet.refl (r : Sensor) : Sensor.Quiet r r := ⟨rfl, rfl, rfl, .inl Iff.rfl⟩

/-- A change of one sensor that is quiet is quiet at the light unit. -/
theorem Light.Quiet.onSensor (u : Light) (i : SensorId) (f : Sensor → Sensor)
    (h : Sensor.Quiet (u.sensor i) (f (u.sensor i))) : Light.Quiet u (u.onSensor i f) := by
  cases i
  · exact ⟨h, .refl _, rfl, rfl⟩
  · exact ⟨.refl _, h, rfl, rfl⟩

theorem Light.accept_eq (now : Nat) (i : SensorId) (c : Nat) (g : Gain) (t : Integration)
    (th : Byte) (u : Light) : ∃ x, u.accept now i c g t th =
      { u.onSensor i (Sensor.accept now u.staleLimit c g t) with theta := x } := by
  cases i
  · exact ⟨_, rfl⟩
  · exact ⟨u.theta, rfl⟩

theorem Light.Quiet.arrival (now : Nat) (i : SensorId) (c : Arrival Half) (g : Gain)
    (t : Integration) (th : Byte) (u : Light) : Light.Quiet u (u.arrival now i c g t th) := by
  have h0 : Light.Quiet u u := ⟨.refl _, .refl _, rfl, rfl⟩
  unfold Light.arrival
  split
  next count tm hc =>
    dsimp only
    split
    · cases i <;> refine ⟨?_, ?_, rfl, rfl⟩ <;>
        simp_all only [Light.sensor, Light.onSensor, Sensor.Quiet.refl] <;>
      · constructor <;> simp [Sensor.discard, Sensor.startConversion, hc] <;> split <;> simp_all
    · obtain ⟨x, hx⟩ := Light.accept_eq now i count.toNat g t th u
      cases i <;> rw [hx] <;> refine ⟨?_, ?_, rfl, rfl⟩ <;>
        simp_all only [Light.sensor, Light.onSensor, Sensor.Quiet.refl] <;>
      · constructor <;> simp [Sensor.accept, Sensor.startConversion, hc]
  · exact h0
  · exact h0

theorem Light.Quiet.injected (now : Nat) (i : SensorId) (c : Nat) (g : Gain)
    (t : Integration) (th : Byte) (u : Light) : Light.Quiet u (u.injected now i c g t th) := by
  unfold Light.injected
  split
  · exact ⟨.refl _, .refl _, rfl, rfl⟩
  next hoff =>
    obtain ⟨x, hx⟩ := Light.accept_eq now i c g t th u
    cases i <;> rw [hx] <;> refine ⟨?_, ?_, rfl, rfl⟩ <;>
      simp_all only [Light.sensor, Light.onSensor, Sensor.Quiet.refl] <;>
    · constructor <;> simp [Sensor.accept, hoff]

theorem Sensor.Quiet.fail (r : Sensor) (h : r.conversion.isSome = true) : Sensor.Quiet r r.fail := by
  constructor <;> simp [Sensor.fail, Sensor.startConversion, h]
  split <;> simp_all

theorem Sensor.Quiet.staleExpiry (r : Sensor) : Sensor.Quiet r r.staleExpiry := by
  unfold Sensor.staleExpiry Sensor.expireStale
  (repeat' split) <;> constructor <;> simp_all

theorem converts_of_ranDown {t : Option Timer} (h : ranDown t = true) : t.isSome = true := by
  cases t
  · cases h
  · rfl

namespace StepKept
variable {P : State → Prop} {s : State}
section
variable (K : StepKept P)
include K

/-! ### The guard (R135 to R143) -/

theorem afterWindow (b : Bool) (h : P s) : P (s.afterWindow b) := by
  unfold State.afterWindow
  split
  · exact K.returnToCalm h
  · exact K.motion _ (by constructor <;> simp [Motion.enterSettling]) h

theorem windowEnd (b : Bool) (h : P s) : P (s.windowEnd b) := by
  unfold State.windowEnd
  dsimp only
  split
  · exact K.afterWindow b (K.createRecord _ (K.takeTrigger _
      (K.motion _ (by constructor <;> simp) h)))
  · unfold State.laterWindowEnd
    extract_lets best sev multiple s1 s2
    have h1 : P s1 := K.motion _ (by constructor <;> simp) h
    refine K.afterWindow b (K.updateRecord _ _ _ ?_)
    unfold s2
    split
    · exact K.takeTrigger _ h1
    · exact h1
  · exact K.afterWindow b h

theorem reportFall (k : RecordKind) (n : Nat) (h : P s) : P (s.reportFall k n) :=
  K.createRecord _ h

theorem calmSample (a : Accel3) (h : P s) : P (s.calmSample a) := by
  unfold State.calmSample
  dsimp only
  split
  · exact K.guardLeavesCalm (K.motion _ (by constructor <;> simp [Motion.enterKnock]) h)
  · split
    · exact K.takeTrigger _ (K.guardLeavesCalm
        (K.motion _ (by constructor <;> simp [Motion.enterFalling]) h))
    · exact K.motion _ (by constructor <;> simp) h

theorem fallingSample (a : Accel3) (h : P s) : P (s.fallingSample a) := by
  unfold State.fallingSample
  extract_lets c count catches s1
  have h1 : P s1 := K.motion _ (by constructor <;> simp) h
  split
  · exact K.motion _ (by constructor <;> simp [Motion.enterImpact]) h
  · split
    · unfold State.caught
      split
      · exact K.returnToCalm (K.reportFall _ _ h1)
      · exact K.returnToCalm h1
    · split
      · exact K.returnToCalm (K.reportFall _ _ h1)
      · exact h1

theorem impactSample (a : Accel3) (h : P s) : P (s.impactSample a) := by
  unfold State.impactSample
  extract_lets c count s1
  have h1 : P s1 := K.motion _ (by constructor <;> simp) h
  split
  · exact K.windowEnd false h1
  · exact h1

theorem settlingSample (a : Accel3) (h : P s) : P (s.settlingSample a) := by
  unfold State.settlingSample
  extract_lets c run count s1
  have h1 : P s1 := K.motion _ (by constructor <;> simp) h
  split
  · exact K.motion _ (by constructor <;> simp [Motion.enterSecond]) h
  · split
    · exact K.takeTrigger _ (K.motion _ (by constructor <;> simp [Motion.enterFalling])
        (K.recordEnded h))
    · split
      · exact K.returnToCalm h1
      · exact h1

theorem guardSample (a : Accel3) (h : P s) : P (s.guardSample a) := by
  unfold State.guardSample
  split
  · exact K.calmSample a h
  · exact K.fallingSample a h
  · exact K.impactSample a h
  · exact K.settlingSample a h

/-! ### The streams -/

theorem offerAccel (x y z : Int) (g i : Bool) (h : P s) : P (s.offerAccel x y z g i) := by
  have h1 : P (s.onStreams fun u => { u with accel := s.streams.accel.take }) :=
    K.streams _ rfl rfl rfl h
  unfold State.offerAccel
  dsimp only
  (repeat' split)
  · exact K.transmit (K.link _ h1)
  · exact h1
  · exact h

theorem offerLight (e r a : Option Nat) (l : Nat) (h : P s) : P (s.offerLight e r a l) := by
  have h1 : P (s.onStreams fun u => { u with light := s.streams.light.take }) :=
    K.streams _ rfl rfl rfl h
  unfold State.offerLight
  dsimp only
  (repeat' split)
  · exact K.transmit (K.link _ h1)
  · exact h1
  · exact h

/-! ### Samples and ticks -/

theorem acceptAccel (x y z : Int) (b : Bool) (h : P s) : P (s.acceptAccel x y z b) :=
  K.offerAccel _ _ _ _ _ (K.guardSample _ (K.motion _ (by constructor <;> simp) h))

theorem accelArrival (x y z : Int) (h : P s) : P (s.accelArrival x y z) := by
  have h1 : P (s.onMotion fun m => { m with accel := m.accel.restartStale }) :=
    K.motion _ (by constructor <;> simp [Accelerometer.restartStale]) h
  unfold State.accelArrival
  dsimp only
  (repeat' split)
  · exact h
  · exact K.motion _ (by constructor <;> simp [Accelerometer.discard]) h1
  · exact K.motion _ (by constructor <;> simp) h1
  · exact K.acceptAccel _ _ _ _ h1

theorem accelInjected (x y z : Int) (h : P s) : P (s.accelInjected x y z) :=
  K.acceptAccel _ _ _ _ (K.motion _ (by constructor <;> simp [Accelerometer.restartStale]) h)

theorem guardLoss (h : P s) : P s.guardLoss := by
  unfold State.guardLoss
  split
  · exact K.motion _ (by constructor <;> simp) h
  · exact K.returnToCalm (K.reportFall _ _ h)
  · exact K.windowEnd true h
  · exact K.returnToCalm h

theorem accelStale (h : P s) : P s.accelStale :=
  K.guardLoss (K.raise _ _ (K.motion _ (by constructor <;> simp [Accelerometer.start]) h))

theorem brightnessTick (ht : s.back.tick.isSome = true) (h : P s) : P s.brightnessTick := by
  unfold State.brightnessTick
  extract_lets ef er e s1 s2
  refine K.offerLight _ _ _ _ ?_
  unfold s2 s1
  split
  · exact K.brightness (s := s.raise .light .lightStale) _ _ ht (K.raise _ _ h)
  · exact K.brightness _ _ ht h

theorem conversionFails (i : SensorId) (hc : (s.light.sensor i).conversion.isSome = true)
    (h : P s) : P (s.conversionFails i) := by
  have h1 : P (s.onLight (Light.onSensor i Sensor.fail)) :=
    K.light _ (.onSensor _ _ _ (.fail _ hc)) h
  unfold State.conversionFails
  dsimp only
  split
  · exact K.raise _ _ h1
  · exact h1

/-! ### Requests -/

theorem respondClosed (sp : Space) (p : Packet) (o : Answer) (data : List Byte) (h : P s) :
    P (s.answer sp p o data) :=
  K.respond _ (K.answerFlags _ _ h)

theorem conclude (sp : Space) (p : Packet) (r : State × Answer) (h : P r.1) :
    P (conclude sp p r) :=
  K.respondClosed _ _ _ _ (K.closeEvent h)

theorem readmit (i : BayId) (h : P s) : P (s.readmit i).1 := by
  unfold State.readmit
  dsimp only
  split
  · exact K.arbitrate i (K.identify i (K.bay i _ (by constructor <;> simp) (K.traffic i _ id h)))
  · exact h

theorem clearLog (h : P s) : P s.clearLog :=
  K.traffic .b _ id (K.traffic .a _ id (K.forget h))

theorem act (i : BayId) (a : Action) (h : P s) : P (s.act i a).1 := by
  cases a with
  | readmit => exact K.readmit i h
  | clearInhibit =>
    unfold State.act State.clearInhibit
    dsimp only
    split
    · exact K.move i _ (by decide) (by decide) (by simp) h
    · exact h
  | clearSuspect => exact K.clearSuspect i h
  | lock => exact K.reasons i (fun r => { r with host := true }) (fun _ => rfl) h
  | unlock => exact K.reasons i (fun r => { r with host := false }) (fun _ => rfl) h
  | backlightOn => exact K.panelOn h
  | backlightOff => exact K.panelOff h
  | applyCurve => exact K.applyCurve h
  | clearLog => exact K.clearLog h
  | wakeAck => exact K.ctl ModeCtl.acknowledge rfl (by simp [ModeCtl.acknowledge]) h
  | clearAllFlags => exact K.flags (fun _ => .clear) h

theorem writeSpace (sp : Space) (p : Packet) (data : List Byte) (h : P s) :
    P (s.writeSpace sp p data) := by
  unfold State.writeSpace
  dsimp only
  split
  · exact K.respondClosed _ _ _ _ h
  · refine K.conclude _ _ _ ?_
    unfold State.writeAction
    split
    · exact K.act _ _ h
    · exact h
  · exact K.respondClosed _ _ _ _ (K.raise _ _ h)
  · exact K.conclude _ _ _ (K.takeFields _ _ _ h)

theorem readSpace (sp : Space) (p : Packet) (n : Nat) (h : P s) : P (s.readSpace sp p n) := by
  refine K.respondClosed _ _ _ _ ?_
  split
  · unfold State.clearRead
    split
    · exact K.flags _ h
    · exact h
  · exact h

/-! ### Resets -/

/-- A control reset but for the link (R192). -/
theorem controlReset (h : P s) : P s.controlReset :=
  K.link _ (K.setStimulus _ (K.traffic .b _ id (K.traffic .a _ id h)))

theorem fullReset (h : P s) : P s.fullReset := K.closeEvent (K.arbitrateBoth (K.placed h))

theorem powerOn (h : P s) : P s.powerOn := by
  have sense {s} (i : BayId) (h : P s) : P (s.senseContact i) := by
    unfold State.senseContact
    split
    · exact K.contactArrival i h
    · exact h
  refine K.closeEvent ?_
  unfold State.senseAdapter
  split
  · exact K.filters (fun _ => some (Timer.start Config.adapterFilter)) Supply.codeFilter
      (sense .b (sense .a (K.atPowerOn s h)))
  · exact sense .b (sense .a (K.atPowerOn s h))

/-! ### Packets (R182) -/

theorem resetRequest (p : Packet) (h : P s) : P (s.resetRequest p) := by
  unfold State.resetRequest
  split
  · exact K.respondClosed _ _ _ _ (K.controlReset h)
  · exact K.respondClosed _ _ _ _ (K.fullReset h)
  · exact K.respondClosed _ _ _ _ h

theorem modeRequest (p : Packet) (h : P s) : P (s.modeRequest p) := by
  unfold State.modeRequest
  split
  · exact K.conclude _ _ _ (K.setMode _ h)
  · exact K.respondClosed _ _ _ _ h

theorem injectRequest (p : Packet) (h : P s) : P (s.injectRequest p) := by
  unfold State.injectRequest
  (repeat' split)
  · exact K.respondClosed _ _ _ _ h
  · exact K.link _ h
  · exact K.respondClosed _ _ _ _ h

theorem readRequest (p : Packet) (n : Nat) (h : P s) : P (s.readRequest p n) := by
  unfold State.readRequest
  (repeat' split)
  · exact K.readSpace _ _ _ h
  · exact K.respondClosed _ _ _ _ h
  · exact K.closeEvent (K.packRequest _ _ _ _ _ _ h)
  · exact K.respondClosed _ _ _ _ h

theorem writeRequest (p : Packet) (data : List Byte) (h : P s) : P (s.writeRequest p data) := by
  unfold State.writeRequest
  split
  · exact K.writeSpace _ _ _ h
  · exact K.closeEvent (K.packRequest _ _ _ _ _ _ h)
  · exact K.respondClosed _ _ _ _ h

theorem dispatch (p : Packet) (h : P s) : P (s.dispatch p) := by
  have bad := fun sp => K.respondClosed sp p .badValue [] h
  unfold State.dispatch
  dsimp only
  (repeat' split)
  · exact K.readRequest _ _ h
  · exact bad _
  · exact K.writeRequest _ _ h
  · exact bad _
  · exact K.resetRequest _ h
  · exact bad _
  · exact K.modeRequest _ h
  · exact bad _
  · exact K.injectRequest _ h
  · exact bad _

theorem handlePacket (p : Packet) (h : P s) : P (s.handlePacket p) := by
  have hw : P s.wakeByTraffic := by
    unfold State.wakeByTraffic
    split
    · exact K.raise _ _ (K.setMode _ h)
    · exact h
  unfold State.handlePacket
  dsimp only
  (repeat' split)
  · exact K.respondClosed _ _ _ _ h
  · exact K.raise _ _ hw
  · exact K.dispatch p hw

theorem handOn (p : Packet) (h : P s) : P (s.handOn p) := by
  unfold State.handOn
  split
  · exact K.link _ h
  · exact K.handlePacket p h

theorem drain (n : Nat) (h : P s) : P (s.drain n) := by
  induction n generalizing s with
  | zero => exact h
  | succ n ih =>
    unfold State.drain
    (repeat' split)
    · exact h
    · exact h
    · exact ih (K.handlePacket _ (K.link _ h))

theorem takeSample (x : InjectedSample) (h : P s) : P (s.takeSample x) := by
  cases x with
  | accel x y z => exact K.accelInjected _ _ _ h
  | front c g t th => exact K.light _ (.injected _ _ _ _ _ _ _) h
  | rear c g t => exact K.light _ (.injected _ _ _ _ _ _ _) h

theorem finishInject (w : InjectWork) (h : P s) : P (s.finishInject w) :=
  K.drain _ (K.respondClosed _ _ _ _ (K.link _ h))

theorem injectedSample (h : P s) : P s.injectedSample := by
  unfold State.injectedSample
  dsimp only
  (repeat' split)
  · exact h
  · exact K.finishInject _ h
  · exact K.finishInject _ (K.closeEvent (K.takeSample _ h))
  · exact K.link _ (K.closeEvent (K.takeSample _ h))

theorem discardFrame (h : P s) : P s.discardFrame := K.raise _ _ (K.link _ h)

theorem receiveByte (b : RxByte) (h : P s) : P (s.receiveByte b) := by
  unfold State.receiveByte
  dsimp only
  (repeat' split)
  all_goals first
    | exact h
    | exact K.link _ h
    | exact K.discardFrame h
    | exact K.handOn _ (K.link _ h)

theorem receivePacket (p : Packet) (h : P s) : P (s.receivePacket p) := by
  unfold State.receivePacket
  (repeat' split)
  · exact h
  · exact K.discardFrame h
  · exact K.handOn _ (K.link _ h)

/-! ### The commands -/

theorem adapterChanged (a : Option (Fin 4)) (h : P s) : P (s.adapterChanged a) := by
  have e : s.adapterChanged a = ((((s.onSupply fun u => { u with adapter := a }).owe .other).raise
    .supply .adapterChanged).wakeEvent .adapterChange).closeEvent := rfl
  rw [e]
  exact K.closeEvent (K.wake _ (K.raise _ _ (K.supply _ _ (by constructor <;> simp) h)))

theorem intentClosing (i : BayId) (h : P s) : P (s.intentClosing i) := by
  unfold State.intentClosing
  dsimp only
  split
  · exact K.raise _ _ h
  next ho =>
    (repeat' split)
    · exact K.startRelease i (K.move i _ (by decide) (by decide) (fun _ => by simpa using ho) h)
    · exact K.startRelease i (K.onIndications i _ (by constructor <;> simp) h)
    · exact h

theorem returnFromRelease (i : BayId) (h : P s) : P (s.returnFromRelease i) := by
  unfold State.returnFromRelease
  split
  · exact K.onIndications i _ (by constructor <;> simp) h
  · exact K.move i _ (by decide) (by decide) (by simp) h

theorem intentReopening (i : BayId) (h : P s) : P (s.intentReopening i) := by
  unfold State.intentReopening
  split
  · exact K.returnFromRelease i h
  · exact h

/-- A timer's expiry at the supply controller: the event's change, then the re-evaluation. -/
theorem supplyEvent (f : Supply → Supply) (e : SupplyEvent)
    (hf : Supply.Quiet s.supply (f s.supply)) (h : P s) : P ((s.onSupply f).owe e).closeEvent :=
  K.closeEvent (K.supply f e hf h)

/-- Every command keeps what each block's own updates keep. -/
theorem exec_keeps {t : State} (c : Instr) (h : P s) (e : exec c s = .next t) : P t := by
  cases c <;> cases e
  case powerOnReset => exact K.powerOn h
  case resetNFall =>
    split
    · exact K.fullReset (K.lines _ h)
    · exact h
  case resetNRise =>
    split
    · exact h
    · exact K.link _ (K.lines _ h)
  case uptimeTick => exact K.tick h
  case badFrame =>
    split
    · exact K.discardFrame h
    · exact h
  case truncated =>
    split
    · exact K.raise _ _ (K.link _ h)
    · exact h
  case injectedSample => exact K.injectedSample h
  case pwrReqRise =>
    split
    · exact h
    · exact K.closeEvent (K.owe _ (K.lines _ h))
  case pwrReqFall =>
    split
    · exact K.supplyEvent _ _ (by constructor <;> simp) (K.lines _ h)
    · exact h
  case contactRise i =>
    have h1 : P (s.setContactLine i true) := K.lines _ h
    (repeat' split)
    · exact h
    · exact K.bay i _ (by constructor <;> simp) h1
    · exact K.closeEvent (K.contactArrival i h1)
  case contactFall i =>
    have h1 : P (s.setContactLine i false) := K.lines _ h
    (repeat' split)
    · exact h
    · exact K.bay i _ (by constructor <;> simp) h1
    · exact h1
  case lossFilterExpiry i =>
    split
    · exact K.closeEvent (K.contactLoss i h)
    · exact h
  case releaseIntentChange i closed =>
    split
    · exact h
    · exact K.bay i _ (by constructor <;> simp) (K.lines _ h)
  case intentFilterExpiry i =>
    have h1 : P (s.onBay i fun y =>
        { y with intentFilter := none, intent := s.lines.intent.get i }) :=
      K.bay i _ (by constructor <;> simp) h
    (repeat' split)
    · exact h
    · exact K.closeEvent (K.wake _ (K.intentClosing i h1))
    · exact K.closeEvent (K.intentReopening i h1)
  case lockConfirmRise i =>
    split
    · exact h
    · exact K.confirmRose i (K.lines _ h)
  case lockConfirmFall i =>
    split
    · exact h
    · exact K.confirmFell i (K.lines _ h)
  case engageLimitExpiry i =>
    split
    next hl => exact K.raise _ _ (K.engageLimit i (by simp_all) h)
    next => exact h
  case disengageLimitExpiry i =>
    split
    next hl => exact K.raise _ _ (K.releaseLimit i (by simp_all) h)
    next => exact h
  case alertAsserted i =>
    split
    · exact K.closeEvent (K.arbitrate i (K.traffic i _ id h))
    · exact h
  case parkAckChange =>
    split
    · exact K.drop _ (.of_log_eq rfl rfl rfl rfl rfl) rfl (K.lines _ h)
    · exact K.lines _ h
  case adapterSenseChange => exact K.filters _ _ (K.lines _ h)
  case adapterFilterExpiry f =>
    cases f <;> dsimp only <;> split
    · exact K.adapterChanged _ (K.filters (fun _ => none) (fun _ => none) h)
    · exact h
    · exact K.adapterChanged _ (K.filters Supply.presenceFilter (fun _ => none) h)
    · exact h
  case bridgeSample => exact K.supplyEvent _ _ (by constructor <;> simp [Supply.sample]) h
  case transactionCompletion i a =>
    split
    · exact K.closeEvent (K.complete i _ h)
    · exact h
  case transactionLimitExpiry i =>
    split
    · exact K.closeEvent (K.complete i _ h)
    · exact h
  case pollTimerExpiry i =>
    split
    · exact K.closeEvent (K.arbitrate i (K.traffic i _ id h))
    · exact h
  case settleTimerExpiry i =>
    split
    · exact K.closeEvent (K.arbitrate i (K.identify i h))
    · exact h
  case releaseTimerExpiry i =>
    split
    · exact K.closeEvent (K.returnFromRelease i h)
    · exact h
  case startUpHoldExpiry =>
    split
    · exact K.supplyEvent _ _ (by constructor <;> simp) h
    · exact h
  case bridgeRunExpiry =>
    split
    · exact K.supplyEvent _ _ (by constructor <;> simp) h
    · exact h
  case saveTimerExpiry =>
    split
    · exact K.supplyEvent _ _ (by constructor <;> simp) h
    · exact h
  case lightSampleArrival => exact K.light _ (.arrival _ _ _ _ _ _ _) h
  case conversionLimitExpiry i =>
    split
    next hr => exact K.conversionFails i (converts_of_ranDown hr) h
    next => exact h
  case sensorRefusal i =>
    split
    next hc => exact K.conversionFails i hc h
    next => exact h
  case lightStaleExpiry i => exact K.light _ (.onSensor _ _ _ (.staleExpiry _)) h
  case brightnessTick =>
    split
    next ht => exact K.brightnessTick ht h
    next => exact h
  case accelSampleArrival => exact K.closeEvent (K.accelArrival _ _ _ h)
  case accelStaleExpiry =>
    split
    · exact K.closeEvent (K.accelStale h)
    · exact h
  case packetSent =>
    split
    · exact K.transmit (K.link _ h)
    · exact h
  case byteReceived b =>
    split
    · exact K.receiveByte b h
    · exact h
  -- every other command is a packet handed to the receiver
  all_goals exact K.receivePacket _ h

/-- Every step keeps what each block's own updates keep. -/
theorem step_keeps {t : State} (h : P s) (e : step s = .next t) : P t := by
  unfold step at e
  split at e
  · cases e
    exact h
  next c q _ => exact K.exec_keeps c (K.pending q h) e

end
end StepKept
end Sys2Proof.Proofs
end

section
/-!
PROOFS. The parts of an event that invariants meet in one way: a re-evaluation at its end, the guard's
return, and a WRITE, whose settings take their values one after another.
-/

namespace Sys2Proof.Proofs
open Sys2Proof.Machine

namespace Kept
variable {P : State → Prop} {s : State}

/-- What each re-evaluation keeps, the end of an event keeps (R78). -/
theorem closeEvent_of (K : Kept P) (settled : ∀ {s}, P s → P s.settled)
    (reevaluate : ∀ {s} ev, P s → P (s.reevaluate ev)) (h : P s) : P s.closeEvent := by
  suffices ∀ n, P (s.closeEventIn n) from this 3
  intro n
  induction n generalizing s with
  | zero => exact settled h
  | succ n ih =>
    unfold State.closeEventIn
    split
    · exact h
    · exact ih (K.endDeferral .b (K.endDeferral .a (reevaluate _ (settled h))))

/-- The guard's return is the return at the blocks between two changes of the motion unit (R142). -/
theorem returnToCalm_of (K : Kept P)
    (calm : P s → P (s.onMotion fun m => { m with guard := .calm, work := .clear }))
    (rate : ∀ {s}, P s → P (s.onMotion Motion.applyPending)) (h : P s) : P s.returnToCalm :=
  rate (K.returnAtBlocks (calm h))

end Kept

/-- A WRITE of fields, by what holds while its settings take their values: `W xs` after those of `xs`
(R184). -/
theorem takeFields_of {P : State → Prop} {W : List Setting → State → Prop} {s : State}
    (start : ∀ {s} sp m, P s → W [] (s.clearFlags sp m))
    (put : ∀ {s} xs x bs, x.accepts bs = true → W xs s → W (xs ++ [x]) (x.put bs s))
    (finish : ∀ {s} xs, structureOk xs s.policy s.motion = true → W xs s → P (s.afterPuts xs))
    (sp : Space) (c : Half) (xs : List (Setting × List Byte)) (h : P s) :
    P (s.takeFields sp c xs).1 := by
  have all : ∀ (ys : List Setting) (zs : List (Setting × List Byte)) (s : State),
      (zs.all fun x => x.1.accepts x.2) = true → W ys s →
        W (ys ++ zs.map Prod.fst) (State.putAll zs s) := by
    intro ys zs
    induction zs generalizing ys with
    | nil =>
      intro s _ hs
      simpa [State.putAll] using hs
    | cons z zs ih =>
      intro s hz hs
      obtain ⟨hz1, hz2⟩ := Bool.and_eq_true_iff.mp hz
      simpa [State.putAll] using ih (ys ++ [z.1]) _ hz2 (put ys z.1 z.2 hz1 hs)
  unfold State.takeFields
  dsimp only
  split
  next hok =>
    obtain ⟨hacc, hstr⟩ := Bool.and_eq_true_iff.mp hok
    exact finish _ hstr (all [] xs _ hacc (start sp c h))
  next => exact h

/-! ### Predicates of one bay -/

/-- `Q` is kept by each elementary change of a bay; `R o` holds of a bay that was `o` before a full
reset, until its latch has looked at its final lock-reason set (R66; log 34). -/
structure BayKept (Q : Bay → Prop) (R : BayState → Bay → Prop) : Prop where
  quiet     : ∀ {y z}, Bay.Quiet y z → Q y → Q z
  pin       : ∀ {y} b, Q y → Q { y with solenoidPin := b }
  gates     : ∀ {y} r c, Q y → Q { y with role := r, charging := c }
  reasons   : ∀ {y} c r, Q y → Q (y.setReasons c r)
  move      : ∀ {y} p m c n, n ≠ .empty → n ≠ .seated →
    (n = .releasing → y.latch.opens = true) → Q y → Q (Bay.enter p m c n y)
  seat      : ∀ {y} p m c, y.state = .empty → Q y → Q (Bay.enter p m c .seated y)
  vacate    : ∀ {y} p m c, Q y → Q (Bay.enter p m c .empty (Bay.cleared y))
  clear     : ∀ {y}, y.state = .empty → Q y → Q (Bay.cleared y)
  identify  : ∀ {y}, y.state = .identifying → Q y → Q { y with
    decisionDeferred := false, timer := none, record := y.record.reidentify,
    traffic := { y.traffic with ident := some .first } }
  write     : ∀ {y} t v f, y.record.identity.isSome = true → Q y →
    Q { y with record := y.record.writeField t v f }
  identity  : ∀ {y} d, y.traffic.ident.isSome = true → Q y →
    Q { y with record := { y.record with identity := some d } }
  suspect   : ∀ {y} b, Q y → Q { y with record := { y.record with suspect := b } }
  rose      : ∀ {y}, Q y → Q y.confirmRose
  fell      : ∀ {y}, Q y → Q y.confirmFell
  engage    : ∀ {y}, y.latch = .engaging → Q y →
    Q { y with latch := .lockFailed, latchLimit := none, solenoid := false }
  release   : ∀ {y}, y.latch = .disengaging → Q y →
    Q { y with latch := .unlocked, latchLimit := none, solenoid := false }
  fresh     : ∀ b, Q (Bay.fresh b)
  reset     : ∀ {y} c i, Q y → R y.state (y.fullReset c i)
  resetPin  : ∀ {y o} b, R o y → R o { y with solenoidPin := b }
  resetGate : ∀ {y o} r c, R o y → R o { y with role := r, charging := c }
  resetSet  : ∀ {y o} c r, R o y → R o (y.setReasons c r)
  left      : ∀ {y} c, R .releasing y → Q (y.afterReleasing c)
  stays     : ∀ {y o}, o ≠ .releasing → R o y → Q y

/-! ### The bays after an operation -/

section
variable {Q : Bay → Prop} {R : BayState → Bay → Prop} {s : State}

theorem forall_onBay {i : BayId} {f : Bay → Bay} (h : ∀ j ≠ i, Q (s.bay j))
    (hf : Q (f (s.bay i))) (j : BayId) : Q ((s.onBay i f).bay j) := by
  rcases eq_or_ne j i with rfl | hne
  · simpa using hf
  · simpa [State.onBay_bay_ne s hne f] using h j hne

theorem syncPins_bay (s : State) (i : BayId) :
    ∃ b, s.syncPins.bay i = { s.bay i with solenoidPin := b } := by
  unfold State.syncPins
  split
  · exact ⟨_, rfl⟩
  · cases i <;> exact ⟨_, rfl⟩

theorem moveBay_bays (s : State) (i : BayId) (n : BayState) : (s.moveBay i n).bays =
    (s.onBay i (Bay.enter s.policy s.ctl.mode (s.lines.lockConfirm.get i) n)).syncPins.bays := by
  unfold State.moveBay
  dsimp only
  split <;> rfl

theorem bay_congr {s t : State} (e : t.bays = s.bays) (h : ∀ i, Q (s.bay i)) (i : BayId) :
    Q (t.bay i) := by
  simpa only [State.bay, e] using h i

theorem reevaluate_bays (ev : SupplyEvent) (s : State) : (s.reevaluate ev).bays =
    (((s.supplyTransition ev).selectDischarge.selectCharge).setLastSupply id).bays := by
  simp [State.reevaluate]

namespace BayKept
variable (K : BayKept Q R)
include K

theorem syncPins (h : ∀ j, Q (s.bay j)) (j : BayId) : Q (s.syncPins.bay j) := by
  obtain ⟨b, hb⟩ := syncPins_bay s j
  rw [hb]
  exact K.pin b (h j)

theorem moveBay (i : BayId) (n : BayState)
    (hn : Q (Bay.enter s.policy s.ctl.mode (s.lines.lockConfirm.get i) n (s.bay i)))
    (h : ∀ j ≠ i, Q (s.bay j)) : ∀ j, Q ((s.moveBay i n).bay j) :=
  bay_congr (moveBay_bays s i n) (K.syncPins (forall_onBay h hn))

theorem setReasons (i : BayId) (f : LockReasons → LockReasons) (h : ∀ j, Q (s.bay j)) :
    ∀ j, Q ((s.setReasons i f).bay j) :=
  K.syncPins (forall_onBay (fun j _ => h j) (K.reasons _ _ (h i)))

theorem markSuspect (i : BayId) (h : ∀ j, Q (s.bay j)) :
    ∀ j, Q ((s.onBay i Bay.markSuspect).bay j) := by
  refine forall_onBay (fun j _ => h j) ?_
  unfold Bay.markSuspect
  split
  · exact K.suspect true (h i)
  · exact h i

theorem enterIdentifying (i : BayId) (h : ∀ j, Q (s.bay j)) :
    ∀ j, Q ((s.enterIdentifying i).bay j) := by
  have hm := K.moveBay (s := s) i .identifying
    (K.move _ _ _ _ (by decide) (by decide) (by simp) (h i)) fun j _ => h j
  refine forall_onBay (fun j _ => hm j) (K.identify ?_ (hm i))
  obtain ⟨b, hb⟩ := syncPins_bay (s.onBay i
    (Bay.enter s.policy s.ctl.mode (s.lines.lockConfirm.get i) .identifying)) i
  simp only [State.bay, moveBay_bays] at hb ⊢
  simp [hb]

/-- A predicate of one bay, held by both, as an invariant of the elementary updates. -/
theorem kept : Kept fun s => ∀ i, Q (s.bay i) where
  link _ h := h
  flags _ h := h
  lines _ h := h
  choice h := h
  holdMask _ h := h
  wake _ h := h
  owe _ h := h
  pins h := K.syncPins h
  reasons i f _ h := K.setReasons i f h
  bay i _ hq h := forall_onBay (fun j _ => h j) (K.quiet hq (h i))
  move i n h1 h2 h3 h := K.moveBay i n (K.move _ _ _ n h1 h2 h3 (h i)) fun j _ => h j
  seat i he h := K.moveBay i _ (K.seat _ _ _ he (h i)) fun j _ => h j
  vacate {s} i f h := by
    refine K.moveBay i _ ?_ fun j hj => ?_
    · have e : ((s.onBay i Bay.cleared).onFlags f).bay i = Bay.cleared (s.bay i) :=
        State.onBay_bay s i _
      rw [e]
      exact K.vacate _ _ _ (h i)
    · exact (State.onBay_bay_ne s hj Bay.cleared).symm ▸ h j
  clear i he h := forall_onBay (fun j _ => h j) (K.clear he (h i))
  identify i h := K.enterIdentifying i h
  writeRecord {s} i f v hi h := by
    have hw := forall_onBay (f := fun y => { y with record := y.record.writeField s.uptime v f })
      (fun j _ => h j) (K.write s.uptime v f hi (h i))
    unfold State.writeRecord
    dsimp only
    split
    · exact hw
    · exact hw
  identity {s} i d hi h := forall_onBay (s := s)
    (f := fun y => { y with record := { y.record with identity := some d } })
    (fun j _ => h j) (K.identity d hi (h i))
  suspect h := by
    unfold State.takeSuspect
    dsimp only
    split <;> exact K.markSuspect .b (K.markSuspect .a h)
  drop _ _ _ h := h
  park _ _ h := K.syncPins h
  join _ _ h := h

theorem reevaluate (ev : SupplyEvent) (h : ∀ i, Q (s.bay i)) :
    ∀ i, Q ((s.reevaluate ev).bay i) := by
  have gate {s : State} (i : BayId) (r : Bay → Role) (c : Bay → Bool) (h : ∀ i, Q (s.bay i)) :
      ∀ j, Q ((s.onBay i fun y => { y with role := r y, charging := c y }).bay j) :=
    forall_onBay (fun j _ => h j) (K.gates _ _ (h i))
  have h1 : ∀ i, Q ((s.supplyTransition ev).bay i) := bay_congr (by simp) h
  have h2 : ∀ i, Q ((s.supplyTransition ev).selectDischarge.bay i) := by
    unfold State.selectDischarge
    dsimp only
    split <;> exact gate .b _ Bay.charging (gate .a _ Bay.charging h1)
  have h3 : ∀ i, Q ((s.supplyTransition ev).selectDischarge.selectCharge.bay i) :=
    gate .b Bay.role _ (gate .a Bay.role _ h2)
  refine bay_congr (reevaluate_bays ev s) ?_
  unfold State.setLastSupply
  exact K.setReasons .b _ (K.setReasons .a _ h3)

theorem closeEvent (h : ∀ i, Q (s.bay i)) : ∀ i, Q (s.closeEvent.bay i) :=
  K.kept.closeEvent_of (fun h => h) K.reevaluate h

theorem setStimulus (u : Streams) (h : ∀ i, Q (s.bay i)) : ∀ i, Q ((s.setStimulus u).bay i) := by
  refine K.syncPins (bay_congr ?_ h)
  split <;> rfl

/-- A written setting changes the bays through the lockout limit alone (R21). -/
theorem put (x : Setting) (bs : List Byte) (h : ∀ i, Q (s.bay i)) :
    ∀ i, Q ((x.put bs s).bay i) := by
  cases x
  case lockoutLimit i =>
    exact K.kept.lockoutLimitWritten (s := s.onPolicy fun p =>
      { p with lockoutLimit := p.lockoutLimit.set i (min 15 (leNat bs)) }) i h
  case stream st =>
    exact bay_congr (s := s) (t := s.writeStream st (byteAt bs 0 != 0) (byteAt bs 1))
      (by simp only [State.writeStream_frame]) h
  case stimulus => exact K.setStimulus _ h
  all_goals exact h

theorem afterPuts (xs : List Setting) (h : ∀ i, Q (s.bay i)) :
    ∀ i, Q ((s.afterPuts xs).bay i) := by
  have hc : ∀ i, Q ((s.owe .other).closeEvent.bay i) := K.closeEvent h
  unfold State.afterPuts State.panelWritten
  dsimp only
  (repeat' split)
  · exact K.closeEvent h
  · exact K.closeEvent h
  · exact hc
  · exact h

theorem setMode (m : PartMode) (h : ∀ i, Q (s.bay i)) : ∀ i, Q ((s.setMode m).bay i) := by
  have hq (y : Bay) (p : Policy) (o : PartMode) : Bay.Quiet y (y.modeChanged p o m) := by
    constructor
    case ident =>
      unfold Bay.modeChanged
      dsimp only
      (repeat' split) <;> exact id
    all_goals simp
  have hb : ∀ i, Q ((((s.onCtl (ModeCtl.enter m)).onBay .a
      (Bay.modeChanged s.policy s.ctl.mode m)).onBay .b
      (Bay.modeChanged s.policy s.ctl.mode m)).bay i) :=
    K.kept.bay .b _ (hq _ _ _) (K.kept.bay .a _ (hq _ _ _) h)
  unfold State.setMode
  dsimp only
  split
  · exact h
  · refine bay_congr ?_ hb
    split <;> simp

/-- The supply controller's part of a full reset (R92). -/
theorem fullResetSupply {o : BayId → BayState} (h : ∀ i, R (o i) (s.bay i)) :
    ∀ i, R (o i) (s.fullResetSupply.bay i) := by
  have on {s : State} (i : BayId) (f : Bay → Bay) (h : ∀ i, R (o i) (s.bay i))
      (hf : R (o i) (f (s.bay i))) : ∀ j, R (o j) ((s.onBay i f).bay j) := fun j => by
    rcases eq_or_ne j i with rfl | hne
    · simpa using hf
    · simpa [State.onBay_bay_ne s hne f] using h j
  have gate {s : State} (i : BayId) (r : Bay → Role) (c : Bay → Bool)
      (h : ∀ i, R (o i) (s.bay i)) :
      ∀ j, R (o j) ((s.onBay i fun y => { y with role := r y, charging := c y }).bay j) :=
    on i _ h (K.resetGate _ _ (h i))
  have set {s : State} (i : BayId) (f : LockReasons → LockReasons)
      (h : ∀ i, R (o i) (s.bay i)) : ∀ j, R (o j) ((s.setReasons i f).bay j) := fun j => by
    obtain ⟨b, hb⟩ := syncPins_bay
      (s.onBay i fun y => y.setReasons (s.lines.lockConfirm.get i) (f y.reasons)) j
    unfold State.setReasons
    rw [hb]
    exact K.resetPin b (on i _ h (K.resetSet _ _ (h i)) j)
  have h1 : ∀ i, R (o i) (s.selectDischarge.bay i) := by
    unfold State.selectDischarge
    dsimp only
    split <;> exact gate .b _ Bay.charging (gate .a _ Bay.charging h)
  have h2 : ∀ i, R (o i) (s.selectDischarge.selectCharge.bay i) :=
    gate .b Bay.role _ (gate .a Bay.role _ h1)
  have e : s.fullResetSupply.bays =
      (s.selectDischarge.selectCharge.setLastSupply fun _ => .empty).bays := by
    simp [State.fullResetSupply]
  simp only [State.bay, e]
  unfold State.setLastSupply
  exact set .b _ (set .a _ h2)

/-- The bays of a full reset, from their places to the look of the latches that left RELEASING
(R66). -/
theorem fullResetPlaced (h : ∀ i, Q (s.bay i)) : ∀ i, Q ((fullResetPlaced s).bay i) := by
  have h0 : ∀ i, R (s.bay i).state (s.fullResetBlocks.bay i) := fun i => by
    cases i <;> exact K.reset _ _ (h _)
  have h1 := K.fullResetSupply (o := fun i => (s.bay i).state) h0
  have own {u : State} (i : BayId) (o : BayState) (hi : R o (u.bay i)) :
      Q ((u.leftReleasing i o).bay i) := by
    unfold State.leftReleasing
    split
    next ho =>
      obtain ⟨b, hb⟩ := syncPins_bay (u.onBay i (Bay.afterReleasing (u.lines.lockConfirm.get i))) i
      rw [hb, State.onBay_bay]
      exact K.pin b (K.left _ (ho ▸ hi))
    next ho => exact K.stays ho hi
  have other {u : State} {i j : BayId} (hj : j ≠ i) (o : BayState) :
      ∃ b, (u.leftReleasing i o).bay j = { u.bay j with solenoidPin := b } := by
    unfold State.leftReleasing
    split
    · obtain ⟨b, hb⟩ := syncPins_bay (u.onBay i (Bay.afterReleasing (u.lines.lockConfirm.get i))) j
      exact ⟨b, by rw [hb, State.onBay_bay_ne u hj]⟩
    · exact ⟨_, rfl⟩
  obtain ⟨b, hb⟩ := other (u := s.fullResetBlocks.fullResetSupply) (i := .a) (j := .b) (by decide)
    s.bays.a.state
  obtain ⟨c, hc⟩ := other (u := s.fullResetBlocks.fullResetSupply.leftReleasing .a s.bays.a.state)
    (i := .b) (j := .a) (by decide) s.bays.b.state
  intro i
  cases i
  · exact hc ▸ K.pin c (own .a _ (h1 .a))
  · exact own .b _ (hb ▸ K.resetPin b (h1 .b))

/-- A predicate of one bay, held by both, as an invariant of every step. -/
theorem stepKept : StepKept fun s => ∀ i, Q (s.bay i) where
  toKept := K.kept
  pending _ h := h
  closeEvent h := K.closeEvent h
  ctl _ _ _ h := h
  motion _ _ h := h
  returnToCalm h := K.kept.returnToCalm_of (fun h => h) (fun h => h) h
  light _ _ h := h
  streams _ _ _ _ h := h
  brightness _ _ _ h := h
  panelOn h := h
  panelOff h := by
    unfold State.backlightOff
    split <;> exact h
  applyCurve h := by
    unfold State.applyCurve
    split <;> exact h
  forget h := h
  clearSuspect {s} i h := by
    have h1 := forall_onBay (s := s)
      (f := fun y => { y with record := { y.record with suspect := false } })
      (fun j _ => h j) (K.suspect false (h i))
    unfold State.clearSuspect
    dsimp only [done]
    split <;> exact h1
  setMode m h := K.setMode m h
  setStimulus u h := K.setStimulus u h
  takeFields sp c xs h := takeFields_of (P := fun s => ∀ i, Q (s.bay i))
    (W := fun _ s => ∀ i, Q (s.bay i)) (fun _ _ h => h)
    (fun _ x bs _ h => K.put x bs h) (fun xs _ h => K.afterPuts xs h) sp c xs h
  supply _ _ _ h := h
  filters _ _ h := h
  confirmRose i h := K.syncPins (forall_onBay (fun j _ => h j) (K.rose (h i)))
  confirmFell i h := K.syncPins (forall_onBay (fun j _ => h j) (K.fell (h i)))
  engageLimit i hl h := K.syncPins (forall_onBay (fun j _ => h j) (K.engage hl (h i)))
  releaseLimit i hl h := K.syncPins (forall_onBay (fun j _ => h j) (K.release hl (h i)))
  tick {s} h := by
    have ht (y : Bay) : Bay.Quiet y y.tick := by
      constructor <;> simp [Bay.tick, tickOpt]
    intro i
    cases i
    · exact K.quiet (ht _) (h .a)
    · exact K.quiet (ht _) (h .b)
  placed h := K.fullResetPlaced h
  atPowerOn s _ i := by cases i <;> exact K.fresh _

end BayKept
end
end Sys2Proof.Proofs
end

section
/-!
PROOFS. The latches (R59 to R62) and the pack records (R11, R15, R26), which each step keeps bay by bay.
-/

namespace Sys2Proof.Proofs
open Sys2Proof.Machine

/-! ### The latch follows its lock-reason set -/

/-- A latch within a full reset, of a bay that was in state `o`: sound, but that a bay which leaves
RELEASING may hold a reason with its latch UNLOCKED (R62; log 34). -/
structure LatchPlaced (o : BayState) (y : Bay) : Prop where
  needsReason : y.latch = .engaging ∨ y.latch = .locked ∨ y.latch = .lockFailed →
    y.reasons.held = true
  holds       : y.reasons.held = true → y.latch = .engaging ∨ y.latch = .locked ∨
    y.latch = .lockFailed ∨ (y.latch = .unlocked ∧ o = .releasing)
  state       : y.state ≠ .releasing
  solenoid    : y.solenoid = (y.latch == .engaging || y.latch == .locked)
  limit       : y.latchLimit.isSome = (y.latch == .engaging || y.latch == .disengaging)

/-- An engaged latch with a reason held is sound outside RELEASING (R60). -/
theorem latchSound_engage {y : Bay} (c : Bool) (hr : y.reasons.held = true)
    (hs : y.state ≠ .releasing) : (y.engage c).LatchSound := by
  cases c <;> constructor <;> simp [Bay.engage, hr, hs]

theorem latchPlaced_engage {y : Bay} {o : BayState} (c : Bool) (hr : y.reasons.held = true)
    (hs : y.state ≠ .releasing) : LatchPlaced o (y.engage c) := by
  cases c <;> constructor <;> simp [Bay.engage, hr, hs]

/-- A disengaged latch without a reason is sound (R61). -/
theorem latchSound_disengage {y : Bay} (c : Bool) (hr : y.reasons.held = false)
    (hs : y.state ≠ .releasing) : (y.disengage c).LatchSound := by
  cases c <;> constructor <;> simp [Bay.disengage, hr, hs]

theorem latchPlaced_disengage {y : Bay} {o : BayState} (c : Bool) (hr : y.reasons.held = false)
    (hs : y.state ≠ .releasing) : LatchPlaced o (y.disengage c) := by
  cases c <;> constructor <;> simp [Bay.disengage, hr, hs]

theorem latchSound_setReasons {y : Bay} (c : Bool) (r : LockReasons) (h : y.LatchSound) :
    (y.setReasons c r).LatchSound := by
  obtain ⟨hn, hh, hr, hs, hl⟩ := h
  unfold Bay.setReasons
  dsimp only
  split
  next hf =>
    obtain ⟨hr1, hr0⟩ : r.held = true ∧ y.reasons.held = false := by simpa using hf
    unfold Bay.setFilled
    split
    next hy =>
      dsimp only at hy
      split
      · constructor <;> simp_all
      next hst => exact latchSound_engage c hr1 hst
    next hy => exact latchSound_engage c hr1 (fun e => by simp_all)
    all_goals simp_all
  next hf =>
    split
    next hf' =>
      obtain ⟨hr0, hr1⟩ : r.held = false ∧ y.reasons.held = true := by simpa using hf'
      unfold Bay.setEmptied
      split
      · exact latchSound_disengage c hr0 (fun e => by simp_all)
      · exact latchSound_disengage c hr0 (fun e => by simp_all)
      all_goals constructor <;> simp_all <;> rfl
    next hf' =>
      have e : r.held = y.reasons.held := by
        cases h1 : r.held <;> cases h2 : y.reasons.held <;> simp_all
      constructor <;> simp_all

/-- Within a full reset the latch follows its set as elsewhere. -/
theorem latchPlaced_setReasons {y : Bay} {o : BayState} (c : Bool) (r : LockReasons)
    (h : LatchPlaced o y) : LatchPlaced o (y.setReasons c r) := by
  obtain ⟨hn, hh, hr, hs, hl⟩ := h
  unfold Bay.setReasons
  dsimp only
  split
  next hf =>
    obtain ⟨hr1, hr0⟩ : r.held = true ∧ y.reasons.held = false := by simpa using hf
    unfold Bay.setFilled
    split
    next hy =>
      split
      next hst => exact absurd hst hr
      next hst => exact latchPlaced_engage c hr1 hst
    next hy => exact latchPlaced_engage c hr1 hr
    all_goals simp_all
  next hf =>
    split
    next hf' =>
      obtain ⟨hr0, hr1⟩ : r.held = false ∧ y.reasons.held = true := by simpa using hf'
      unfold Bay.setEmptied
      split
      · exact latchPlaced_disengage c hr0 hr
      · exact latchPlaced_disengage c hr0 hr
      all_goals constructor <;> simp_all <;> rfl
    next hf' =>
      have e : r.held = y.reasons.held := by
        cases h1 : r.held <;> cases h2 : y.reasons.held <;> simp_all
      constructor <;> simp_all

/-- A latch that looks at its set when its bay leaves RELEASING is sound (R62). -/
theorem latchSound_afterReleasing {y : Bay} (c : Bool) (h : LatchPlaced .releasing y) :
    (y.afterReleasing c).LatchSound := by
  unfold Bay.afterReleasing
  split
  next hu => exact latchSound_engage c (by simp_all) h.state
  next hu =>
    obtain ⟨hn, hh, hr, hs, hl⟩ := h
    constructor <;> simp_all

theorem latchSound_of_placed {y : Bay} {o : BayState} (ho : o ≠ .releasing) (h : LatchPlaced o y) :
    y.LatchSound := by
  obtain ⟨hn, hh, hr, hs, hl⟩ := h
  constructor <;> simp_all

/-- A bay that enters a state other than RELEASING, its latch as yet without a look. -/
theorem latchPlaced_of_sound {y z : Bay} (hl : z.latch = y.latch) (hm : z.latchLimit = y.latchLimit)
    (hs : z.solenoid = y.solenoid) (hr : z.reasons = y.reasons) (hz : z.state ≠ .releasing)
    (h : y.LatchSound) : LatchPlaced y.state z := by
  obtain ⟨h1, h2, h3, h4, h5⟩ := h
  constructor <;> simp_all

theorem latchSound_enter {y : Bay} (p : Policy) (m : PartMode) (c : Bool) (n : BayState)
    (hn : n = .releasing → y.latch.opens = true) (h : y.LatchSound) :
    (Bay.enter p m c n y).LatchSound := by
  by_cases hr : n = .releasing
  · subst hr
    obtain ⟨h1, h2, h3, h4, h5⟩ := h
    have ho := hn rfl
    cases hy : y.latch <;> constructor <;> simp_all [Bay.enter, LatchState.opens]
  · unfold Bay.enter
    dsimp only
    split
    next hl =>
      have e : y.state = .releasing := by simp_all
      exact latchSound_afterReleasing c (e ▸ latchPlaced_of_sound rfl rfl rfl rfl hr h)
    next hl =>
      exact latchSound_of_placed (o := y.state) (by simp_all)
        (latchPlaced_of_sound rfl rfl rfl rfl hr h)

theorem bayKept_latchSound : BayKept Bay.LatchSound LatchPlaced where
  quiet hq h := by
    obtain ⟨hn, hh, hr, hs, hl⟩ := h
    constructor <;> simpa [hq.latch, hq.reasons, hq.state, hq.solenoid, hq.limit]
  pin _ h := ⟨h.1, h.2, h.3, h.4, h.5⟩
  gates _ _ h := ⟨h.1, h.2, h.3, h.4, h.5⟩
  reasons c r h := latchSound_setReasons c r h
  move p m c n _ _ hn h := latchSound_enter p m c n hn h
  seat p m c _ h := latchSound_enter p m c _ (by simp) h
  vacate p m c h := latchSound_enter p m c _ (by simp) ⟨h.1, h.2, h.3, h.4, h.5⟩
  clear _ h := ⟨h.1, h.2, h.3, h.4, h.5⟩
  identify _ h := ⟨h.1, h.2, h.3, h.4, h.5⟩
  write _ _ _ _ h := ⟨h.1, h.2, h.3, h.4, h.5⟩
  identity _ _ h := ⟨h.1, h.2, h.3, h.4, h.5⟩
  suspect _ h := ⟨h.1, h.2, h.3, h.4, h.5⟩
  rose h := by
    obtain ⟨hn, hh, hr, hs, hl⟩ := h
    unfold Bay.confirmRose
    split <;> constructor <;> simp_all
  fell h := by
    unfold Bay.confirmFell
    split
    · obtain ⟨hn, hh, hr, hs, hl⟩ := h
      constructor <;> simp_all
    next hy =>
      split
      next hr => exact latchSound_engage false hr fun e => by simpa [hy] using h.releasing e
      next => exact h
    · exact h
    · exact h
    · exact h
  engage hl h := by
    obtain ⟨hn, hh, hr, hs, hm⟩ := h
    constructor <;> simp_all
  release hl h := by
    obtain ⟨hn, hh, hr, hs, hm⟩ := h
    constructor <;> simp_all
  fresh b := by constructor <;> simp [Bay.fresh, LockReasons.empty, LockReasons.held]
  reset {y} c i h := by
    refine latchPlaced_of_sound rfl rfl rfl rfl ?_ h
    simp only [Bay.fullReset, BayState.afterFullReset]
    (repeat' split) <;> simp
  resetPin _ h := ⟨h.1, h.2, h.3, h.4, h.5⟩
  resetGate _ _ h := ⟨h.1, h.2, h.3, h.4, h.5⟩
  resetSet c r h := latchPlaced_setReasons c r h
  left c h := latchSound_afterReleasing c h
  stays ho h := latchSound_of_placed ho h

theorem latchesSound_iff (s : State) : s.LatchesSound ↔ ∀ i, (s.bay i).LatchSound :=
  ⟨fun h i => by cases i <;> simp [h.1, h.2], fun h => ⟨h .a, h .b⟩⟩

/-- Settles O5: the elementary changes of a bay keep its latch following its lock-reason set. -/
theorem stepKeepsLatchesSound : Obligations.StepKeepsLatchesSound := by
  unfold Obligations.StepKeepsLatchesSound
  intro s t h e
  rw [latchesSound_iff] at h ⊢
  exact bayKept_latchSound.stepKept.step_keeps h e

/-! ### The record of a bay -/

theorem record_eq_of_quiet {y z : Bay} (h : Bay.Quiet y z) :
    z.record.identity = y.record.identity ∧ z.record.voltage = y.record.voltage ∧
    z.record.current = y.record.current ∧ z.record.temperature = y.record.temperature ∧
    z.record.chargePct = y.record.chargePct ∧ z.record.remaining = y.record.remaining ∧
    z.record.full = y.record.full ∧ z.record.alarms = y.record.alarms := by
  have e := h.record
  and_intros <;> rw [← e]

/-- A snoop writes no identity part where there is none (R25). -/
theorem writeField_identity (t v : Nat) (f : SnoopField) (r : PackRecord) :
    (r.writeField t v f).identity.isSome = r.identity.isSome := by
  cases f <;> simp [PackRecord.writeField, PackRecord.writePct, PackRecord.writeAlarms,
    PackRecord.onIdentity]

/-- Only IDENTIFYING keeps an identification (R11). -/
theorem onMove_ident (p : Policy) (m : PartMode) (o n : BayState) (t : Traffic)
    (h : (t.onMove p m o n).ident.isSome = true) : n = .identifying := by
  by_contra hn
  unfold Traffic.onMove at h
  (repeat' split at h) <;> simp_all

theorem recordSound_enter {y : Bay} (p : Policy) (m : PartMode) (c : Bool) (n : BayState)
    (hn : y.record.identity.isSome = true → n ≠ .empty ∧ n ≠ .seated)
    (h : y.record.identity = none → y.record.voltage = none ∧ y.record.current = none ∧
      y.record.temperature = none ∧ y.record.chargePct = none ∧ y.record.remaining = none ∧
      y.record.full = none ∧ y.record.alarms = none) : (Bay.enter p m c n y).RecordSound := by
  have e : (Bay.enter p m c n y).record = y.record := by simp
  constructor
  · rw [e]
    exact h
  · rw [e, Bay.enter_state]
    exact hn
  · rw [Bay.enter_traffic, Bay.enter_state]
    exact onMove_ident p m _ n _

theorem recordSound_congr {y z : Bay} (hr : z.record = y.record) (hs : z.state = y.state)
    (ht : z.traffic = y.traffic) (h : y.RecordSound) : z.RecordSound := by
  constructor
  · exact hr ▸ h.live
  · rw [hr, hs]
    exact h.placed
  · rw [hs, ht]
    exact h.ident

theorem bayKept_recordSound : BayKept Bay.RecordSound fun _ => Bay.RecordSound where
  quiet hq h := by
    obtain ⟨h1, h2, h3, h4, h5, h6, h7, h8⟩ := record_eq_of_quiet hq
    constructor
    · simpa only [h1, h2, h3, h4, h5, h6, h7, h8] using h.live
    · simpa only [h1, hq.state] using h.placed
    · exact fun hi => hq.state.trans (h.ident (hq.ident hi))
  pin _ h := ⟨h.1, h.2, h.3⟩
  gates _ _ h := ⟨h.1, h.2, h.3⟩
  reasons c r h := recordSound_congr (by simp) (by simp) (by simp) h
  move p m c n h1 h2 _ h := recordSound_enter p m c n (fun _ => ⟨h1, h2⟩) h.live
  seat p m c he h := recordSound_enter p m c _ (fun hi => absurd he (h.placed hi).1) h.live
  vacate p m c h := recordSound_enter p m c _ (by simp [Bay.cleared, PackRecord.absent])
    (by simp [Bay.cleared, PackRecord.absent])
  clear _ h := by
    refine ⟨?_, ?_, h.ident⟩ <;> simp [Bay.cleared, PackRecord.absent]
  identify hs h := by
    constructor <;> simp [PackRecord.reidentify, PackRecord.absent, hs]
  write t v f hi h := by
    refine ⟨fun hn => ?_, fun _ => h.placed hi, h.ident⟩
    have := writeField_identity t v f _ |>.trans hi
    simp_all
  identity d hi h := by
    have hs := h.ident hi
    constructor <;> simp [hs]
  suspect _ h := ⟨h.1, h.2, h.3⟩
  rose h := recordSound_congr (by simp) (by simp) (by simp) h
  fell h := recordSound_congr (by simp) (by simp) (by simp) h
  engage _ h := ⟨h.1, h.2, h.3⟩
  release _ h := ⟨h.1, h.2, h.3⟩
  fresh b := by constructor <;> simp [Bay.fresh, PackRecord.absent, Traffic.fresh]
  reset c i h := by
    constructor <;> simp [Bay.fullReset, PackRecord.fullReset, PackRecord.absent,
      Traffic.afterFullReset, Traffic.fresh]
  resetPin _ h := ⟨h.1, h.2, h.3⟩
  resetGate _ _ h := ⟨h.1, h.2, h.3⟩
  resetSet c r h := recordSound_congr (by simp) (by simp) (by simp) h
  left c h := recordSound_congr (by simp) (by simp) (by simp) h
  stays _ h := h

theorem recordsSound_iff (s : State) : s.RecordsSound ↔ ∀ i, (s.bay i).RecordSound :=
  ⟨fun h i => by cases i <;> simp [h.1, h.2], fun h => ⟨h .a, h .b⟩⟩

/-- The first half of O10: the elementary changes of a bay keep its record sound. -/
theorem step_keeps_recordsSound {s t : State} (h : s.RecordsSound) (e : step s = .next t) :
    t.RecordsSound := by
  rw [recordsSound_iff] at h ⊢
  exact bayKept_recordSound.stepKept.step_keeps h e

end Sys2Proof.Proofs
end

section
/-!
PROOFS. The drop log unit: a predicate of this unit alone that its own changes keep is kept by every
step. Two such predicates: only the newest record may be OPEN (R157), and the log and its counts stay
within their capacities (R153, R157, R158).
-/

namespace Sys2Proof.Proofs
open Sys2Proof.Machine

/-- `D` is kept by each elementary change of the drop log unit. -/
structure DropKept (D : DropLog → Prop) : Prop where
  quiet  : ∀ {d e}, DropLog.Quiet d e → D d → D e
  pin    : ∀ {d} b, D d → D { d with parkPin := b }
  join   : ∀ {d} r, d.holdsOpen = false → D d → D (DropLog.joined (d.drops + 1) r d)
  forget : ∀ {d}, D d → D { d with log := [], episodeRecord := false }
  table  : ∀ {d} l, D d → D { d with table := l }
  index  : ∀ {d} n, D d → D { d with index := min 15 n }
  reset  : ∀ {d}, D d → D d.fullReset
  fresh  : D DropLog.fresh

theorem syncPins_drop (s : State) : ∃ b, s.syncPins.drop = { s.drop with parkPin := b } := by
  unfold State.syncPins
  split
  · exact ⟨_, rfl⟩
  · exact ⟨_, rfl⟩

namespace DropKept
variable {D : DropLog → Prop} (K : DropKept D) {s : State}
include K

theorem syncPins (h : D s.drop) : D s.syncPins.drop := by
  obtain ⟨b, hb⟩ := syncPins_drop s
  exact hb ▸ K.pin b h

theorem moveBay (i : BayId) (n : BayState) (h : D s.drop) : D (s.moveBay i n).drop := by
  have h1 : D (s.onBay i (Bay.enter s.policy s.ctl.mode (s.lines.lockConfirm.get i) n)).syncPins.drop :=
    K.syncPins h
  unfold State.moveBay
  dsimp only
  split <;> exact h1

/-- A predicate of the drop log unit as an invariant of the elementary updates. -/
theorem kept : Kept fun s => D s.drop where
  link _ h := h
  flags _ h := h
  lines _ h := h
  choice h := h
  holdMask _ h := h
  wake _ h := h
  owe _ h := h
  pins h := K.syncPins h
  reasons _ _ _ h := K.syncPins h
  bay _ _ _ h := h
  move i n _ _ _ h := K.moveBay i n h
  seat i _ h := K.moveBay i _ h
  vacate i _ h := K.moveBay i _ h
  clear _ _ h := h
  identify i h := K.moveBay i _ h
  writeRecord i f v _ h := by simpa using h
  identity _ _ _ h := h
  suspect h := by simpa using h
  drop _ hq _ h := K.quiet hq h
  park _ hq h := K.syncPins (K.quiet hq h)
  join r ho h := K.join r ho h

theorem setReasons (i : BayId) (f : LockReasons → LockReasons) (h : D s.drop) :
    D (s.setReasons i f).drop :=
  K.syncPins h

theorem closeEvent (h : D s.drop) : D s.closeEvent.drop := by
  refine K.kept.closeEvent_of (fun h => h) (fun {s} ev h => ?_) h
  have e : (s.reevaluate ev).drop =
      (((s.supplyTransition ev).selectDischarge.selectCharge).setLastSupply id).drop := by
    simp [State.reevaluate]
  rw [e]
  unfold State.setLastSupply
  refine K.setReasons .b _ (K.setReasons .a _ ?_)
  simpa using h

theorem setStimulus (u : Streams) (h : D s.drop) : D (s.setStimulus u).drop := by
  refine K.syncPins ?_
  split <;> exact h

theorem put (x : Setting) (bs : List Byte) (h : D s.drop) : D (x.put bs s).drop := by
  cases x
  case lockoutLimit i =>
    exact K.kept.lockoutLimitWritten (s := s.onPolicy fun p =>
      { p with lockoutLimit := p.lockoutLimit.set i (min 15 (leNat bs)) }) i h
  case holdClasses =>
    have hq : DropLog.Quiet s.drop (Setting.holdClasses.put bs s).drop :=
      .of_log_eq rfl rfl rfl rfl rfl
    exact K.quiet hq h
  case action n => exact K.table _ h
  case logIndex => exact K.index _ h
  case stream st =>
    have e : (s.writeStream st (byteAt bs 0 != 0) (byteAt bs 1)).drop = s.drop := by simp
    exact e.symm ▸ h
  case stimulus => exact K.setStimulus _ h
  all_goals exact h

theorem afterPuts (xs : List Setting) (h : D s.drop) : D (s.afterPuts xs).drop := by
  unfold State.afterPuts State.panelWritten
  dsimp only
  (repeat' split)
  · exact K.closeEvent h
  · exact K.closeEvent h
  · exact K.closeEvent (s := s.owe .other) h
  · exact h

/-- A predicate of the drop log unit as an invariant of every step. -/
theorem stepKept : StepKept fun s => D s.drop where
  toKept := K.kept
  pending _ h := h
  closeEvent h := K.closeEvent h
  ctl _ _ _ h := h
  motion _ _ h := h
  returnToCalm h := K.kept.returnToCalm_of (fun h => h) (fun h => h) h
  light _ _ h := h
  streams _ _ _ _ h := h
  brightness _ _ _ h := h
  panelOn h := h
  panelOff h := by simpa using h
  applyCurve h := by simpa using h
  forget h := K.forget h
  clearSuspect i h := by simpa using h
  setMode m h := by simpa using h
  setStimulus u h := K.setStimulus u h
  takeFields sp c xs h := takeFields_of (P := fun s => D s.drop) (W := fun _ s => D s.drop)
    (fun _ _ h => h) (fun _ x bs _ h => K.put x bs h) (fun xs _ h => K.afterPuts xs h) sp c xs h
  supply _ _ _ h := h
  filters _ _ h := h
  confirmRose _ h := K.syncPins h
  confirmFell _ h := K.syncPins h
  engageLimit _ _ h := K.syncPins h
  releaseLimit _ _ h := K.syncPins h
  tick h := h
  placed {s} h := by
    have h1 : D s.fullResetBlocks.fullResetSupply.drop := by
      have e : s.fullResetBlocks.fullResetSupply.drop =
          (s.fullResetBlocks.selectDischarge.selectCharge.setLastSupply fun _ => .empty).drop := by
        simp [State.fullResetSupply]
      rw [e]
      unfold State.setLastSupply
      refine K.setReasons .b _ (K.setReasons .a _ ?_)
      have e' : s.fullResetBlocks.selectDischarge.selectCharge.drop = s.drop.fullReset := by
        simp [State.fullResetBlocks]
      exact e'.symm ▸ K.reset h
    have left {s : State} (i : BayId) (o : BayState) (h : D s.drop) :
        D (s.leftReleasing i o).drop := by
      unfold State.leftReleasing
      split
      · exact K.syncPins h
      · exact h
    exact left .b _ (left .a _ h1)
  atPowerOn _ _ := K.fresh

end DropKept

/-! ### Only the newest record may be OPEN (R157) -/

/-- Only the record at the newest position is OPEN. -/
def OnlyNewestOpen (l : List DropRecord) : Prop :=
  ∀ (n : Nat) (r : DropRecord), l[n]? = some r → r.isOpen = true → n + 1 = l.length

theorem length_onNewest (f : DropRecord → DropRecord) (l : List DropRecord) :
    (onNewest f l).length = l.length := by
  induction l with
  | nil => rfl
  | cons r rs ih => cases rs <;> simp_all [onNewest]

/-- The records before the newest are left as they are. -/
theorem getElem?_onNewest (f : DropRecord → DropRecord) {l : List DropRecord} {n : Nat}
    (h : n + 1 < l.length) : (onNewest f l)[n]? = l[n]? := by
  induction l generalizing n with
  | nil => rfl
  | cons r rs ih =>
    cases rs with
    | nil => simp at h
    | cons q qs =>
      cases n with
      | zero => rfl
      | succ n => exact ih (by simpa using h)

theorem onlyNewestOpen_onNewest (f : DropRecord → DropRecord) {l : List DropRecord}
    (h : OnlyNewestOpen l) : OnlyNewestOpen (onNewest f l) := by
  intro n r hn ho
  rw [length_onNewest]
  by_contra hne
  have hlt : n + 1 < l.length := by
    have := (List.getElem?_eq_some_iff.mp hn).1
    rw [length_onNewest] at this
    omega
  exact hne (h n r (getElem?_onNewest f hlt ▸ hn) ho)

/-- A log without an OPEN newest record has no OPEN record at all. -/
theorem closed_of_holdsOpen {d : DropLog} (h : OnlyNewestOpen d.log) (ho : d.holdsOpen = false)
    {r : DropRecord} (hr : r ∈ d.log) : r.isOpen = false := by
  obtain ⟨n, hn⟩ := List.mem_iff_getElem?.mp hr
  by_contra hopen
  have hl := h n r hn (by simpa using hopen)
  have : d.log.getLast? = some r := by
    rw [List.getLast?_eq_getElem?, ← hl]
    exact hn
  simp [DropLog.holdsOpen, this] at ho
  exact hopen ho

theorem onlyNewestOpen_joinLog {l : List DropRecord} (r : DropRecord)
    (h : ∀ q ∈ l, q.isOpen = false) : OnlyNewestOpen (joinLog r l) := by
  intro n q hn ho
  unfold joinLog at hn ⊢
  generalize hk : (if Config.logCapacity ≤ l.length then
    l.drop (l.length + 1 - Config.logCapacity) else l) = k at hn ⊢
  have hsub : ∀ q ∈ k, q.isOpen = false := by
    rw [← hk]
    split
    · exact fun q hq => h q (List.mem_of_mem_drop hq)
    · exact h
  by_contra hne
  have hlt : n < k.length := by
    have := (List.getElem?_eq_some_iff.mp hn).1
    simp at this hne
    omega
  rw [List.getElem?_append_left hlt] at hn
  simp [hsub q (List.mem_of_getElem? hn)] at ho

theorem dropKept_log : DropKept fun d => OnlyNewestOpen d.log where
  quiet hq h := by
    obtain e | ⟨f, e⟩ := hq.log
    · exact e ▸ h
    · exact e ▸ onlyNewestOpen_onNewest f h
  pin _ h := h
  join r ho h := onlyNewestOpen_joinLog r fun _ hq => closed_of_holdsOpen h ho hq
  forget _ := fun _ _ hn => by simp at hn
  table _ h := h
  index _ h := h
  reset h := onlyNewestOpen_onNewest _ h
  fresh := fun _ _ hn => by simp [DropLog.fresh] at hn

/-- Settles O10: the bays keep their records sound, and the drop log unit its log. -/
theorem stepKeepsRecordsSound : Obligations.StepKeepsRecordsSound := by
  unfold Obligations.StepKeepsRecordsSound
  exact ⟨fun _ _ h e => step_keeps_recordsSound h e,
    fun _ _ h e => dropKept_log.stepKept.step_keeps h e⟩

/-! ### The capacities of the log (R153, R157, R158) -/

theorem length_joinLog (r : DropRecord) {l : List DropRecord} (h : l.length ≤ 16) :
    (joinLog r l).length ≤ 16 := by
  unfold joinLog
  split
  · simp [Config.logCapacity] at *
    omega
  · simp [Config.logCapacity] at *
    omega

theorem dropKept_bounded : DropKept DropLog.bounded where
  quiet {d e} hq h := by
    obtain ⟨hl, hd, hi⟩ := h
    refine ⟨?_, hq.drops ▸ hd, hq.index ▸ hi⟩
    obtain e | ⟨f, e⟩ := hq.log
    · exact e ▸ hl
    · rw [e, length_onNewest]
      exact hl
  pin _ h := h
  join r _ h := ⟨length_joinLog r h.1, min_le_left _ _, h.2.2⟩
  forget h := ⟨Nat.zero_le _, h.2⟩
  table _ h := h
  index _ h := ⟨h.1, h.2.1, min_le_left _ _⟩
  reset h := ⟨by simpa [DropLog.fullReset, length_onNewest] using h.1, h.2.1, Nat.zero_le _⟩
  fresh := by simp [DropLog.bounded, DropLog.fresh]

/-! ### Every capacity (R9, R157, R176, R188, R190) -/

/-- No command fills the response list or the ALERT packets beyond their capacity (R188, R190). -/
theorem exec_link_bounded {s t : State} (c : Instr) (h : s.link.bounded) (e : exec c s = .next t) :
    t.link.bounded := by
  cases c <;> cases e <;> (repeat' split) <;> simp [h]
/-- No command fills a request queue beyond its capacity (R9). -/
theorem exec_queues_bounded {s t : State} (c : Instr) (h : queuesBounded s.bays)
    (e : exec c s = .next t) : queuesBounded t.bays := by
  have bay {s : State} (i : BayId) (f : Bay → Bay)
      (hf : (s.bay i).traffic.bounded → (f (s.bay i)).traffic.bounded)
      (h : queuesBounded s.bays) : queuesBounded (s.onBay i f).bays := h.set i (hf (h.get i))
  have arbitrated {s : State} (i : BayId) (f : Traffic → Traffic)
      (hf : (s.bay i).traffic.bounded → (f (s.bay i).traffic).bounded)
      (h : queuesBounded s.bays) : queuesBounded ((s.onTraffic i f).arbitrate i).closeEvent.bays :=
    State.closeEvent_queues (State.arbitrate_queues _ (bay i _ hf h))
  cases c <;> cases e <;> (repeat' split)
  case intentFilterExpiry.refl.isFalse.isTrue i _ _ =>
    exact State.closeEvent_queues
      (show queuesBounded (State.intentClosing _ i).bays from
        State.intentClosing_queues i (bay i _ id h))
  case intentFilterExpiry.refl.isFalse.isFalse i _ _ =>
    exact State.closeEvent_queues (State.intentReopening_queues i (bay i _ id h))
  case lockConfirmRise.refl.isFalse i _ =>
    exact State.syncPins_queues (bay i Bay.confirmRose (by simp) (by simpa using h))
  case lockConfirmFall.refl.isFalse i _ =>
    exact State.syncPins_queues (bay i Bay.confirmFell (by simp) (by simpa using h))
  case engageLimitExpiry.refl.isTrue i _ => exact State.syncPins_queues (bay i _ id h)
  case disengageLimitExpiry.refl.isTrue i _ => exact State.syncPins_queues (bay i _ id h)
  case alertAsserted.refl.isTrue i _ => exact arbitrated i _ id h
  case pollTimerExpiry.refl.isTrue i _ => exact arbitrated i _ id h
  case settleTimerExpiry.refl.isTrue i _ =>
    exact State.closeEvent_queues (State.arbitrate_queues i (State.enterIdentifying_queues i h))
  all_goals simp [h]

/-- The uptime saturates (R176). -/
theorem exec_uptime_le {s t : State} (c : Instr) (h : s.uptime ≤ 4294967295)
    (e : exec c s = .next t) : t.uptime ≤ 4294967295 := by
  cases c <;> cases e
  case powerOnReset =>
    have e : s.powerOn.uptime = 0 := by simp [State.powerOn, State.atPowerOn]
    exact e ▸ Nat.zero_le _
  case uptimeTick => exact min_le_left _ _
  all_goals (repeat' split) <;> simp [h]

/-- Settles O4, list by list: the link and the queues by what each operation keeps, the drop log unit
by its elementary changes, the uptime by its saturation. -/
theorem stepKeepsCapacities : Obligations.StepKeepsCapacities := by
  unfold Obligations.StepKeepsCapacities
  intro s t h e
  have hd : t.drop.bounded := dropKept_bounded.stepKept.step_keeps h.log e
  unfold step at e
  split at e
  · cases e
    exact h
  next c q _ =>
    exact ⟨exec_link_bounded c (s := s.withPending q) h.link e,
      exec_queues_bounded c (s := s.withPending q) h.queues e, hd,
      exec_uptime_le c (s := s.withPending q) h.uptime e⟩

/-- Settles O2: a command is one update of the state, whose frame lemmas name what it leaves. -/
theorem everyCommandCompletes : Obligations.EveryCommandCompletes := by
  unfold Obligations.EveryCommandCompletes
  intro c s
  cases c <;> refine ⟨_, rfl, ?_⟩
  case powerOnReset => simp [State.powerOn_frame]
  case uptimeTick => simp
  all_goals (repeat' split) <;> simp

end Sys2Proof.Proofs
end

section
/-!
PROOFS. The pins and the last drive word sent (R119, R168): each change of a computed output is
followed, in the same operation, by its pin or its sending.
-/

namespace Sys2Proof.Proofs
open Sys2Proof.Machine

/-- The last drive word sent is the drive word, unless the outputs are undriven (R119). -/
def WordSent (s : State) : Prop := undriven s = false → s.back.lastSent = s.back.drive

/-- PARK and the solenoids stand at their computed levels, unless the outputs are undriven (R168). -/
def PinsSound (s : State) : Prop :=
  undriven s = false → s.drop.parkPin = s.drop.parkLine ∧
    ∀ i, (s.bay i).solenoidPin = (s.bay i).solenoid

theorem outputsSound_iff (s : State) : s.OutputsSound ↔ PinsSound s ∧ WordSent s := by
  constructor
  · exact fun h => ⟨fun hu => ⟨(h hu).1, fun i => by
      cases i
      · exact (h hu).2.1
      · exact (h hu).2.2.1⟩, fun hu => (h hu).2.2.2⟩
  · exact fun h hu => ⟨(h.1 hu).1, (h.1 hu).2 .a, (h.1 hu).2 .b, h.2 hu⟩

/-- The pins after `syncPins` are sound, whatever they were. -/
theorem pinsSound_syncPins (s : State) : PinsSound s.syncPins := by
  intro hu
  have e : undriven s = false := by simpa [undriven] using hu
  simp only [State.syncPins, e, Bool.false_eq_true, if_false]
  exact ⟨rfl, fun i => by cases i <;> rfl⟩

/-- A change of one bay that moves neither its solenoid nor its pin. -/
theorem pinsSound_onBay {s : State} {i : BayId} {f : Bay → Bay}
    (hp : (f (s.bay i)).solenoidPin = (s.bay i).solenoidPin)
    (hs : (f (s.bay i)).solenoid = (s.bay i).solenoid) (h : PinsSound s) :
    PinsSound (s.onBay i f) := by
  intro hu
  refine ⟨(h hu).1, forall_onBay (Q := fun y => y.solenoidPin = y.solenoid)
    (fun j _ => (h hu).2 j) ?_⟩
  rw [hp, hs]
  exact (h hu).2 i

theorem pinsSound_congr {s t : State} (hs : t.streams = s.streams) (hd : t.drop = s.drop)
    (hb : t.bays = s.bays) (h : PinsSound s) : PinsSound t := by
  simpa only [PinsSound, undriven, State.bay, hs, hd, hb] using h

theorem wordSent_congr {s t : State} (hs : t.streams = s.streams) (hb : t.back = s.back)
    (h : WordSent s) : WordSent t := by
  simpa only [WordSent, undriven, hs, hb] using h

theorem pinsSound_moveBay (s : State) (i : BayId) (n : BayState) : PinsSound (s.moveBay i n) := by
  unfold State.moveBay
  dsimp only
  split <;> exact pinsSound_syncPins _

theorem pinsSound_enterIdentifying (s : State) (i : BayId) : PinsSound (s.enterIdentifying i) :=
  pinsSound_onBay rfl rfl (pinsSound_moveBay s i _)

theorem pinsSound_markSuspect {s : State} (i : BayId) (h : PinsSound s) :
    PinsSound (s.onBay i Bay.markSuspect) :=
  pinsSound_onBay (by simp) (by simp) h

/-- The pins and the word as an invariant of the elementary updates. -/
theorem kept_outputs : Kept fun s => PinsSound s ∧ WordSent s where
  link _ h := h
  flags _ h := h
  lines _ h := h
  choice h := h
  holdMask _ h := h
  wake _ h := h
  owe _ h := h
  pins {s} h := ⟨pinsSound_syncPins s, wordSent_congr (by simp) (by simp) h.2⟩
  reasons i f _ h := ⟨pinsSound_syncPins _, wordSent_congr (by simp) (by simp) h.2⟩
  bay i f hq h := ⟨pinsSound_onBay hq.pin hq.solenoid h.1, h.2⟩
  move i n _ _ _ h := ⟨pinsSound_moveBay _ i n, wordSent_congr (by simp) (by simp) h.2⟩
  seat i _ h := ⟨pinsSound_moveBay _ i _, wordSent_congr (by simp) (by simp) h.2⟩
  vacate i f h := ⟨pinsSound_moveBay _ i _, wordSent_congr (by simp) (by simp) h.2⟩
  clear i _ h := ⟨pinsSound_onBay rfl rfl h.1, h.2⟩
  identify i h := ⟨pinsSound_enterIdentifying _ i, wordSent_congr (by simp) (by simp) h.2⟩
  writeRecord {s} i f v _ h := by
    have h1 : PinsSound (s.onRecord i fun _ => (s.bay i).record.writeField s.uptime v f) :=
      pinsSound_onBay rfl rfl h.1
    refine ⟨?_, wordSent_congr (by simp) (by simp) h.2⟩
    unfold State.writeRecord
    dsimp only
    split <;> exact h1
  identity i d _ h := ⟨pinsSound_onBay (s := _) (i := i)
    (f := fun y => { y with record := { y.record with identity := some d } }) rfl rfl h.1, h.2⟩
  suspect {s} h := by
    refine ⟨?_, wordSent_congr (by simp) (by simp) h.2⟩
    unfold State.takeSuspect
    dsimp only
    split <;> exact pinsSound_markSuspect .b (pinsSound_markSuspect .a h.1)
  drop f hq hl h :=
    ⟨fun hu => ⟨hq.pin.trans ((h.1 hu).1.trans hl.symm), (h.1 hu).2⟩, h.2⟩
  park _ _ h := ⟨pinsSound_syncPins _, wordSent_congr (by simp) (by simp) h.2⟩
  join _ _ h := h

/-! ### The drive word is sent where it is computed (R119) -/

theorem sent_send (u : Bool) (k : Backlight) (hu : u = false) :
    (k.send u).lastSent = (k.send u).drive := by
  subst hu
  rfl

theorem sent_redrive (u : Bool) (k : Backlight) (hu : u = false) :
    (k.redrive u).lastSent = (k.redrive u).drive :=
  sent_send u _ hu

theorem sent_reclamp (u : Bool) (k : Backlight) (hu : u = false) (h : k.lastSent = k.drive) :
    (k.reclamp u).lastSent = (k.reclamp u).drive := by
  unfold Backlight.reclamp
  dsimp only
  split
  · exact sent_redrive u _ hu
  · exact h

theorem sent_tickStages (u : Bool) (e : Option Nat) (th : Int) (k : Backlight) (hu : u = false)
    (h : k.lastSent = k.drive) :
    (k.tickStages u e th).lastSent = (k.tickStages u e th).drive := by
  unfold Backlight.tickStages
  dsimp only
  split
  · split
    · exact sent_redrive u _ hu
    · exact h
  · exact h

theorem sent_ownWrite (u b : Bool) (k : Backlight) (hu : u = false) (h : k.lastSent = k.drive) :
    (k.ownWrite u b).lastSent = (k.ownWrite u b).drive := by
  unfold Backlight.ownWrite
  dsimp only
  split
  · exact sent_redrive u _ hu
  · exact sent_reclamp u k hu h

theorem wordSent_allowPower {s : State} (h : WordSent s) : WordSent s.allowPower := by
  unfold State.allowPower
  dsimp only
  split
  · exact h
  · exact fun hu => sent_reclamp (undriven s) _ hu (h hu)

theorem pinsSound_setLastSupply (f : LockReasons → LockReasons) (s : State) :
    PinsSound (s.setLastSupply f) :=
  pinsSound_syncPins _

theorem outputs_reevaluate (ev : SupplyEvent) {s : State} (h : WordSent s) :
    PinsSound (s.reevaluate ev) ∧ WordSent (s.reevaluate ev) := by
  refine ⟨pinsSound_congr ?_ ?_ ?_ (pinsSound_setLastSupply id
    ((s.supplyTransition ev).selectDischarge.selectCharge)),
    wordSent_allowPower (wordSent_congr (by simp) (by simp) h)⟩ <;> simp [State.reevaluate]

theorem outputs_closeEvent {s : State} (h : PinsSound s ∧ WordSent s) :
    PinsSound s.closeEvent ∧ WordSent s.closeEvent :=
  kept_outputs.closeEvent_of (fun h => h) (fun ev h => outputs_reevaluate ev h.2) h

/-- After a write of stimulus the outputs stand at their computed levels where they are driven
(R168). -/
theorem outputs_setStimulus (s : State) (u : Streams) :
    PinsSound (s.setStimulus u) ∧ WordSent (s.setStimulus u) := by
  have e (t : State) : PinsSound (t.syncPins.onBack (Backlight.send (undriven t))) ∧
      WordSent (t.syncPins.onBack (Backlight.send (undriven t))) :=
    ⟨pinsSound_congr rfl rfl rfl (pinsSound_syncPins t), fun hu =>
      sent_send _ _ (by simpa [undriven] using hu)⟩
  exact e _

/-- A stream control says nothing of stimulus (R161). -/
theorem writeStream_stimulus (s : State) (st : StreamId) (e : Bool) (d : Nat) :
    (s.writeStream st e d).streams.stimulusOn = s.streams.stimulusOn ∧
    (s.writeStream st e d).streams.sources = s.streams.sources ∧
    (s.writeStream st e d).streams.drives = s.streams.drives := by
  cases st <;> simp only [State.writeStream] <;> and_intros <;> split <;> rfl

theorem undriven_writeStream (s : State) (st : StreamId) (e : Bool) (d : Nat) :
    undriven (s.writeStream st e d) = undriven s := by
  obtain ⟨h1, _, h3⟩ := writeStream_stimulus s st e d
  simp only [undriven, h1, h3]

theorem outputs_put (x : Setting) (bs : List Byte) {s : State} (h : PinsSound s ∧ WordSent s) :
    PinsSound (x.put bs s) ∧ WordSent (x.put bs s) := by
  cases x
  case lockoutLimit i =>
    exact kept_outputs.lockoutLimitWritten (s := s.onPolicy fun p =>
      { p with lockoutLimit := p.lockoutLimit.set i (min 15 (leNat bs)) }) i h
  case stream st =>
    have e := undriven_writeStream s st (byteAt bs 0 != 0) (byteAt bs 1)
    exact ⟨fun hu => by simpa [Setting.put, State.bay] using h.1 (e ▸ hu),
      fun hu => by simpa [Setting.put] using h.2 (e ▸ hu)⟩
  case stimulus => exact outputs_setStimulus s _
  all_goals exact h

theorem outputs_afterPuts (xs : List Setting) {s : State} (h : PinsSound s ∧ WordSent s) :
    PinsSound (s.afterPuts xs) ∧ WordSent (s.afterPuts xs) := by
  have own {s : State} (u b : Bool) (hu : u = undriven s) (h : PinsSound s ∧ WordSent s) :
      PinsSound (s.onBack (Backlight.ownWrite u b)) ∧ WordSent (s.onBack (Backlight.ownWrite u b)) :=
    ⟨h.1, fun hv => sent_ownWrite u b _ (hu.trans hv) (h.2 hv)⟩
  have hf := outputs_closeEvent (s := (s.onBack (Backlight.ownWrite (undriven s)
    (xs.contains .lMax))).owe .other) (own _ _ rfl h)
  have hs := own (undriven s) (xs.contains .lMax) (by simp [undriven])
    (outputs_closeEvent (s := s.owe .other) h)
  unfold State.afterPuts State.panelWritten
  dsimp only
  (repeat' split)
  · exact hf
  · exact hf
  · exact hs
  · exact h

theorem quiet_modeChanged (p : Policy) (o m : PartMode) (y : Bay) :
    Bay.Quiet y (y.modeChanged p o m) := by
  constructor
  case ident =>
    unfold Bay.modeChanged
    dsimp only
    (repeat' split) <;> exact id
  all_goals simp

theorem sent_backMode (o m : PartMode) {s : State} (h : WordSent s) : WordSent (s.backMode o m) := by
  unfold State.backMode
  (repeat' split)
  · exact h
  · exact fun hu => sent_send _ _ hu
  · exact h

theorem outputs_setMode (m : PartMode) {s : State} (h : PinsSound s ∧ WordSent s) :
    PinsSound (s.setMode m) ∧ WordSent (s.setMode m) := by
  unfold State.setMode
  dsimp only
  split
  · exact h
  · have h2 := kept_outputs.bay .b (Bay.modeChanged s.policy s.ctl.mode m)
      (quiet_modeChanged _ _ _ _) (kept_outputs.bay (s := s.onCtl (ModeCtl.enter m)) .a
        (Bay.modeChanged s.policy s.ctl.mode m) (quiet_modeChanged _ _ _ _) h)
    have h3 := sent_backMode s.ctl.mode m (s := ((((s.onCtl (ModeCtl.enter m)).onBay .a
      (Bay.modeChanged s.policy s.ctl.mode m)).onBay .b
      (Bay.modeChanged s.policy s.ctl.mode m)).lightMode)) h2.2
    have hm : PinsSound (((((s.onCtl (ModeCtl.enter m)).onBay .a
        (Bay.modeChanged s.policy s.ctl.mode m)).onBay .b
        (Bay.modeChanged s.policy s.ctl.mode m)).lightMode.backMode s.ctl.mode m)) :=
      pinsSound_congr (by simp) (by simp) (by simp) h2.1
    split
    · exact ⟨hm, h3⟩
    · exact ⟨hm, h3⟩

theorem stepKept_outputs : StepKept fun s => PinsSound s ∧ WordSent s where
  toKept := kept_outputs
  pending _ h := h
  closeEvent h := outputs_closeEvent h
  ctl _ _ _ h := h
  motion _ _ h := h
  returnToCalm h := kept_outputs.returnToCalm_of (fun h => h) (fun h => h) h
  light _ _ h := h
  streams {s} f h1 _ h3 h := by
    have e : undriven (s.onStreams f) = undriven s := by simp [undriven, h1, h3]
    exact ⟨fun hu => h.1 (e ▸ hu), fun hu => h.2 (e ▸ hu)⟩
  brightness e th _ h := ⟨h.1, fun hu => sent_tickStages _ e th _ hu (h.2 hu)⟩
  panelOn h := h
  panelOff {s} h := by
    unfold State.backlightOff
    split
    · exact ⟨h.1, fun hu => sent_send _ _ hu⟩
    · exact h
  applyCurve {s} h := by
    unfold State.applyCurve
    split <;> exact h
  forget h := h
  clearSuspect {s} i h := by
    have h1 : PinsSound (s.onRecord i fun r => { r with suspect := false }) :=
      pinsSound_onBay rfl rfl h.1
    unfold State.clearSuspect
    dsimp only [done]
    split <;> exact ⟨h1, h.2⟩
  setMode m h := outputs_setMode m h
  setStimulus u _ := outputs_setStimulus _ u
  takeFields sp c xs h := takeFields_of (P := fun s => PinsSound s ∧ WordSent s)
    (W := fun _ s => PinsSound s ∧ WordSent s) (fun _ _ h => h)
    (fun _ x bs _ h => outputs_put x bs h) (fun xs _ h => outputs_afterPuts xs h) sp c xs h
  supply _ _ _ h := h
  filters _ _ h := h
  confirmRose i h := ⟨pinsSound_syncPins _, wordSent_congr (by simp) (by simp) h.2⟩
  confirmFell i h := ⟨pinsSound_syncPins _, wordSent_congr (by simp) (by simp) h.2⟩
  engageLimit i _ h := ⟨pinsSound_syncPins _, wordSent_congr (by simp) (by simp) h.2⟩
  releaseLimit i _ h := ⟨pinsSound_syncPins _, wordSent_congr (by simp) (by simp) h.2⟩
  tick {s} h := ⟨fun hu => ⟨(h.1 hu).1, fun i => by
    cases i
    · exact (h.1 hu).2 .a
    · exact (h.1 hu).2 .b⟩, h.2⟩
  placed {s} _ := by
    have left {s : State} (i : BayId) (o : BayState) (h : PinsSound s) :
        PinsSound (s.leftReleasing i o) := by
      unfold State.leftReleasing
      split
      · exact pinsSound_syncPins _
      · exact h
    have h1 : PinsSound s.fullResetBlocks.fullResetSupply := by
      refine pinsSound_congr ?_ ?_ ?_ (pinsSound_setLastSupply (fun _ => .empty)
        s.fullResetBlocks.selectDischarge.selectCharge) <;> simp [State.fullResetSupply]
    exact ⟨left .b _ (left .a _ h1), fun _ => sent_redrive false _ rfl⟩
  atPowerOn s _ := ⟨fun _ => ⟨rfl, fun i => by cases i <;> rfl⟩, fun _ => rfl⟩

/-- Settles O7: each operation that moves a computed output sends it in the same event. -/
theorem stepKeepsOutputsSound : Obligations.StepKeepsOutputsSound := by
  unfold Obligations.StepKeepsOutputsSound
  intro s t h hs
  rw [outputsSound_iff] at h ⊢
  exact stepKept_outputs.step_keeps h hs

end Sys2Proof.Proofs
end

section
/-!
PROOFS. The panel (R86, R116 to R119): the ceiling and the clamp are computed again wherever one of
their inputs changes, in the same event.
-/

namespace Sys2Proof.Proofs
open Sys2Proof.Machine

/-! ### The blocks that the bays, the log and the link leave alone -/

/-- `t` has the policy, the supply controller, the light unit, the panel, the motion unit, the streams,
the drop action table and the part mode of `s`, and WAKE as it was in ACTIVE. -/
structure BlocksKept (s t : State) : Prop where
  policy  : t.policy = s.policy
  supply  : t.supply = s.supply
  light   : t.light = s.light
  back    : t.back = s.back
  motion  : t.motion = s.motion
  streams : t.streams = s.streams
  table   : t.drop.table = s.drop.table
  mode    : t.ctl.mode = s.ctl.mode
  wake    : s.ctl.mode = .active → t.ctl.wake = s.ctl.wake

/-- A wake event changes WAKE outside ACTIVE alone (R174, R175). -/
theorem wakeEvent_blocksKept (s : State) (k : WakeKind) : BlocksKept s (s.wakeEvent k) := by
  constructor
  case wake =>
    intro hm
    simp [State.wakeEvent, ModeCtl.wakeEvent, hm]
  case mode =>
    simp only [State.wakeEvent, ModeCtl.wakeEvent, State.onCtl_ctl]
    split <;> rfl
  all_goals simp

theorem syncPins_table (s : State) : s.syncPins.drop.table = s.drop.table := by
  unfold State.syncPins
  split <;> rfl

theorem moveBay_table (s : State) (i : BayId) (n : BayState) :
    (s.moveBay i n).drop.table = s.drop.table := by
  unfold State.moveBay
  dsimp only
  split <;> simp [syncPins_table]

theorem moveBay_blocksKept (s : State) (i : BayId) (n : BayState) :
    BlocksKept s (s.moveBay i n) := by
  constructor <;> simp [moveBay_table]

/-- What reads none of the bays, the log, the link and the flags is kept by their updates. -/
theorem Kept.of_blocks {P : State → Prop} (h : ∀ {s t}, BlocksKept s t → P s → P t) : Kept P where
  link _ := h (by constructor <;> simp)
  flags _ := h (by constructor <;> simp)
  lines _ := h (by constructor <;> simp)
  choice := h (by constructor <;> simp)
  holdMask _ := h (by constructor <;> simp)
  wake k := h (wakeEvent_blocksKept _ k)
  owe _ := h (by constructor <;> simp)
  pins := h (by constructor <;> simp [syncPins_table])
  reasons _ _ _ := h (by constructor <;> simp [State.setReasons, syncPins_table])
  bay _ _ _ := h (by constructor <;> simp)
  move i n _ _ _ := h (moveBay_blocksKept _ i n)
  seat i _ := h (moveBay_blocksKept _ i _)
  vacate i _ := h (by constructor <;> simp [moveBay_table])
  clear _ _ := h (by constructor <;> simp)
  identify i := h (by constructor <;> simp [State.enterIdentifying, moveBay_table])
  writeRecord _ _ _ _ := h (by constructor <;> simp)
  identity _ _ _ := h (by constructor <;> simp)
  suspect := h (by constructor <;> simp)
  drop _ hq _ := h (by constructor <;> simp [hq.table])
  park _ hq := h (by constructor <;> simp [syncPins_table, hq.table])
  join _ _ := h (by constructor <;> simp [DropLog.joined])

/-- What `P` asks of the blocks beside the bays, the log and the link, to be kept by every step. -/
structure BlockSteps (P : State → Prop) : Prop where
  blocks       : ∀ {s t}, BlocksKept s t → P s → P t
  reevaluate   : ∀ {s} ev, P s → P (s.reevaluate ev)
  ctl          : ∀ {s} f, (f s.ctl).mode = s.ctl.mode →
    ((f s.ctl).wake = true → s.ctl.wake = true) → P s → P (s.onCtl f)
  motion       : ∀ {s} f, Motion.Quiet s.motion (f s.motion) → P s → P (s.onMotion f)
  returnToCalm : ∀ {s}, P s → P s.returnToCalm
  light        : ∀ {s} f, Light.Quiet s.light (f s.light) → P s → P (s.onLight f)
  streams      : ∀ {s} f, (f s.streams).stimulusOn = s.streams.stimulusOn →
    (f s.streams).sources = s.streams.sources → (f s.streams).drives = s.streams.drives →
    P s → P (s.onStreams f)
  brightness   : ∀ {s} e th, s.back.tick.isSome = true → P s →
    P (s.onBack (Backlight.tickStages (undriven s) e th))
  panelOn      : ∀ {s}, P s → P s.backlightOn.1
  panelOff     : ∀ {s}, P s → P s.backlightOff.1
  applyCurve   : ∀ {s}, P s → P s.applyCurve.1
  setMode      : ∀ {s} m, P s → P (s.setMode m)
  setStimulus  : ∀ {s} u, P s → P (s.setStimulus u)
  takeFields   : ∀ {s} sp c xs, P s → P (s.takeFields sp c xs).1
  supply       : ∀ {s} f e, Supply.Quiet s.supply (f s.supply) → P s → P ((s.onSupply f).owe e)
  filters      : ∀ {s} (p c : Supply → Option Timer), P s →
    P (s.onSupply fun u => { u with presenceFilter := p u, codeFilter := c u })
  tick         : ∀ {s}, P s → P s.tick
  placed       : ∀ {s}, P s → P (fullResetPlaced s)
  atPowerOn    : ∀ s : State, P s →
    P { State.atPowerOn s.lines s.store with pending := s.pending, choice := s.choice }

theorem onBay_syncPins_blocksKept (s : State) (i : BayId) (f : Bay → Bay) :
    BlocksKept s (s.onBay i f).syncPins := by
  constructor <;> simp [syncPins_table]

theorem BlockSteps.kept {P : State → Prop} (B : BlockSteps P) : Kept P := .of_blocks B.blocks

theorem BlockSteps.stepKept {P : State → Prop} (B : BlockSteps P) : StepKept P where
  toKept := B.kept
  pending _ := B.blocks (by constructor <;> simp [State.withPending])
  closeEvent := B.kept.closeEvent_of (B.blocks (by constructor <;> simp)) B.reevaluate
  ctl := B.ctl
  motion := B.motion
  returnToCalm := B.returnToCalm
  light := B.light
  streams := B.streams
  brightness := B.brightness
  panelOn := B.panelOn
  panelOff := B.panelOff
  applyCurve := B.applyCurve
  forget := B.blocks (by constructor <;> simp)
  clearSuspect {s} i := B.blocks (by
    have e : BlocksKept s (s.onRecord i fun r => { r with suspect := false }) := by
      constructor <;> simp
    unfold State.clearSuspect
    dsimp only [done]
    split
    · exact ⟨e.1, e.2, e.3, e.4, e.5, e.6, e.7, e.8, e.9⟩
    · exact e)
  setMode := B.setMode
  setStimulus := B.setStimulus
  takeFields := B.takeFields
  supply := B.supply
  filters := B.filters
  confirmRose i := B.blocks (onBay_syncPins_blocksKept _ i _)
  confirmFell i := B.blocks (onBay_syncPins_blocksKept _ i _)
  engageLimit i _ := B.blocks (onBay_syncPins_blocksKept _ i _)
  releaseLimit i _ := B.blocks (onBay_syncPins_blocksKept _ i _)
  tick := B.tick
  placed := B.placed
  atPowerOn := B.atPowerOn

/-! ### The panel's computations -/

/-- L_pow is that of the values held, L_out within it, and D that of L_out (R116, R117, R119). -/
def Backlight.Clamped (k : Backlight) : Prop :=
  k.lpow = powerCeiling k.lMax k.q k.pbl ∧ k.lout ≤ k.lpow ∧ k.drive = driveWord k.lMax k.lout

theorem send_panel (u : Bool) (k : Backlight) :
    (k.send u).lMax = k.lMax ∧ (k.send u).q = k.q ∧ (k.send u).pbl = k.pbl ∧
    (k.send u).lpow = k.lpow ∧ (k.send u).lout = k.lout ∧ (k.send u).drive = k.drive := by
  unfold Backlight.send
  split <;> simp

theorem clamped_send (u : Bool) {k : Backlight} (h : Backlight.Clamped k) :
    Backlight.Clamped (k.send u) := by
  obtain ⟨h1, h2, h3, h4, h5, h6⟩ := send_panel u k
  simpa only [Backlight.Clamped, h1, h2, h3, h4, h5, h6] using h

theorem clamped_redrive (u : Bool) {k : Backlight} (hc : k.lpow = powerCeiling k.lMax k.q k.pbl)
    (hw : k.lout ≤ k.lpow) : Backlight.Clamped (k.redrive u) :=
  clamped_send u ⟨hc, hw, rfl⟩

/-- The new ceiling and the clamp, where D was that of L_out. -/
theorem clamped_reclamp (u : Bool) {k : Backlight} (hd : k.drive = driveWord k.lMax k.lout) :
    Backlight.Clamped (k.reclamp u) := by
  unfold Backlight.reclamp
  dsimp only
  split
  · exact clamped_redrive u rfl (le_refl _)
  next hl => exact ⟨rfl, Nat.le_of_not_lt hl, hd⟩

theorem reclamp_panel (u : Bool) (k : Backlight) :
    (k.reclamp u).lMax = k.lMax ∧ (k.reclamp u).q = k.q ∧ (k.reclamp u).pbl = k.pbl ∧
    (k.reclamp u).lpow = powerCeiling k.lMax k.q k.pbl ∧
    (k.reclamp u).lout ≤ powerCeiling k.lMax k.q k.pbl := by
  unfold Backlight.reclamp
  dsimp only
  split
  · obtain ⟨h1, h2, h3, h4, h5, -⟩ := send_panel u { k with
      lpow := powerCeiling k.lMax k.q k.pbl, lout := powerCeiling k.lMax k.q k.pbl,
      drive := driveWord k.lMax (powerCeiling k.lMax k.q k.pbl) }
    exact ⟨h1, h2, h3, h4, le_of_eq h5⟩
  next hl => exact ⟨rfl, rfl, rfl, rfl, Nat.le_of_not_lt hl⟩

/-- The panel's own computation after a write leaves it clamped: D was right, or L_max was written and
stage 9 follows (R116, R119). -/
theorem clamped_ownWrite (u b : Bool) {k : Backlight}
    (hd : b = false → k.drive = driveWord k.lMax k.lout) : Backlight.Clamped (k.ownWrite u b) := by
  unfold Backlight.ownWrite
  dsimp only
  split
  · obtain ⟨h1, h2, h3, h4, h5⟩ := reclamp_panel u k
    exact clamped_redrive u (by rw [h1, h2, h3, h4]) (by rw [h4]; exact h5)
  next hb => exact clamped_reclamp u (hd (by simpa using hb))

theorem slew_le {rUp rDn target lout c : Nat} (ht : target ≤ c) (hl : lout ≤ c) :
    slew rUp rDn target lout ≤ c := by
  unfold slew
  split <;> omega

theorem clamped_tickStages (u : Bool) (e : Option Nat) (th : Int) {k : Backlight}
    (h : Backlight.Clamped k) : Backlight.Clamped (k.tickStages u e th) := by
  unfold Backlight.tickStages
  dsimp only
  split
  · split
    · exact clamped_redrive u rfl (slew_le (Nat.min_le_right _ _) (Nat.min_le_right _ _))
    · exact h
  · exact h

/-- A dark panel is clamped under any ceiling that is its own (R120, R121). -/
theorem clamped_dark (u : Bool) {k : Backlight} (hc : k.lpow = powerCeiling k.lMax k.q k.pbl) :
    Backlight.Clamped (k.dark u) :=
  clamped_send u ⟨hc, Nat.zero_le _, by simp [driveWord]⟩

end Sys2Proof.Proofs
end

section
/-!
PROOFS. The panel and the allowance through every step (R86, R116, R117, R119).
-/

namespace Sys2Proof.Proofs
open Sys2Proof.Machine

/-- The allowance handed is the one computed, and 0 where the supply state gives none (R86). -/
def AllowanceSound (s : State) : Prop :=
  s.back.pbl = s.supply.pbl ∧
    (s.supply.state = .standby ∨ s.supply.state = .starting ∨ s.supply.state = .save →
      s.supply.pbl = 0)

/-- The panel while a WRITE's settings take their values: with `l` L_max may be written, and with `q`
Q, and what depends on them waits for the panel's own computation (R116). -/
structure PanelHeld (l q : Bool) (s : State) : Prop where
  allowance : AllowanceSound s
  drive     : l = false → s.back.drive = driveWord s.back.lMax s.back.lout
  clamped   : l = false → q = false → Backlight.Clamped s.back

theorem panelHeld_iff (s : State) : PanelHeld false false s ↔ s.PanelSound := by
  constructor
  · intro h
    obtain ⟨hc, hw, hd⟩ := h.clamped rfl rfl
    exact ⟨hc, hw, hd, h.allowance.1, h.allowance.2⟩
  · exact fun h => ⟨⟨h.handed, h.dark⟩, fun _ => h.drive, fun _ _ => ⟨h.ceiling, h.within, h.drive⟩⟩

section
variable {l q : Bool} {s t : State}

/-- A clamped panel and a sound allowance are sound whatever is written. -/
theorem panelHeld_of_clamped (ha : AllowanceSound s) (hc : Backlight.Clamped s.back) :
    PanelHeld l q s := ⟨ha, fun _ => hc.2.2, fun _ _ => hc⟩

theorem panelHeld_congr (h : PanelHeld l q s) (hb : t.back = s.back := by rfl)
    (hu : t.supply = s.supply := by rfl) : PanelHeld l q t := by
  obtain ⟨h1, h2, h3⟩ := h
  exact ⟨by simpa only [AllowanceSound, hb, hu] using h1, by simpa only [hb] using h2,
    by simpa only [hb] using h3⟩

/-- A change of the panel that keeps its allowance and clamps it where it was clamped. -/
theorem panelHeld_onBack {f : Backlight → Backlight} (hp : (f s.back).pbl = s.back.pbl)
    (hd : l = false → (f s.back).drive = driveWord (f s.back).lMax (f s.back).lout)
    (hc : Backlight.Clamped s.back → Backlight.Clamped (f s.back)) (h : PanelHeld l q s) :
    PanelHeld l q (s.onBack f) :=
  ⟨⟨hp.trans h.allowance.1, h.allowance.2⟩, hd, fun hl hq => hc (h.clamped hl hq)⟩

/-- Where the supply state gives no power P_bl is 0 (R85, R86). -/
theorem allowance_dark (s : State)
    (h : s.supply.state = .standby ∨ s.supply.state = .starting ∨ s.supply.state = .save)
    (r lMax q : Nat) : powerAllowance (availablePower s) r lMax q = 0 := by
  have h0 : availablePower s = 0 := by
    unfold availablePower
    split <;> simp_all
  simp [powerAllowance, h0]

/-- The re-evaluation hands the allowance, and the panel is clamped again (R86, R116, R117). -/
theorem panelHeld_allowPower (hd : l = false → s.back.drive = driveWord s.back.lMax s.back.lout)
    (hc : l = false → q = false → Backlight.Clamped s.back) : PanelHeld l q s.allowPower := by
  unfold State.allowPower
  dsimp only
  split
  next he => exact ⟨⟨he.symm, fun h => allowance_dark s h _ _ _⟩, hd, hc⟩
  next he =>
    obtain ⟨-, -, h3, -, -⟩ := reclamp_panel (undriven s) { s.back with
      pbl := powerAllowance (availablePower s) s.supply.reserve s.back.lMax s.back.q }
    have hr : l = false → Backlight.Clamped (Backlight.handPbl (undriven s)
        (powerAllowance (availablePower s) s.supply.reserve s.back.lMax s.back.q) s.back) :=
      fun hl => clamped_reclamp _ (hd hl)
    exact ⟨⟨h3, fun h => allowance_dark s h _ _ _⟩, fun hl => (hr hl).2.2, fun hl _ => hr hl⟩

theorem panelHeld_reevaluate (ev : SupplyEvent) (h : PanelHeld l q s) :
    PanelHeld l q (s.reevaluate ev) := by
  have e : ((((s.supplyTransition ev).selectDischarge).selectCharge).setLastSupply id).back =
      s.back := by simp
  exact panelHeld_allowPower (by simpa only [e] using h.drive) (by simpa only [e] using h.clamped)

theorem kept_panelHeld (l q : Bool) : Kept (PanelHeld l q) :=
  .of_blocks fun b h => panelHeld_congr h b.back b.supply

theorem panelHeld_closeEvent (h : PanelHeld l q s) : PanelHeld l q s.closeEvent :=
  (kept_panelHeld l q).closeEvent_of panelHeld_congr panelHeld_reevaluate h

theorem panelHeld_ownWrite (u : Bool) (h : PanelHeld l q s) :
    PanelHeld false false (s.onBack (Backlight.ownWrite u l)) := by
  have hc := clamped_ownWrite u l (k := s.back) fun hl => h.drive hl
  refine panelHeld_of_clamped ⟨?_, h.allowance.2⟩ hc
  have hp : (Backlight.ownWrite u l s.back).pbl = s.back.pbl := by
    obtain ⟨-, -, h3, -, -⟩ := reclamp_panel u s.back
    unfold Backlight.ownWrite
    dsimp only
    split
    · exact (send_panel u _).2.2.1.trans h3
    · exact h3
  exact hp.trans h.allowance.1

/-- A write of L_max or Q: the panel's own computation, before or after the supply controller's
(R116; log 13). -/
theorem panelHeld_panelWritten (h : PanelHeld l q s) : PanelHeld false false (s.panelWritten l) := by
  have first : PanelHeld false false
      (((s.onBack (Backlight.ownWrite (undriven s) l)).owe .other).closeEvent) :=
    panelHeld_closeEvent (panelHeld_congr (panelHeld_ownWrite (undriven s) h))
  have second : PanelHeld false false
      (((s.owe .other).closeEvent).onBack (Backlight.ownWrite (undriven s) l)) :=
    panelHeld_ownWrite _ (panelHeld_closeEvent (panelHeld_congr h))
  unfold State.panelWritten
  dsimp only
  (repeat' split)
  · exact first
  · exact panelHeld_congr first
  · exact panelHeld_congr second

theorem panelHeld_setStimulus (u : Streams) (h : PanelHeld l q s) :
    PanelHeld l q (s.setStimulus u) := by
  have send {s : State} (b : Bool) (h : PanelHeld l q s) :
      PanelHeld l q (s.onBack (Backlight.send b)) := by
    obtain ⟨h1, -, h3, -, h5, h6⟩ := send_panel b s.back
    exact panelHeld_onBack h3 (fun hl => by rw [h1, h5, h6]; exact h.drive hl) (clamped_send b) h
  unfold State.setStimulus
  refine send _ (panelHeld_congr h ?_ ?_) <;>
  · simp only [State.syncPins_frame]
    split <;> rfl

theorem contains_append_ne {xs : List Setting} {x y : Setting} (h : x ≠ y) :
    (xs ++ [x]).contains y = xs.contains y := by
  simp [h.symm]

/-- A setting other than L_max and Q leaves the panel and the allowance, and the lockout limit and
stimulus leave what depends on L_max and Q. -/
theorem panelHeld_put_other {x : Setting} (hl : x ≠ .lMax) (hq : x ≠ .q) (bs : List Byte) {b c : Bool}
    (h : PanelHeld b c s) : PanelHeld b c (x.put bs s) := by
  cases x
  case lMax => contradiction
  case q => contradiction
  case lockoutLimit i =>
    exact (kept_panelHeld b c).lockoutLimitWritten i (panelHeld_congr h)
  case stream st => exact panelHeld_congr h (by simp [Setting.put]) (by simp [Setting.put])
  case stimulus => exact panelHeld_setStimulus _ h
  all_goals exact ⟨h.allowance, h.drive, h.clamped⟩

/-- A written setting keeps what does not wait for the panel's computation. -/
theorem panelHeld_put (xs : List Setting) (x : Setting) (bs : List Byte)
    (h : PanelHeld (xs.contains .lMax) (xs.contains .q) s) :
    PanelHeld ((xs ++ [x]).contains .lMax) ((xs ++ [x]).contains .q) (x.put bs s) := by
  by_cases hl : x = .lMax
  · subst hl
    exact ⟨h.allowance, by simp, by simp⟩
  by_cases hq : x = .q
  · subst hq
    rw [contains_append_ne hl]
    exact ⟨h.allowance, h.drive, by simp⟩
  rw [contains_append_ne hl, contains_append_ne hq]
  exact panelHeld_put_other hl hq bs h

theorem panelHeld_afterPuts (xs : List Setting)
    (h : PanelHeld (xs.contains .lMax) (xs.contains .q) s) :
    PanelHeld false false (s.afterPuts xs) := by
  unfold State.afterPuts
  split
  · exact panelHeld_panelWritten h
  next hx =>
    obtain ⟨h1, h2⟩ : xs.contains .lMax = false ∧ xs.contains .q = false := by simpa using hx
    rwa [h1, h2] at h

theorem panelHeld_setMode (m : PartMode) (h : PanelHeld false false s) :
    PanelHeld false false (s.setMode m) := by
  have hl {s : State} (u : Bool) (h : PanelHeld false false s) :
      PanelHeld false false (s.onBack (Backlight.leaveActive u)) := by
    have hc := clamped_dark u (k := { s.back with tick := none, filtered := none, stages := none })
      (h.clamped rfl rfl).1
    refine panelHeld_onBack ?_ (fun _ => hc.2.2) (fun _ => hc) h
    exact (send_panel u _).2.2.1
  have hb {s : State} (o : PartMode) (h : PanelHeld false false s) :
      PanelHeld false false (s.backMode o m) := by
    unfold State.backMode
    (repeat' split)
    · exact ⟨h.allowance, h.drive, h.clamped⟩
    · exact hl _ h
    · exact h
  unfold State.setMode
  dsimp only
  split
  · exact h
  · have h1 := hb s.ctl.mode (s := (((s.onCtl (ModeCtl.enter m)).onBay .a
      (Bay.modeChanged s.policy s.ctl.mode m)).onBay .b
      (Bay.modeChanged s.policy s.ctl.mode m)).lightMode) (panelHeld_congr h (by simp) (by simp))
    split <;> exact panelHeld_congr h1 (by simp) (by simp)

theorem panelHeld_fullResetPlaced (s : State) : PanelHeld false false (fullResetPlaced s) := by
  have h1 : PanelHeld true true s.fullResetBlocks.fullResetSupply :=
    panelHeld_allowPower (by simp) (by simp)
  have left {s : State} (i : BayId) (o : BayState) (h : PanelHeld true true s) :
      PanelHeld true true (s.leftReleasing i o) := by
    unfold State.leftReleasing
    split
    · exact panelHeld_congr h (by simp) (by simp)
    · exact h
  exact panelHeld_ownWrite false (left .b _ (left .a _ h1))

theorem clamped_fresh : Backlight.Clamped Backlight.fresh := ⟨rfl, by decide, rfl⟩

theorem blockSteps_panel : BlockSteps (PanelHeld false false) where
  blocks b h := panelHeld_congr h b.back b.supply
  reevaluate ev h := panelHeld_reevaluate ev h
  ctl _ _ _ h := panelHeld_congr h
  motion _ _ h := panelHeld_congr h
  returnToCalm h := (kept_panelHeld _ _).returnToCalm_of panelHeld_congr
    panelHeld_congr h
  light _ _ h := panelHeld_congr h
  streams _ _ _ _ h := panelHeld_congr h
  brightness {s} e th _ h := by
    have hc := clamped_tickStages (undriven s) e th (h.clamped rfl rfl)
    refine panelHeld_onBack ?_ (fun _ => hc.2.2) (fun _ => hc) h
    unfold Backlight.tickStages
    dsimp only
    split
    · split
      · exact (send_panel _ _).2.2.1
      · rfl
    · rfl
  panelOn h := ⟨h.allowance, h.drive, h.clamped⟩
  panelOff {s} h := by
    unfold State.backlightOff
    split
    · have hc := clamped_dark (undriven s) (k := { s.back with on := false }) (h.clamped rfl rfl).1
      exact panelHeld_onBack (f := fun k => Backlight.dark (undriven s) { k with on := false })
        (send_panel _ _).2.2.1 (fun _ => hc.2.2) (fun _ => hc) h
    · exact h
  applyCurve h := by
    unfold State.applyCurve
    split
    · exact ⟨h.allowance, h.drive, h.clamped⟩
    · exact h
  setMode m h := panelHeld_setMode m h
  setStimulus u h := panelHeld_setStimulus u h
  takeFields sp c xs h := takeFields_of (P := PanelHeld false false)
    (W := fun xs => PanelHeld (xs.contains .lMax) (xs.contains .q))
    (fun _ _ h => by simpa using panelHeld_congr h)
    (fun xs x bs _ h => panelHeld_put xs x bs h) (fun xs _ h => panelHeld_afterPuts xs h) sp c xs h
  supply f e hf h := by
    refine ⟨⟨h.allowance.1.trans hf.pbl.symm, fun hs => ?_⟩, h.drive, h.clamped⟩
    exact hf.pbl.trans (h.allowance.2 (hf.state ▸ hs))
  filters _ _ h := ⟨h.allowance, h.drive, h.clamped⟩
  tick h := ⟨h.allowance, h.drive, h.clamped⟩
  placed _ := panelHeld_fullResetPlaced _
  atPowerOn s _ := ⟨⟨rfl, fun _ => rfl⟩, fun _ => clamped_fresh.2.2, fun _ _ => clamped_fresh⟩

end

/-- Settles O6: the ceiling, the clamp and D are computed again wherever an input of theirs changes;
while a WRITE is taken, what waits for the panel's own computation is left unsaid. -/
theorem stepKeepsPanelSound : Obligations.StepKeepsPanelSound := by
  unfold Obligations.StepKeepsPanelSound
  intro s t h hs
  rw [← panelHeld_iff] at h ⊢
  exact blockSteps_panel.stepKept.step_keeps h hs

end Sys2Proof.Proofs
end

section
/-!
PROOFS. What the part mode fixes (R95, R96, R106, R110, R121, R130, R175), through every step. Inside
the guard's return a rate may still be pending with the guard CALM; the return's end applies it (R142).
-/

namespace Sys2Proof.Proofs
open Sys2Proof.Machine

/-- The panel as the mode has it (R110, R121). -/
def PanelMode (m : PartMode) (k : Backlight) : Prop :=
  k.tick.isSome = (m == .active) ∧
    (m ≠ .active → k.lout = 0 ∧ k.drive = 0 ∧ k.filtered = none ∧ k.stages = none)

/-- The rate called for by the mode is held or pending (R130). -/
def RateMode (m : PartMode) (a : Accelerometer) : Prop := a.pendingOdr.getD a.odr = modeOdr m

/-- What the part mode fixes at every moment of an event. -/
structure ModeFixed (s : State) : Prop where
  wake  : s.ctl.mode = .active → s.ctl.wake = false
  panel : PanelMode s.ctl.mode s.back
  front : s.light.front.ModeSound (s.ctl.mode == .active) (s.streams.replaces .front)
  rear  : s.light.rear.ModeSound (s.ctl.mode == .active) (s.streams.replaces .rear)
  rate  : RateMode s.ctl.mode s.motion.accel

/-- No rate is pending with the guard CALM (R142). -/
def RateTaken (u : Motion) : Prop := u.guard = .calm → u.accel.pendingOdr = none

theorem modeSound_iff (s : State) : s.ModeSound ↔ ModeFixed s ∧ RateTaken s.motion := by
  constructor
  · exact fun h => ⟨⟨h.wake, ⟨h.tick, h.dark⟩, h.front, h.rear, h.rate⟩, h.calm⟩
  · rintro ⟨⟨hw, ⟨ht, hd⟩, hf, hr, ho⟩, hc⟩
    exact ⟨hw, ht, hd, hf, hr, ho, hc⟩

/-! ### The panel -/

theorem panelMode_send (u : Bool) {m : PartMode} {k : Backlight} (h : PanelMode m k) :
    PanelMode m (k.send u) := by
  unfold Backlight.send
  split <;> exact h

theorem driveWord_zero (l : Nat) : driveWord l 0 = 0 := by simp [driveWord]

/-- D computed again is 0 where L_out is. -/
theorem panelMode_redrive (u : Bool) {m : PartMode} {k : Backlight} (h : PanelMode m k) :
    PanelMode m (k.redrive u) := by
  refine panelMode_send u ⟨h.1, fun hm => ?_⟩
  obtain ⟨hl, -, hf, hg⟩ := h.2 hm
  exact ⟨hl, by simp [hl, driveWord_zero], hf, hg⟩

theorem panelMode_reclamp (u : Bool) {m : PartMode} {k : Backlight} (h : PanelMode m k) :
    PanelMode m (k.reclamp u) := by
  unfold Backlight.reclamp
  dsimp only
  split
  next hl =>
    refine panelMode_redrive u ⟨h.1, fun hm => ?_⟩
    simp [(h.2 hm).1] at hl
  next => exact h

theorem panelMode_ownWrite (u b : Bool) {m : PartMode} {k : Backlight} (h : PanelMode m k) :
    PanelMode m (k.ownWrite u b) := by
  unfold Backlight.ownWrite
  dsimp only
  split
  · exact panelMode_redrive u (panelMode_reclamp u h)
  · exact panelMode_reclamp u h

theorem panelMode_dark (u : Bool) {m : PartMode} {k : Backlight} (h : PanelMode m k) :
    PanelMode m (k.dark u) :=
  panelMode_send u ⟨h.1, fun hm => ⟨rfl, rfl, (h.2 hm).2.2⟩⟩

/-- A tick runs in ACTIVE alone, and leaves its timer running (R110, R111). -/
theorem panelMode_tickStages (u : Bool) (e : Option Nat) (th : Int) {m : PartMode} {k : Backlight}
    (ht : k.tick.isSome = true) (h : PanelMode m k) : PanelMode m (k.tickStages u e th) := by
  have hm : (m == .active) = true := h.1.symm.trans ht
  have hd (k : Backlight) (hk : k.tick.isSome = true) : PanelMode m k :=
    ⟨hk.trans hm.symm, fun hn => absurd (by simpa using hm) hn⟩
  refine hd _ ?_
  unfold Backlight.tickStages
  dsimp only
  split
  · split
    · unfold Backlight.pipeline Backlight.redrive Backlight.send
      dsimp only
      split <;> rfl
    · rfl
  · rfl

/-! ### The sensors -/

/-- The evaluation of R95 makes a sensor what the mode fixes, whatever the mode and the enable setting
were. -/
theorem modeSound_evaluate {a b c : Bool} {r : Sensor} (h : r.ModeSound a c) (e : Bool) :
    (Sensor.evaluate b c { r with enable := e }).ModeSound b c := by
  obtain ⟨-, hc⟩ := h
  unfold Sensor.evaluate
  (repeat' split) <;> constructor <;>
    simp_all [Sensor.enabled, Sensor.disabled, Sensor.startConversion] <;> split <;> simp_all

theorem modeSound_replacementEnds {a b : Bool} {r : Sensor} (h : r.ModeSound a b) :
    r.replacementEnds.ModeSound a false := by
  obtain ⟨he, hc⟩ := h
  unfold Sensor.replacementEnds
  dsimp only
  split
  next ho => exact ⟨he, by simpa [ho] using hc⟩
  next ho =>
    have hk (c : LightCondition) (hc : c ≠ .off) : (c != .off) = (a && r.enable) := by
      rw [← he]
      rw [bne_iff_ne.mpr hc, bne_iff_ne.mpr ho]
    split
    · exact ⟨hk _ ho, by simp [Sensor.startConversion, ho]⟩
    · exact ⟨hk .starting (by decide), by simp [Sensor.startConversion]⟩

theorem modeSound_replacement {a b c : Bool} {r : Sensor} (h : r.ModeSound a b) :
    (r.replacement b c).ModeSound a c := by
  unfold Sensor.replacement
  split
  next hb => exact ⟨h.enabled, by simp_all [Sensor.replacementBegins]⟩
  next hn =>
    split
    next he =>
      obtain rfl : c = false := by simp_all
      exact modeSound_replacementEnds h
    next hs =>
      obtain rfl : b = c := by cases b <;> cases c <;> simp_all
      exact h

theorem modeSound_quiet {a b : Bool} {r q : Sensor} (hq : Sensor.Quiet r q)
    (h : r.ModeSound a b) : q.ModeSound a b := by
  obtain ⟨he, hc⟩ := h
  have ho : (q.condition != .off) = (r.condition != .off) := by
    obtain hi | ⟨h1, h2⟩ := hq.off
    · simp [bne, beq_eq_decide, hi]
    · rw [h1] at hc
      simp_all
  exact ⟨by rw [ho, hq.enable, he], by rw [ho, hq.conversion, hc]⟩

theorem modeSound_tick {a b : Bool} {r : Sensor} (h : r.ModeSound a b) : r.tick.ModeSound a b :=
  modeSound_quiet (by constructor <;> simp [Sensor.tick, tickOpt]) h

/-! ### The rate -/

/-- The pending rate is the one held after the return (R130, R142). -/
theorem rateMode_applyPending {m : PartMode} {u : Motion} (h : RateMode m u.accel) :
    RateMode m u.applyPending.accel ∧ RateTaken u.applyPending := by
  unfold Motion.applyPending
  split
  next o ho =>
    unfold Accelerometer.setRate
    dsimp only
    split <;> simp_all [RateMode, RateTaken, Accelerometer.start]
  next ho => exact ⟨h, fun _ => ho⟩

theorem rateMode_modeChanged {m : PartMode} {u : Motion} (ht : RateTaken u) :
    RateMode m (u.modeChanged m).accel ∧ RateTaken (u.modeChanged m) := by
  unfold Motion.modeChanged
  split
  next hg =>
    have hp := ht hg
    unfold Accelerometer.setRate
    split <;> simp_all [RateMode, RateTaken, Accelerometer.start]
  next hg => exact ⟨rfl, fun hc => absurd hc hg⟩

end Sys2Proof.Proofs
end

section
/-!
PROOFS. What the part mode fixes, through every command.
-/

namespace Sys2Proof.Proofs
open Sys2Proof.Machine

section
variable {s t : State}

theorem modeFixed_congr (h : ModeFixed s) (hm : t.ctl.mode = s.ctl.mode := by rfl)
    (hw : s.ctl.mode = .active → t.ctl.wake = s.ctl.wake := by exact fun _ => rfl)
    (hb : t.back = s.back := by rfl) (hl : t.light = s.light := by rfl)
    (hs : t.streams = s.streams := by rfl) (ha : t.motion.accel = s.motion.accel := by rfl) :
    ModeFixed t := by
  obtain ⟨h1, h2, h3, h4, h5⟩ := h
  exact ⟨fun h => (hw (hm ▸ h)).trans (h1 (hm ▸ h)), by rwa [hm, hb], by rwa [hm, hl, hs],
    by rwa [hm, hl, hs], by rwa [hm, ha]⟩

theorem modeFixed_blocks (b : BlocksKept s t) (h : ModeFixed s) : ModeFixed t :=
  modeFixed_congr h b.mode b.wake b.back b.light b.streams (by rw [b.motion])

theorem kept_modeFixed : Kept ModeFixed := .of_blocks modeFixed_blocks

/-- A change of the panel alone. -/
theorem modeFixed_onBack {f : Backlight → Backlight}
    (hf : PanelMode s.ctl.mode s.back → PanelMode s.ctl.mode (f s.back)) (h : ModeFixed s) :
    ModeFixed (s.onBack f) :=
  ⟨h.wake, hf h.panel, h.front, h.rear, h.rate⟩

/-! ### The end of an event -/

theorem panelMode_handPbl (u : Bool) (n : Nat) {m : PartMode} {k : Backlight} (h : PanelMode m k) :
    PanelMode m (k.handPbl u n) :=
  panelMode_reclamp u (k := { k with pbl := n }) h

theorem modeFixed_supplyTransition (ev : SupplyEvent) (h : ModeFixed s) :
    ModeFixed (s.supplyTransition ev) := by
  have sup {s : State} (f : Supply → Supply) (h : ModeFixed s) : ModeFixed (s.onSupply f) :=
    modeFixed_congr h
  have flag {s : State} (sp : Space) (f : Flag) (h : ModeFixed s) : ModeFixed (s.raise sp f) :=
    modeFixed_congr h
  have standby (c : StopCause) : ModeFixed (s.enterStandby c) := by
    unfold State.enterStandby
    dsimp only
    split
    · exact sup _ h
    · exact flag _ _ (sup _ h)
  have save : ModeFixed s.enterSave := modeFixed_blocks (wakeEvent_blocksKept _ _)
    (flag .supply .powerFail (sup _ h))
  unfold State.supplyTransition
  (repeat' split) <;> simp only [h, sup, flag, standby, save]

theorem modeFixed_allowPower (h : ModeFixed s) : ModeFixed s.allowPower := by
  unfold State.allowPower
  dsimp only
  split
  · exact modeFixed_congr h
  · exact modeFixed_onBack (s := s.onSupply _) (panelMode_handPbl _ _) (modeFixed_congr h)

theorem modeFixed_reevaluate (ev : SupplyEvent) (h : ModeFixed s) :
    ModeFixed (s.reevaluate ev) :=
  modeFixed_allowPower (modeFixed_congr (modeFixed_supplyTransition ev h) (by simp) (by simp)
    (by simp) (by simp) (by simp) (by simp))

theorem modeFixed_closeEvent (h : ModeFixed s) : ModeFixed s.closeEvent :=
  kept_modeFixed.closeEvent_of modeFixed_congr modeFixed_reevaluate h

/-! ### Writes -/

theorem modeFixed_setStimulus (u : Streams) (h : ModeFixed s) : ModeFixed (s.setStimulus u) := by
  have h1 : ModeFixed ((s.onStreams fun _ => u).onLight fun l =>
      { l with
        front := l.front.replacement (s.streams.replaces .front) (u.replaces .front),
        rear := l.rear.replacement (s.streams.replaces .rear) (u.replaces .rear) }) :=
    ⟨h.wake, h.panel, modeSound_replacement h.front, modeSound_replacement h.rear, h.rate⟩
  have h2 {s : State} (h : ModeFixed s) : ModeFixed s.accelReplacementEnds := by
    refine ⟨h.wake, h.panel, h.front, h.rear, ?_⟩
    exact h.rate
  unfold State.setStimulus
  refine modeFixed_onBack (panelMode_send _) (kept_modeFixed.pins ?_)
  split
  · exact h2 h1
  · exact h1

theorem modeFixed_writeEnable (i : SensorId) (on : Bool) (h : ModeFixed s) :
    ModeFixed (s.writeEnable i on) := by
  cases i
  · exact ⟨h.wake, h.panel, modeSound_evaluate h.front on, h.rear, h.rate⟩
  · exact ⟨h.wake, h.panel, h.front, modeSound_evaluate h.rear on, h.rate⟩

theorem modeFixed_onLight {f : Light → Light} (hf : Light.Quiet s.light (f s.light))
    (h : ModeFixed s) : ModeFixed (s.onLight f) :=
  ⟨h.wake, h.panel, modeSound_quiet hf.front h.front, modeSound_quiet hf.rear h.rear, h.rate⟩

theorem modeFixed_onSensor {i : SensorId} {f : Sensor → Sensor}
    (hf : ∀ {a b : Bool} {r}, r.ModeSound a b → (f r).ModeSound a b) (h : ModeFixed s) :
    ModeFixed (s.onLight (Light.onSensor i f)) := by
  cases i
  · exact ⟨h.wake, h.panel, hf h.front, h.rear, h.rate⟩
  · exact ⟨h.wake, h.panel, h.front, hf h.rear, h.rate⟩

theorem modeSound_rearm (n : Nat) {a b : Bool} {r : Sensor} (h : r.ModeSound a b) :
    (r.rearm n).ModeSound a b := by
  refine modeSound_quiet ?_ h
  unfold Sensor.rearm Sensor.expireStale
  (repeat' split) <;> constructor <;> simp_all

theorem modeFixed_streams {f : Streams → Streams} (h1 : (f s.streams).stimulusOn = s.streams.stimulusOn)
    (h2 : (f s.streams).sources = s.streams.sources) (h : ModeFixed s) :
    ModeFixed (s.onStreams f) := by
  have e (src : Source) : (f s.streams).replaces src = s.streams.replaces src := by
    simp only [Streams.replaces, h1, h2]
  obtain ⟨hw, hp, hf, hr, hm⟩ := h
  exact ⟨hw, hp, by rwa [← e] at hf, by rwa [← e] at hr, hm⟩

theorem modeFixed_writeStream (st : StreamId) (e : Bool) (d : Nat) (h : ModeFixed s) :
    ModeFixed (s.writeStream st e d) := by
  have hs : ModeFixed (s.onStreams fun u =>
      match st with
      | .accel => { u with accel := u.accel.write e d }
      | .light => { u with light := u.light.write e d }) :=
    modeFixed_streams (by cases st <;> rfl) (by cases st <;> rfl) h
  cases st <;> simp only [State.writeStream] <;> split
  all_goals exact modeFixed_congr hs

theorem modeFixed_put (x : Setting) (bs : List Byte) (h : ModeFixed s) : ModeFixed (x.put bs s) := by
  cases x
  case lockoutLimit i => exact kept_modeFixed.lockoutLimitWritten i (modeFixed_congr h)
  case enable i => exact modeFixed_writeEnable i _ h
  case trim i => exact modeFixed_onSensor (fun h => ⟨h.enabled, h.conversion⟩) h
  case staleLimit =>
    exact ⟨h.wake, h.panel, modeSound_rearm _ h.front, modeSound_rearm _ h.rear, h.rate⟩
  case weight => exact ⟨h.wake, h.panel, h.front, h.rear, h.rate⟩
  case stream st => exact modeFixed_writeStream st _ _ h
  case stimulus => exact modeFixed_setStimulus _ h
  all_goals exact ⟨h.wake, h.panel, h.front, h.rear, h.rate⟩

theorem modeFixed_afterPuts (xs : List Setting) (h : ModeFixed s) : ModeFixed (s.afterPuts xs) := by
  have own {s : State} (u b : Bool) (h : ModeFixed s) :
      ModeFixed (s.onBack (Backlight.ownWrite u b)) := modeFixed_onBack (panelMode_ownWrite u b) h
  have first (u b : Bool) :
      ModeFixed (((s.onBack (Backlight.ownWrite u b)).owe .other).closeEvent) :=
    modeFixed_closeEvent (modeFixed_congr (own u b h))
  have second (u b : Bool) :
      ModeFixed (((s.owe .other).closeEvent).onBack (Backlight.ownWrite u b)) :=
    own u b (modeFixed_closeEvent (modeFixed_congr h))
  unfold State.afterPuts State.panelWritten
  dsimp only
  (repeat' split)
  · exact first _ _
  · exact modeFixed_congr (first _ _)
  · exact modeFixed_congr (second _ _)
  · exact h

theorem rateTaken_setStimulus (u : Streams) (h : RateTaken s.motion) :
    RateTaken (s.setStimulus u).motion := by
  simp only [State.setStimulus, State.onBack_frame, State.syncPins_frame]
  split <;> exact h

/-- A written setting neither makes a rate pending nor ends the guard's episode. -/
theorem rateTaken_put (x : Setting) (bs : List Byte) (h : RateTaken s.motion) :
    RateTaken (x.put bs s).motion := by
  cases x
  case lockoutLimit i => simpa [Setting.put] using h
  case stream st => simpa [Setting.put] using h
  case stimulus => exact rateTaken_setStimulus _ h
  all_goals exact h

/-! ### A change of mode -/

section
variable {m : PartMode} (hm : s.ctl.mode ≠ m)
include hm

theorem setMode_ctl : (s.setMode m).ctl = ModeCtl.enter m s.ctl := by
  simp only [State.setMode, hm, if_false]
  split <;> simp

theorem setMode_motion : (s.setMode m).motion = s.motion.modeChanged m := by
  simp only [State.setMode, hm, if_false]
  split <;> simp

theorem setMode_light : (s.setMode m).light =
    { s.light with
      front := s.light.front.evaluate (m == .active) (s.streams.replaces .front),
      rear := s.light.rear.evaluate (m == .active) (s.streams.replaces .rear) } := by
  simp only [State.setMode, hm, if_false]
  split <;> simp [State.lightMode, ModeCtl.enter]

theorem setMode_back : (s.setMode m).back = (s.backMode s.ctl.mode m).back := by
  have e : ((((s.onCtl (ModeCtl.enter m)).onBay .a (Bay.modeChanged s.policy s.ctl.mode m)).onBay
      .b (Bay.modeChanged s.policy s.ctl.mode m)).lightMode.backMode s.ctl.mode m).back =
      (s.backMode s.ctl.mode m).back := by
    simp only [State.backMode]
    (repeat' split) <;> simp [undriven]
  simp only [State.setMode, hm, if_false]
  split <;> simpa using e

theorem setMode_streams : (s.setMode m).streams = if m = .dormant then
    { s.streams with accel := { s.streams.accel with count := 0 },
                     light := { s.streams.light with count := 0 } } else s.streams := by
  simp only [State.setMode, hm, if_false]
  split <;> simp [State.streamsDormant]

theorem setMode_link : (s.setMode m).link = if m = .dormant then
    { s.link with accelSlot := none, lightSlot := none } else s.link := by
  simp only [State.setMode, hm, if_false]
  split <;> simp [State.streamsDormant]

theorem setMode_bay (i : BayId) :
    (s.setMode m).bay i = (s.bay i).modeChanged s.policy s.ctl.mode m := by
  simp only [State.setMode, hm, if_false]
  split <;> cases i <;> simp [State.bay]

end

theorem setMode_same (s : State) : s.setMode s.ctl.mode = s := by simp [State.setMode]

theorem panelMode_backMode {m : PartMode} (hm : s.ctl.mode ≠ m)
    (h : PanelMode s.ctl.mode s.back) : PanelMode m (s.backMode s.ctl.mode m).back := by
  unfold State.backMode
  (repeat' split)
  next ha =>
    subst ha
    exact ⟨rfl, fun hn => absurd rfl hn⟩
  next ha ho =>
    have : (m == .active) = false := by simpa using ha
    exact panelMode_send _ ⟨this.symm, fun _ => ⟨rfl, rfl, rfl, rfl⟩⟩
  next ha ho =>
    exact ⟨h.1.trans (by simp [ha, ho]), fun _ => h.2 ho⟩

/-- A change of mode is handed to every block that depends on it (R170). -/
theorem modeHeld_setMode (m : PartMode) (h : ModeFixed s) (hr : RateTaken s.motion) :
    ModeFixed (s.setMode m) ∧ RateTaken (s.setMode m).motion := by
  by_cases hm : s.ctl.mode = m
  · subst hm
    rw [setMode_same]
    exact ⟨h, hr⟩
  have hs (src : Source) : (s.setMode m).streams.replaces src = s.streams.replaces src := by
    rw [setMode_streams hm]
    split <;> rfl
  have hc : (s.setMode m).ctl.mode = m := by rw [setMode_ctl hm]; rfl
  obtain ⟨hrate, htaken⟩ := rateMode_modeChanged (m := m) hr
  refine ⟨⟨fun ha => ?_, ?_, ?_, ?_, ?_⟩, ?_⟩
  · rw [setMode_ctl hm]
    simp [ModeCtl.enter, hc ▸ ha]
  · rw [hc, setMode_back hm]
    exact panelMode_backMode hm h.panel
  · rw [hc, hs, setMode_light hm]
    exact modeSound_evaluate h.front s.light.front.enable
  · rw [hc, hs, setMode_light hm]
    exact modeSound_evaluate h.rear s.light.rear.enable
  · rwa [hc, setMode_motion hm]
  · rwa [setMode_motion hm]

/-! ### Every step -/

/-- A full reset leaves every block as ACTIVE has it (R95, R110, R130, R175). -/
theorem modeFixed_fullResetPlaced (s : State) :
    ModeFixed (fullResetPlaced s) ∧ RateTaken (fullResetPlaced s).motion := by
  have h0 : ModeFixed s.fullResetBlocks :=
    ⟨fun _ => rfl, ⟨rfl, fun hn => absurd rfl hn⟩, ⟨rfl, rfl⟩, ⟨rfl, rfl⟩, rfl⟩
  have h1 : ModeFixed s.fullResetBlocks.fullResetSupply :=
    modeFixed_allowPower (modeFixed_congr h0 (by simp) (by simp) (by simp) (by simp) (by simp)
      (by simp))
  have left {s : State} (i : BayId) (o : BayState) (h : ModeFixed s) :
      ModeFixed (s.leftReleasing i o) :=
    modeFixed_congr h (by simp) (by simp) (by simp) (by simp) (by simp) (by simp)
  refine ⟨modeFixed_onBack (panelMode_ownWrite _ _) (left .b _ (left .a _ h1)), ?_⟩
  have e : (fullResetPlaced s).motion = .fresh .hz400 := by simp [fullResetPlaced, State.fullResetBlocks]
  rw [e]
  exact fun _ => rfl

theorem blockSteps_mode : BlockSteps fun s => ModeFixed s ∧ RateTaken s.motion where
  blocks b h := ⟨modeFixed_blocks b h.1, by simpa only [b.motion] using h.2⟩
  reevaluate ev h := ⟨modeFixed_reevaluate ev h.1, by simpa using h.2⟩
  ctl f hm hw h := ⟨⟨fun ha => by
      have := h.1.wake (hm ▸ ha)
      by_contra hn
      simp [hw (by simpa using hn)] at this,
    by simpa only [State.onCtl_frame, State.onCtl_ctl, hm] using h.1.panel,
    by simpa only [State.onCtl_frame, State.onCtl_ctl, hm] using h.1.front,
    by simpa only [State.onCtl_frame, State.onCtl_ctl, hm] using h.1.rear,
    by simpa only [State.onCtl_frame, State.onCtl_ctl, hm] using h.1.rate⟩, h.2⟩
  motion f hq h := ⟨⟨h.1.wake, h.1.panel, h.1.front, h.1.rear, by
      have := h.1.rate
      simpa only [RateMode, State.onMotion_motion, State.onMotion_frame, hq.odr, hq.pending]
        using this⟩,
    fun hg => hq.pending.trans (h.2 (hq.guard hg))⟩
  returnToCalm h := by
    have h1 := kept_modeFixed.returnAtBlocks (modeFixed_congr h.1 :
      ModeFixed (State.onMotion _ fun m => { m with guard := .calm, work := .clear }))
    obtain ⟨hr, ht⟩ := rateMode_applyPending h1.rate
    exact ⟨⟨h1.wake, h1.panel, h1.front, h1.rear, hr⟩, ht⟩
  light f hq h := ⟨modeFixed_onLight hq h.1, h.2⟩
  streams f h1 h2 _ h := ⟨modeFixed_streams h1 h2 h.1, h.2⟩
  brightness e th ht h := ⟨modeFixed_onBack (panelMode_tickStages _ e th ht) h.1, h.2⟩
  panelOn h := ⟨⟨h.1.wake, h.1.panel, h.1.front, h.1.rear, h.1.rate⟩, h.2⟩
  panelOff {s} h := by
    unfold State.backlightOff
    split
    · exact ⟨modeFixed_onBack (s := s)
        (f := fun k => Backlight.dark (undriven s) { k with on := false })
        (fun h => panelMode_dark _ (k := { s.back with on := false }) h) h.1, h.2⟩
    · exact h
  applyCurve h := by
    unfold State.applyCurve
    split
    · exact ⟨⟨h.1.wake, h.1.panel, h.1.front, h.1.rear, h.1.rate⟩, h.2⟩
    · exact h
  setMode m h := modeHeld_setMode m h.1 h.2
  setStimulus u h := ⟨modeFixed_setStimulus u h.1, rateTaken_setStimulus u h.2⟩
  takeFields sp c xs h := takeFields_of (P := fun s => ModeFixed s ∧ RateTaken s.motion)
    (W := fun _ s => ModeFixed s ∧ RateTaken s.motion)
    (fun _ _ h => ⟨modeFixed_congr h.1, h.2⟩)
    (fun _ x bs _ h => ⟨modeFixed_put x bs h.1, rateTaken_put x bs h.2⟩)
    (fun xs _ h => ⟨modeFixed_afterPuts xs h.1, by simpa using h.2⟩) sp c xs h
  supply f e _ h := ⟨modeFixed_congr h.1, h.2⟩
  filters _ _ h := ⟨modeFixed_congr h.1, h.2⟩
  tick h := ⟨⟨h.1.wake, ⟨by simpa [State.tick, tickOpt] using h.1.panel.1, h.1.panel.2⟩,
    modeSound_tick h.1.front, modeSound_tick h.1.rear, h.1.rate⟩, h.2⟩
  placed _ := modeFixed_fullResetPlaced _
  atPowerOn s _ := ⟨⟨fun _ => rfl, ⟨rfl, fun _ => ⟨rfl, rfl, rfl, rfl⟩⟩, ⟨rfl, rfl⟩, ⟨rfl, rfl⟩, rfl⟩,
    fun _ => rfl⟩

end

/-- Settles O8: each block takes a change of mode in the event itself, and a rate that waits for the
guard is applied at its return. -/
theorem stepKeepsModeSound : Obligations.StepKeepsModeSound := by
  unfold Obligations.StepKeepsModeSound
  intro s t h hs
  rw [modeSound_iff] at h ⊢
  exact blockSteps_mode.stepKept.step_keeps h hs

end Sys2Proof.Proofs
end

section
/-!
PROOFS. The settings, the working curve and the tables, block by block (R1, R3, R17, R21, R31, R64,
R87, R107, R109, R113, R123, R125, R133, R145).
-/

namespace Sys2Proof.Proofs
open Sys2Proof.Machine

/-! ### What each block holds -/

/-- The policy's settings and tables; `c` and `a`: codes and classes may be double, until a WRITE's
structural checks have been made (R3, R31). -/
structure PolicyHeld (c a : Bool) (p : Policy) : Prop where
  range     : p.inRange
  commands  : p.commands.length = 32
  codes     : c = false → codesUnique p.commands = true
  entries   : ∀ e ∈ p.commands, e.sound = true
  admission : p.admission.length = 8
  classes   : a = false → classesUnique p.admission = true
  windows   : ∀ e ∈ p.admission, e.sound = true

/-- The backlight controller's settings and curves. -/
structure PanelSettings (k : Backlight) : Prop where
  range   : k.inRange
  working : curveValid k.working
  slots   : k.staged.length = 16

/-- The guard's settings; `t`: the thresholds may be out of order, until a WRITE's structural check has
been made (R133). -/
structure MotionHeld (t : Bool) (m : Motion) : Prop where
  freeFallMg   : 100 ≤ m.freeFallMg ∧ m.freeFallMg ≤ 800
  freeFallTime : 10 ≤ m.freeFallTime ∧ m.freeFallTime ≤ 200
  light        : 1000 ≤ m.lightMg ∧ m.lightMg ≤ 16000
  hard         : 1000 ≤ m.hardMg ∧ m.hardMg ≤ 16000
  severe       : 1000 ≤ m.severeMg ∧ m.severeMg ≤ 16000
  order        : t = false → m.lightMg < m.hardMg ∧ m.hardMg < m.severeMg

/-- The settings while a WRITE's fields take their values. -/
structure SettingsHeld (c a t : Bool) (s : State) : Prop where
  policy : PolicyHeld c a s.policy
  supply : s.supply.inRange
  light  : s.light.inRange
  back   : PanelSettings s.back
  motion : MotionHeld t s.motion
  table  : s.drop.table.length = 6

theorem settingsHeld_iff (s : State) : SettingsHeld false false false s ↔
    s.SettingsInRange ∧ s.CurvesSound ∧ s.TablesSound := by
  constructor
  · rintro ⟨hp, hs, hl, hb, hm, ht⟩
    have hr := hb.range
    have hmr : s.motion.inRange := by
      obtain ⟨h1, h2, h3, -, h5, h6⟩ := hm
      obtain ⟨h7, h8⟩ := h6 rfl
      exact ⟨h1.1, h1.2, h2.1, h2.2, h3.1, h7, h8, h5.2⟩
    unfold Backlight.inRange at hr
    exact ⟨⟨hp.range, hs, hl, hb.range, hmr⟩, ⟨hb.working, hb.slots, by omega⟩,
      ⟨hp.commands, hp.codes rfl, hp.entries, hp.admission, hp.classes rfl, hp.windows, ht⟩⟩
  · rintro ⟨⟨hp, hs, hl, hb, hm⟩, ⟨hw, hn, -⟩, ⟨h1, h2, h3, h4, h5, h6, h7⟩⟩
    unfold Motion.inRange at hm
    exact ⟨⟨hp, h1, fun _ => h2, h3, h4, fun _ => h5, h6⟩, hs, hl, ⟨hb, hw, hn⟩,
      by constructor <;> omega, h7⟩

/-! ### The panel's own changes -/

/-- `k'` has the settings and the curves of `k`. -/
def SamePanelSettings (k k' : Backlight) : Prop :=
  { k' with on := k.on, filtered := k.filtered, pbl := k.pbl, lpow := k.lpow, stages := k.stages,
            lout := k.lout, drive := k.drive, lastSent := k.lastSent, tick := k.tick } = k

theorem SamePanelSettings.held {k k' : Backlight} (e : SamePanelSettings k k')
    (h : PanelSettings k) : PanelSettings k' := by
  rw [← e] at h
  exact ⟨h.range, h.working, h.slots⟩

theorem sameSettings_redrive (u : Bool) (k : Backlight) : SamePanelSettings k (k.redrive u) := by
  unfold Backlight.redrive Backlight.send
  split <;> rfl

theorem SamePanelSettings.trans {a b c : Backlight} (h1 : SamePanelSettings a b)
    (h2 : SamePanelSettings b c) : SamePanelSettings a c := by
  unfold SamePanelSettings at *
  rw [← h1, ← h2]

theorem sameSettings_reclamp (u : Bool) (k : Backlight) : SamePanelSettings k (k.reclamp u) := by
  unfold Backlight.reclamp Backlight.redrive Backlight.send
  dsimp only
  (repeat' split) <;> rfl

theorem sameSettings_ownWrite (u b : Bool) (k : Backlight) :
    SamePanelSettings k (k.ownWrite u b) := by
  unfold Backlight.ownWrite
  dsimp only
  split
  · exact (sameSettings_reclamp u k).trans (sameSettings_redrive u _)
  · exact sameSettings_reclamp u k

theorem sameSettings_handPbl (u : Bool) (n : Nat) (k : Backlight) :
    SamePanelSettings k (k.handPbl u n) :=
  SamePanelSettings.trans (b := { k with pbl := n }) rfl (sameSettings_reclamp u _)

theorem sameSettings_send (u : Bool) (k : Backlight) : SamePanelSettings k (k.send u) := by
  unfold Backlight.send
  split <;> rfl

theorem sameSettings_dark (u : Bool) (k : Backlight) : SamePanelSettings k (k.dark u) :=
  SamePanelSettings.trans (b := { k with lout := 0, drive := 0 }) rfl (sameSettings_send u _)

theorem sameSettings_tickStages (u : Bool) (e : Option Nat) (th : Int) (k : Backlight) :
    SamePanelSettings k (k.tickStages u e th) := by
  unfold Backlight.tickStages Backlight.pipeline Backlight.redrive Backlight.send
  dsimp only
  (repeat' split) <;> rfl

/-- A curve that APPLY accepts may be read by a tick (R113, R123). -/
theorem curveValid_stagedPoints {k : Backlight} (h : PanelSettings k) (hv : k.stagedValid = true) :
    curveValid k.stagedPoints := by
  obtain ⟨hr, -, hs⟩ := h
  unfold Backlight.inRange at hr
  simp only [Backlight.stagedValid, Config.luxMax, Bool.and_eq_true, List.all_eq_true,
    decide_eq_true_eq] at hv
  obtain ⟨⟨⟨h2, h16⟩, hall⟩, hinc⟩ := hv
  have hlen : k.stagedPoints.length = k.stagedCount.toNat := by
    simp only [Backlight.stagedPoints, List.length_map, List.length_take, hs]
    omega
  refine ⟨by omega, by omega, hinc, fun p hp => ?_⟩
  obtain ⟨hl, hn⟩ := hall p hp
  exact ⟨of_decide_eq_true hl, by omega⟩

/-! ### The light unit's own changes -/

/-- A sensor's trim after each of its events is what it was (R107). -/
theorem trim_evaluate (a b : Bool) (r : Sensor) : (Sensor.evaluate a b r).trim = r.trim := by
  unfold Sensor.evaluate
  (repeat' split) <;> simp [Sensor.enabled, Sensor.disabled, Sensor.startConversion]
  split <;> rfl

theorem trim_replacement (a b : Bool) (r : Sensor) : (r.replacement a b).trim = r.trim := by
  unfold Sensor.replacement Sensor.replacementBegins Sensor.replacementEnds
  dsimp only
  (repeat' split) <;> rfl

theorem trim_rearm (n : Nat) (r : Sensor) : (r.rearm n).trim = r.trim := by
  unfold Sensor.rearm Sensor.expireStale
  (repeat' split) <;> rfl

theorem light_inRange_congr {u v : Light} (hf : v.front.trim = u.front.trim)
    (hr : v.rear.trim = u.rear.trim) (hs : v.staleLimit = u.staleLimit) (hw : v.weight = u.weight)
    (h : u.inRange) : v.inRange := by
  unfold Light.inRange at *
  rwa [hf, hr, hs, hw]

theorem storeTrim_range (e : Half) : 1 ≤ storeTrim e ∧ storeTrim e ≤ 8191 := by
  unfold storeTrim
  split
  next h => simpa using h
  next => decide

theorem fresh_inRange (st : TrimStore) : (Light.fresh st).inRange := by
  obtain ⟨h1, h2⟩ := storeTrim_range st.front
  obtain ⟨h3, h4⟩ := storeTrim_range st.rear
  exact ⟨h1, h2, h3, h4, by simp [Light.fresh], by simp [Light.fresh], by simp [Light.fresh]⟩

/-! ### Values at resets -/

theorem policyHeld_defaults : PolicyHeld false false Policy.defaults :=
  ⟨by unfold Policy.inRange; decide, rfl, fun _ => by decide, by decide, rfl, fun _ => by decide,
    by decide⟩

theorem supplyFresh_inRange : Supply.fresh.inRange := by
  unfold Supply.inRange
  decide

theorem panelSettings_fresh : PanelSettings Backlight.fresh :=
  ⟨by unfold Backlight.inRange; decide, by unfold curveValid; decide, rfl⟩

theorem motionHeld_fresh (o : Odr) : MotionHeld false (Motion.fresh o) := by
  constructor <;> simp [Motion.fresh]

/-! ### Entries as they are stored -/

/-- Clamping changes nothing that the refusals of R3 look at. -/
theorem clamp_sound (e : CommandEntry) : e.clamp.sound = e.sound := by
  unfold CommandEntry.clamp
  split <;> rfl

theorem forall_mem_set {α : Type} {Q : α → Prop} {l : List α} {n : Nat} {x : α}
    (hx : Q x) (h : ∀ e ∈ l, Q e) : ∀ e ∈ l.set n x, Q e := fun e he => by
  rcases List.mem_or_eq_of_mem_set he with hm | rfl
  · exact h e hm
  · exact hx

end Sys2Proof.Proofs
end

section
/-!
PROOFS. Settings, curve and tables through every command: a WRITE clamps each value, and its
structural checks are made where a table or a threshold was written (R184).
-/

namespace Sys2Proof.Proofs
open Sys2Proof.Machine

section
variable {c a th : Bool} {s t : State}

theorem settingsHeld_congr (h : SettingsHeld c a th s) (hp : t.policy = s.policy := by rfl)
    (hs : t.supply.inRange = s.supply.inRange := by rfl)
    (hl : t.light = s.light := by rfl) (hb : t.back = s.back := by rfl)
    (hm : t.motion = s.motion := by rfl) (hd : t.drop.table = s.drop.table := by rfl) :
    SettingsHeld c a th t := by
  obtain ⟨h1, h2, h3, h4, h5, h6⟩ := h
  exact ⟨hp ▸ h1, hs ▸ h2, hl ▸ h3, hb ▸ h4, hm ▸ h5, hd ▸ h6⟩

theorem settingsHeld_blocks (b : BlocksKept s t) (h : SettingsHeld c a th s) :
    SettingsHeld c a th t :=
  settingsHeld_congr h b.policy (by rw [b.supply]) b.light b.back b.motion b.table

theorem kept_settings (c a th : Bool) : Kept (SettingsHeld c a th) := .of_blocks settingsHeld_blocks

theorem settingsHeld_onBack {f : Backlight → Backlight} (hf : SamePanelSettings s.back (f s.back))
    (h : SettingsHeld c a th s) : SettingsHeld c a th (s.onBack f) :=
  ⟨h.policy, h.supply, h.light, hf.held h.back, h.motion, h.table⟩

theorem settingsHeld_onSupply {f : Supply → Supply} (hf : (f s.supply).inRange = s.supply.inRange)
    (h : SettingsHeld c a th s) : SettingsHeld c a th (s.onSupply f) :=
  settingsHeld_congr h rfl hf

/-! ### The end of an event -/

theorem settingsHeld_supplyTransition (ev : SupplyEvent) (h : SettingsHeld c a th s) :
    SettingsHeld c a th (s.supplyTransition ev) := by
  have standby (c' : StopCause) : SettingsHeld c a th (s.enterStandby c') := by
    unfold State.enterStandby
    dsimp only
    split <;> exact settingsHeld_congr h
  have save : SettingsHeld c a th s.enterSave := settingsHeld_blocks (wakeEvent_blocksKept _ _)
    (settingsHeld_congr h)
  unfold State.supplyTransition
  (repeat' split) <;> first
    | exact h
    | exact standby _
    | exact save
    | exact settingsHeld_congr h

theorem settingsHeld_allowPower (h : SettingsHeld c a th s) : SettingsHeld c a th s.allowPower := by
  unfold State.allowPower
  dsimp only
  split
  · exact settingsHeld_congr h
  · exact settingsHeld_onBack (s := s.onSupply _) (sameSettings_handPbl _ _ _)
      (settingsHeld_congr h)

theorem setLastSupply_table (f : LockReasons → LockReasons) (s : State) :
    (s.setLastSupply f).drop.table = s.drop.table := by
  simp [State.setLastSupply, State.setReasons, syncPins_table]

theorem settingsHeld_reevaluate (ev : SupplyEvent) (h : SettingsHeld c a th s) :
    SettingsHeld c a th (s.reevaluate ev) :=
  settingsHeld_allowPower (settingsHeld_congr (settingsHeld_supplyTransition ev h) (by simp)
    (by simp) (by simp) (by simp) (by simp) (by simp [setLastSupply_table]))

theorem settingsHeld_closeEvent (h : SettingsHeld c a th s) : SettingsHeld c a th s.closeEvent :=
  (kept_settings c a th).closeEvent_of settingsHeld_congr settingsHeld_reevaluate h

/-! ### Light and stimulus -/

theorem settingsHeld_onLight {f : Light → Light} (hf : (f s.light).inRange)
    (h : SettingsHeld c a th s) : SettingsHeld c a th (s.onLight f) :=
  ⟨h.policy, h.supply, hf, h.back, h.motion, h.table⟩

theorem settingsHeld_onSensor {i : SensorId} {f : Sensor → Sensor} (hf : ∀ r, (f r).trim = r.trim)
    (h : SettingsHeld c a th s) : SettingsHeld c a th (s.onLight (Light.onSensor i f)) := by
  refine settingsHeld_onLight (light_inRange_congr ?_ ?_ ?_ ?_ h.light) h <;> cases i <;>
    simp [Light.onSensor, hf]

theorem settingsHeld_setStimulus (u : Streams) (h : SettingsHeld c a th s) :
    SettingsHeld c a th (s.setStimulus u) := by
  have h1 : SettingsHeld c a th ((s.onStreams fun _ => u).onLight fun l =>
      { l with
        front := l.front.replacement (s.streams.replaces .front) (u.replaces .front),
        rear := l.rear.replacement (s.streams.replaces .rear) (u.replaces .rear) }) :=
    settingsHeld_onLight (s := s.onStreams fun _ => u) (light_inRange_congr (u := s.light)
      (trim_replacement _ _ _) (trim_replacement _ _ _) rfl rfl h.light) (settingsHeld_congr h)
  have h2 {s : State} (h : SettingsHeld c a th s) : SettingsHeld c a th s.accelReplacementEnds :=
    ⟨h.policy, h.supply, h.light, h.back, ⟨h.motion.freeFallMg, h.motion.freeFallTime,
      h.motion.light, h.motion.hard, h.motion.severe, h.motion.order⟩, h.table⟩
  unfold State.setStimulus
  refine settingsHeld_onBack (sameSettings_send _ _) ((kept_settings c a th).pins ?_)
  split
  · exact h2 h1
  · exact h1

/-! ### Written settings, block by block (R184 step 4) -/

/-- A policy as a written setting leaves it. -/
theorem settingsHeld_onPolicy {c' a' : Bool} {f : Policy → Policy}
    (hf : PolicyHeld c' a' (f s.policy)) (h : SettingsHeld c a th s) :
    SettingsHeld c' a' th (s.onPolicy f) :=
  ⟨hf, h.supply, h.light, h.back, h.motion, h.table⟩

/-- A policy whose numbers alone have changed. -/
theorem policyHeld_numbers {p q : Policy} (hr : q.inRange) (hc : q.commands = p.commands)
    (ha : q.admission = p.admission) (h : PolicyHeld c a p) : PolicyHeld c a q := by
  obtain ⟨-, h1, h2, h3, h4, h5, h6⟩ := h
  exact ⟨hr, hc ▸ h1, hc ▸ h2, hc ▸ h3, ha ▸ h4, ha ▸ h5, ha ▸ h6⟩

theorem policyHeld_setCommand {p : Policy} (n : Nat) {e : CommandEntry} (he : e.sound = true)
    (h : PolicyHeld c a p) : PolicyHeld true a { p with commands := p.commands.set n e } :=
  ⟨h.range, by simpa using h.commands, by simp, forall_mem_set he h.entries, h.admission, h.classes,
    h.windows⟩

theorem policyHeld_setAdmission {p : Policy} (n : Nat) {e : AdmissionEntry} (he : e.sound = true)
    (h : PolicyHeld c a p) : PolicyHeld c true { p with admission := p.admission.set n e } :=
  ⟨h.range, h.commands, h.codes, h.entries, by simpa using h.admission, by simp,
    forall_mem_set he h.windows⟩

theorem lockoutLimit_inRange {p : Policy} (i : BayId) (n : Nat) (h : p.inRange) :
    Policy.inRange { p with lockoutLimit := p.lockoutLimit.set i (min 15 n) } := by
  unfold Policy.inRange at *
  cases i <;> simp only [Both.set] <;> omega

theorem settingsHeld_panel {f : Backlight → Backlight} (hr : (f s.back).inRange)
    (hw : (f s.back).working = s.back.working) (hs : (f s.back).staged.length = s.back.staged.length)
    (h : SettingsHeld c a th s) : SettingsHeld c a th (s.onBack f) :=
  ⟨h.policy, h.supply, h.light, ⟨hr, hw ▸ h.back.working, hs.trans h.back.slots⟩, h.motion, h.table⟩

theorem settingsHeld_onMotion {th' : Bool} {f : Motion → Motion} (hf : MotionHeld th' (f s.motion))
    (h : SettingsHeld c a th s) : SettingsHeld c a th' (s.onMotion f) :=
  ⟨h.policy, h.supply, h.light, h.back, hf, h.table⟩

/-- The settings of a WRITE that its structural checks look at (R3, R31, R133). -/
def Setting.isCommand : Setting → Bool
  | .command _ => true
  | _ => false

@[inherit_doc Setting.isCommand]
def Setting.isAdmission : Setting → Bool
  | .admission _ => true
  | _ => false

@[inherit_doc Setting.isCommand]
def Setting.isThreshold : Setting → Bool
  | .lightMg | .hardMg | .severeMg => true
  | _ => false

theorem structureOk_iff (xs : List Setting) (p : Policy) (m : Motion) :
    structureOk xs p m = true ↔
      (xs.any Setting.isCommand = true → codesUnique p.commands = true) ∧
      (xs.any Setting.isAdmission = true → classesUnique p.admission = true) ∧
      (xs.any Setting.isThreshold = true → m.lightMg < m.hardMg ∧ m.hardMg < m.severeMg) := by
  have ht : (xs.contains .lightMg || xs.contains .hardMg || xs.contains .severeMg) =
      xs.any Setting.isThreshold := by
    rw [Bool.eq_iff_iff]
    simp only [Bool.or_eq_true, List.contains_iff_mem, List.any_eq_true]
    constructor
    · rintro ((h | h) | h) <;> exact ⟨_, h, rfl⟩
    · rintro ⟨x, hx, he⟩
      cases x <;> simp_all [Setting.isThreshold]
  have e : structureOk xs p m = ((!xs.any Setting.isCommand || codesUnique p.commands)
      && (!xs.any Setting.isAdmission || classesUnique p.admission)
      && (!(xs.contains .lightMg || xs.contains .hardMg || xs.contains .severeMg)
        || (m.lightMg < m.hardMg && m.hardMg < m.severeMg))) := rfl
  have imp (x y : Bool) : (!x || y) = true ↔ (x = true → y = true) := by cases x <;> simp
  rw [e, ht, Bool.and_eq_true, Bool.and_eq_true, imp, imp, imp, and_assoc]
  simp

/-- The settings as a WRITE of `xs` has left them so far. -/
def SettingsWritten (xs : List Setting) : State → Prop :=
  SettingsHeld (xs.any Setting.isCommand) (xs.any Setting.isAdmission) (xs.any Setting.isThreshold)

/-- A written setting is clamped to its range, and its entry sound where the WRITE is accepted (R3,
R31, R184). -/
theorem settingsWritten_put (xs : List Setting) (x : Setting) (bs : List Byte)
    (ha : x.accepts bs = true) (h : SettingsWritten xs s) :
    SettingsWritten (xs ++ [x]) (x.put bs s) := by
  unfold SettingsWritten at *
  simp only [List.any_append, List.any_cons, List.any_nil, Bool.or_false]
  have number {f : Policy → Policy} (hr : (f s.policy).inRange)
      (hc : (f s.policy).commands = s.policy.commands)
      (ha : (f s.policy).admission = s.policy.admission) := settingsHeld_onPolicy (f := f)
    (policyHeld_numbers hr hc ha h.policy) h
  have hp := h.policy.range
  have hs := h.supply
  have hl := h.light
  have hb := h.back.range
  have hm := h.motion
  unfold Policy.inRange at hp
  unfold Supply.inRange at hs
  unfold Light.inRange at hl
  unfold Backlight.inRange at hb
  cases x <;> simp only [Setting.isCommand, Setting.isAdmission, Setting.isThreshold, Bool.or_false,
    Bool.or_true] <;> unfold Setting.put
  case transactionLimit | pollPeriod | settleTime | releaseTime =>
    refine number ?_ rfl rfl
    simp only [Policy.inRange, clampNat]
    omega
  case defaultTreatment => exact number h.policy.range rfl rfl
  case lockoutLimit i =>
    exact (kept_settings _ _ _).lockoutLimitWritten i
      (number (lockoutLimit_inRange i _ h.policy.range) rfl rfl)
  case command n =>
    exact settingsHeld_onPolicy (policyHeld_setCommand n ((clamp_sound _).trans ha) h.policy) h
  case admission n =>
    exact settingsHeld_congr (s := s.onPolicy fun p =>
      { p with admission := p.admission.set n (admissionOf bs).clamp })
      (settingsHeld_onPolicy (policyHeld_setAdmission n ha h.policy) h)
  case hold => exact settingsHeld_congr h
  case readyThreshold | bridgeLimit | saveWindow | bridgePower | normalReserve | bridgeReserve
      | shareWindow =>
    refine ⟨h.policy, ?_, h.light, h.back, h.motion, h.table⟩
    simp only [State.writeSupply, State.owe_frame, State.onSupply_supply, Supply.inRange, clampNat]
    omega
  case enable i => exact settingsHeld_onSensor (fun _ => trim_evaluate _ _ _) h
  case trim i =>
    refine settingsHeld_onLight ?_ h
    cases i <;> simp only [Light.onSensor, Light.inRange, clampNat] <;> omega
  case staleLimit =>
    refine settingsHeld_onLight ?_ h
    simp only [Light.setStaleLimit, Light.inRange, trim_rearm, clampNat]
    omega
  case weight =>
    refine settingsHeld_onLight ?_ h
    simp only [Light.inRange]
    omega
  case tickPeriod | riseShift | fallShift | bias | lMin | lMax | q | rUp | rDn =>
    refine settingsHeld_panel ?_ rfl rfl h
    simp only [Backlight.inRange, clampNat, clampInt]
    omega
  case stagedCount => exact settingsHeld_panel h.back.range rfl rfl h
  case stagedLux | stagedNits =>
    exact settingsHeld_panel h.back.range rfl (by simp) h
  case freeFallMg =>
    exact settingsHeld_onMotion ⟨by simp only [clampNat]; omega, hm.freeFallTime, hm.light, hm.hard,
      hm.severe, hm.order⟩ h
  case freeFallTime =>
    exact settingsHeld_onMotion ⟨hm.freeFallMg, by simp only [clampNat]; omega, hm.light, hm.hard,
      hm.severe, hm.order⟩ h
  case lightMg =>
    exact settingsHeld_onMotion ⟨hm.freeFallMg, hm.freeFallTime, by simp only [clampNat]; omega,
      hm.hard, hm.severe, by simp⟩ h
  case hardMg =>
    exact settingsHeld_onMotion ⟨hm.freeFallMg, hm.freeFallTime, hm.light,
      by simp only [clampNat]; omega, hm.severe, by simp⟩ h
  case severeMg =>
    exact settingsHeld_onMotion ⟨hm.freeFallMg, hm.freeFallTime, hm.light, hm.hard,
      by simp only [clampNat]; omega, by simp⟩ h
  case action n =>
    exact ⟨h.policy, h.supply, h.light, h.back, h.motion, by simpa using h.table⟩
  case stream st =>
    exact settingsHeld_congr h (by simp) (by simp) (by simp) (by simp) (by simp) (by simp)
  case stimulus => exact settingsHeld_setStimulus _ h
  case clearMode | alertForwarding | attention | wakeEnables | holdClasses | logIndex =>
    exact settingsHeld_congr h

theorem settingsHeld_afterPuts (xs : List Setting) (h : SettingsHeld c a th s) :
    SettingsHeld c a th (s.afterPuts xs) := by
  have own {s : State} (u b : Bool) (h : SettingsHeld c a th s) :
      SettingsHeld c a th (s.onBack (Backlight.ownWrite u b)) :=
    settingsHeld_onBack (sameSettings_ownWrite u b _) h
  have first (u b : Bool) :
      SettingsHeld c a th (((s.onBack (Backlight.ownWrite u b)).owe .other).closeEvent) :=
    settingsHeld_closeEvent (settingsHeld_congr (own u b h))
  have second (u b : Bool) :
      SettingsHeld c a th (((s.owe .other).closeEvent).onBack (Backlight.ownWrite u b)) :=
    own u b (settingsHeld_closeEvent (settingsHeld_congr h))
  unfold State.afterPuts State.panelWritten
  dsimp only
  (repeat' split)
  · exact first _ _
  · exact settingsHeld_congr (first _ _)
  · exact settingsHeld_congr (second _ _)
  · exact h

/-- An accepted WRITE leaves the tables without doubles and the thresholds in order (R184). -/
theorem settingsHeld_of_structureOk {xs : List Setting} (hx : structureOk xs s.policy s.motion = true)
    (h : SettingsWritten xs s) : SettingsHeld false false false s := by
  obtain ⟨hc, ha, ht⟩ := (structureOk_iff _ _ _).mp hx
  have either {b : Bool} {Q : Prop} (h1 : b = true → Q) (h2 : b = false → Q) : Q := by
    cases b
    · exact h2 rfl
    · exact h1 rfl
  obtain ⟨hp, hs, hl, hb, hm, hd⟩ := h
  exact ⟨⟨hp.range, hp.commands, fun _ => either hc hp.codes, hp.entries, hp.admission,
    fun _ => either ha hp.classes, hp.windows⟩, hs, hl, hb, ⟨hm.freeFallMg, hm.freeFallTime,
    hm.light, hm.hard, hm.severe, fun _ => either ht hm.order⟩, hd⟩

/-! ### Mode changes, the guard, resets -/

theorem motionHeld_accel {f : Motion → Motion}
    (hf : Motion.Quiet s.motion (f s.motion)) (h : MotionHeld th s.motion) :
    MotionHeld th (f s.motion) := by
  obtain ⟨h1, h2, h3, h4, h5⟩ := hf.settings
  obtain ⟨a1, a2, a3, a4, a5, a6⟩ := h
  exact ⟨h1 ▸ a1, h2 ▸ a2, h3 ▸ a3, h4 ▸ a4, h5 ▸ a5, h3 ▸ h4 ▸ h5 ▸ a6⟩

theorem motionHeld_modeChanged (m : PartMode) {u : Motion} (h : MotionHeld th u) :
    MotionHeld th (u.modeChanged m) := by
  obtain ⟨h1, h2, h3, h4, h5, h6⟩ := h
  unfold Motion.modeChanged
  split <;> exact ⟨h1, h2, h3, h4, h5, h6⟩

theorem motionHeld_applyPending {u : Motion} (h : MotionHeld th u) :
    MotionHeld th u.applyPending := by
  obtain ⟨h1, h2, h3, h4, h5, h6⟩ := h
  unfold Motion.applyPending
  split <;> exact ⟨h1, h2, h3, h4, h5, h6⟩

theorem sameSettings_leaveActive (u : Bool) (k : Backlight) :
    SamePanelSettings k (k.leaveActive u) := by
  unfold Backlight.leaveActive Backlight.dark Backlight.send
  split <;> rfl

theorem settingsHeld_setMode (m : PartMode) (h : SettingsHeld c a th s) :
    SettingsHeld c a th (s.setMode m) := by
  by_cases hm : s.ctl.mode = m
  · subst hm
    rwa [setMode_same]
  refine ⟨by simpa using h.policy, by simpa using h.supply, ?_, ?_, ?_, by simpa using h.table⟩
  · rw [setMode_light hm]
    exact light_inRange_congr (trim_evaluate _ _ _) (trim_evaluate _ _ _) rfl rfl h.light
  · rw [setMode_back hm]
    unfold State.backMode
    (repeat' split)
    · exact SamePanelSettings.held (k := s.back) rfl h.back
    · exact (sameSettings_leaveActive _ _).held h.back
    · exact h.back
  · rw [setMode_motion hm]
    exact motionHeld_modeChanged m h.motion

theorem settingsHeld_fullResetPlaced (s : State) :
    SettingsHeld false false false (fullResetPlaced s) := by
  have h0 : SettingsHeld false false false s.fullResetBlocks :=
    ⟨policyHeld_defaults, supplyFresh_inRange, light_inRange_congr rfl rfl rfl rfl
      (fresh_inRange s.store), SamePanelSettings.held (k := Backlight.fresh) rfl panelSettings_fresh,
      motionHeld_fresh _, rfl⟩
  have h1 : SettingsHeld false false false s.fullResetBlocks.fullResetSupply :=
    settingsHeld_allowPower (settingsHeld_congr h0 (by simp) (by simp) (by simp) (by simp)
      (by simp) (by simp [setLastSupply_table]))
  have left {s : State} (i : BayId) (o : BayState) (h : SettingsHeld false false false s) :
      SettingsHeld false false false (s.leftReleasing i o) := by
    unfold State.leftReleasing
    split
    · exact settingsHeld_blocks (onBay_syncPins_blocksKept _ _ _) h
    · exact h
  exact settingsHeld_onBack (sameSettings_ownWrite _ _ _) (left .b _ (left .a _ h1))

theorem blockSteps_settings : BlockSteps (SettingsHeld false false false) where
  blocks := settingsHeld_blocks
  reevaluate := settingsHeld_reevaluate
  ctl _ _ _ h := settingsHeld_congr h
  motion f hf h := settingsHeld_onMotion (motionHeld_accel hf h.motion) h
  returnToCalm h := (kept_settings _ _ _).returnToCalm_of
    (fun h => settingsHeld_onMotion ⟨h.motion.freeFallMg, h.motion.freeFallTime, h.motion.light,
      h.motion.hard, h.motion.severe, h.motion.order⟩ h)
    (fun h => settingsHeld_onMotion (motionHeld_applyPending h.motion) h) h
  light f hf h := settingsHeld_onLight
    (light_inRange_congr hf.front.trim hf.rear.trim hf.stale hf.weight h.light) h
  streams _ _ _ _ h := settingsHeld_congr h
  brightness e t _ h := settingsHeld_onBack (sameSettings_tickStages _ e t _) h
  panelOn h := settingsHeld_onBack (f := fun k => { k with on := true }) rfl h
  panelOff {s} h := by
    unfold State.backlightOff
    split
    · exact settingsHeld_onBack (s := s)
        (f := fun k => Backlight.dark (undriven s) { k with on := false })
        (SamePanelSettings.trans (b := { s.back with on := false }) rfl (sameSettings_dark _ _)) h
    · exact h
  applyCurve h := by
    unfold State.applyCurve
    split
    next hv => exact ⟨h.policy, h.supply, h.light,
      ⟨h.back.range, curveValid_stagedPoints h.back hv, h.back.slots⟩, h.motion, h.table⟩
    next => exact h
  setMode m h := settingsHeld_setMode m h
  setStimulus u h := settingsHeld_setStimulus u h
  takeFields sp c xs h := takeFields_of (P := SettingsHeld false false false) (W := SettingsWritten)
    (fun _ _ h => settingsHeld_congr h) (fun xs x bs ha h => settingsWritten_put xs x bs ha h)
    (fun xs hx h => settingsHeld_afterPuts xs (settingsHeld_of_structureOk hx h)) sp c xs h
  supply f e hf h := by
    obtain ⟨h1, h2, h3, h4, h5, h6, h7⟩ := hf.settings
    exact settingsHeld_congr h rfl (by simp [Supply.inRange, h1, h2, h3, h4, h5, h6, h7])
  filters _ _ h := settingsHeld_congr h
  tick h := ⟨h.policy, h.supply, light_inRange_congr rfl rfl rfl rfl h.light,
    ⟨h.back.range, h.back.working, h.back.slots⟩, ⟨h.motion.freeFallMg, h.motion.freeFallTime,
      h.motion.light, h.motion.hard, h.motion.severe, h.motion.order⟩, h.table⟩
  placed _ := settingsHeld_fullResetPlaced _
  atPowerOn s _ := ⟨policyHeld_defaults, supplyFresh_inRange, fresh_inRange s.store,
    panelSettings_fresh, motionHeld_fresh _, rfl⟩

end

/-- Settles O9: each WRITE clamps the values it stores and makes the structural checks of what it
wrote; nothing else changes a setting, and APPLY copies valid curves alone. -/
theorem stepKeepsSettingsSound : Obligations.StepKeepsSettingsSound := by
  unfold Obligations.StepKeepsSettingsSound
  intro s t hr hc ht hs
  rw [← settingsHeld_iff]
  exact blockSteps_settings.stepKept.step_keeps ((settingsHeld_iff s).mpr ⟨hr, hc, ht⟩) hs

end Sys2Proof.Proofs
end

section
/-!
PROOFS. The supply path (R78 to R86): what the re-evaluation reads, what it leaves, and that every
change of what it reads owes one.
-/

namespace Sys2Proof.Proofs
open Sys2Proof.Machine

/-! ### What the supply controller reads -/

/-- `z` is to the gates and the allowance what `y` is. -/
structure Bay.GateSame (y z : Bay) : Prop where
  state       : z.state = y.state
  role        : z.role = y.role
  charging    : z.charging = y.charging
  identity    : z.record.identity = y.record.identity
  voltage     : z.record.voltage = y.record.voltage
  temperature : z.record.temperature = y.record.temperature
  chargePct   : z.record.chargePct = y.record.chargePct
  depleted    : z.record.depleted = y.record.depleted
  chargeStop  : z.record.chargeStop = y.record.chargeStop
  suspect     : z.record.suspect = y.record.suspect

/-- `z` is to the supply controller what `y` is. -/
structure Bay.SupplySame (y z : Bay) : Prop extends Bay.GateSame y z where
  lastSupply  : z.reasons.lastSupply = y.reasons.lastSupply

/-- `v` is to the re-evaluation what `u` is: the state, the adapter, whether the bridge is available,
the settings of the power figures, and the figures. -/
structure Supply.PathSame (u v : Supply) : Prop where
  state         : v.state = u.state
  adapter       : v.adapter = u.adapter
  available     : v.available = u.available
  bridgePower   : v.bridgePower = u.bridgePower
  normalReserve : v.normalReserve = u.normalReserve
  bridgeReserve : v.bridgeReserve = u.bridgeReserve
  pAvail        : v.pAvail = u.pAvail
  pbl           : v.pbl = u.pbl

/-- `t` is to the supply controller what `s` is. -/
structure SupplySame (s t : State) : Prop where
  bays      : ∀ i, Bay.SupplySame (s.bay i) (t.bay i)
  supply    : Supply.PathSame s.supply t.supply
  admission : t.policy.admission = s.policy.admission
  lMax      : t.back.lMax = s.back.lMax
  q         : t.back.q = s.back.q

theorem Bay.SupplySame.refl (y : Bay) : Bay.SupplySame y y :=
  ⟨⟨rfl, rfl, rfl, rfl, rfl, rfl, rfl, rfl, rfl, rfl⟩, rfl⟩

theorem Supply.PathSame.refl (u : Supply) : Supply.PathSame u u :=
  ⟨rfl, rfl, rfl, rfl, rfl, rfl, rfl, rfl⟩

section
variable {y z : Bay} {u v : Supply} {p q : Policy} {s t : State}

theorem eligible_same (h : Bay.GateSame y z) : z.eligible = y.eligible := by
  simp only [Bay.eligible, h.state, h.depleted]

theorem keepsPath_same (h : Bay.GateSame y z) : z.keepsPath = y.keepsPath := by
  simp only [Bay.keepsPath, h.role, h.state]

theorem classLimits_same (hp : q.admission = p.admission)
    (hi : z.record.identity = y.record.identity) :
    classLimits q z.record = classLimits p y.record := by
  simp only [classLimits, Policy.classEntry, hp, hi]

theorem selectionVoltage_same (h : Bay.GateSame y z) :
    z.selectionVoltage = y.selectionVoltage := by
  simp only [Bay.selectionVoltage, h.voltage, h.identity]

theorem chargeCandidate_same (hp : q.admission = p.admission) (ha : v.adapter = u.adapter)
    (hs : v.state = u.state) (h : Bay.GateSame y z) :
    chargeCandidate q v z = chargeCandidate p u y := by
  simp only [chargeCandidate, classLimits_same hp h.identity, ha, hs, h.state, h.temperature,
    h.chargePct, h.chargeStop, h.suspect]

theorem contribution_same (hp : q.admission = p.admission) (h : Bay.GateSame y z) :
    z.contribution q = y.contribution p := by
  simp only [Bay.contribution, h.role, selectionVoltage_same h, classLimits_same hp h.identity]

theorem soleSupply_same (h : SupplySame s t) (i : BayId) : soleSupply t i = soleSupply s i := by
  simp only [soleSupply, (h.bays _).role, h.supply.adapter, h.supply.available, h.supply.state]

theorem availablePower_same (h : SupplySame s t) : availablePower t = availablePower s := by
  have ha : t.bays.a.contribution t.policy = s.bays.a.contribution s.policy :=
    contribution_same h.admission (h.bays .a).toGateSame
  have hb : t.bays.b.contribution t.policy = s.bays.b.contribution s.policy :=
    contribution_same h.admission (h.bays .b).toGateSame
  simp only [availablePower, h.supply.state, h.supply.adapter, h.supply.bridgePower, ha, hb]

/-- A bay's gates as the re-evaluation leaves them, but for LAST_SUPPLY (R79 to R83). -/
structure GatesSound (s : State) (i : BayId) : Prop where
  role      : (s.bay i).role ≠ .off → s.supply.state = .normal ∧ s.supply.adapter = none
  candidate : (s.bay i).role = .candidate → (s.bay i).eligible = true
  kept      : (s.bay i).role = .kept → (s.bay i).keepsPath = true
  charging  : (s.bay i).charging = true →
    (chargeCandidate s.policy s.supply (s.bay i)).isSome = true

theorem gatesSound_same (hp : t.policy.admission = s.policy.admission)
    (ha : t.supply.adapter = s.supply.adapter) (hs : t.supply.state = s.supply.state) {i : BayId}
    (hb : Bay.GateSame (s.bay i) (t.bay i)) (g : GatesSound s i) : GatesSound t i := by
  obtain ⟨h1, h2, h3, h4⟩ := g
  refine ⟨?_, ?_, ?_, ?_⟩
  · rwa [hb.role, hs, ha]
  · rwa [hb.role, eligible_same hb]
  · rwa [hb.role, keepsPath_same hb]
  · rwa [hb.charging, chargeCandidate_same hp ha hs hb]

theorem gateSound_same (h : SupplySame s t) {i : BayId} (g : s.GateSound i) : t.GateSound i := by
  obtain ⟨h1, h2, h3, h4⟩ := gatesSound_same h.admission h.supply.adapter h.supply.state
    (h.bays i).toGateSame ⟨g.role, g.candidate, g.kept, g.charging⟩
  exact ⟨h1, h2, h3, h4, by rw [(h.bays i).lastSupply, soleSupply_same h, g.lastSupply]⟩

/-- What the supply controller reads decides whether the supply path is current. -/
theorem supplyCurrent_same (h : SupplySame s t) (c : s.SupplyCurrent) : t.SupplyCurrent := by
  have ha : t.bays.a.charging = s.bays.a.charging := (h.bays .a).charging
  have hb : t.bays.b.charging = s.bays.b.charging := (h.bays .b).charging
  refine ⟨gateSound_same h c.a, gateSound_same h c.b, ?_, ?_, ?_⟩
  · rw [ha, hb, c.single]
  · rw [h.supply.pAvail, availablePower_same h, c.avail]
  · simp only [h.supply.pbl, h.supply.pAvail, Supply.reserve, h.supply.state,
      h.supply.bridgeReserve, h.supply.normalReserve, h.lMax, h.q]
    exact c.pbl

/-- A change of one bay that the supply controller does not read. -/
theorem supplySame_onBay {i : BayId} {f : Bay → Bay} (h : Bay.SupplySame (s.bay i) (f (s.bay i))) :
    SupplySame s (s.onBay i f) := by
  refine ⟨fun j => ?_, .refl _, rfl, rfl, rfl⟩
  rcases eq_or_ne j i with rfl | hne
  · simpa using h
  · simpa [State.onBay_bay_ne s hne f] using Bay.SupplySame.refl _

theorem SupplySame.trans {a b c : State} (h1 : SupplySame a b) (h2 : SupplySame b c) :
    SupplySame a c := by
  refine ⟨fun i => ?_, ?_, h2.admission.trans h1.admission, h2.lMax.trans h1.lMax, h2.q.trans h1.q⟩
  · obtain ⟨⟨a1, a2, a3, a4, a5, a6, a7, a8, a9, a10⟩, a11⟩ := h1.bays i
    obtain ⟨⟨b1, b2, b3, b4, b5, b6, b7, b8, b9, b10⟩, b11⟩ := h2.bays i
    exact ⟨⟨b1.trans a1, b2.trans a2, b3.trans a3, b4.trans a4, b5.trans a5, b6.trans a6,
      b7.trans a7, b8.trans a8, b9.trans a9, b10.trans a10⟩, b11.trans a11⟩
  · obtain ⟨a1, a2, a3, a4, a5, a6, a7, a8⟩ := h1.supply
    obtain ⟨b1, b2, b3, b4, b5, b6, b7, b8⟩ := h2.supply
    exact ⟨b1.trans a1, b2.trans a2, b3.trans a3, b4.trans a4, b5.trans a5, b6.trans a6,
      b7.trans a7, b8.trans a8⟩

/-- States alike in the bays, the supply controller, the admission table, L_max and Q. -/
theorem supplySame_of_eq (hb : t.bays = s.bays) (hs : t.supply = s.supply)
    (hp : t.policy.admission = s.policy.admission) (hl : t.back.lMax = s.back.lMax)
    (hq : t.back.q = s.back.q) : SupplySame s t :=
  ⟨fun i => by simpa only [State.bay, hb] using Bay.SupplySame.refl _, hs ▸ .refl _, hp, hl, hq⟩

theorem supplySame_syncPins (s : State) : SupplySame s s.syncPins := by
  refine ⟨fun i => ?_, by simpa using Supply.PathSame.refl _, by simp, by simp, by simp⟩
  obtain ⟨b, hb⟩ := syncPins_bay s i
  rw [hb]
  exact ⟨⟨rfl, rfl, rfl, rfl, rfl, rfl, rfl, rfl, rfl, rfl⟩, rfl⟩

theorem quiet_supplySame {y z : Bay} (h : Bay.Quiet y z) : Bay.SupplySame y z := by
  have hr := h.record
  refine ⟨⟨h.state, h.role, h.charging, ?_, ?_, ?_, ?_, ?_, ?_, ?_⟩, by rw [h.reasons]⟩ <;>
    rw [← hr]

/-- The latch follows its set, and of the set LAST_SUPPLY alone is the supply controller's. -/
theorem setReasons_supplySame (c : Bool) (r : LockReasons) (y : Bay)
    (h : r.lastSupply = y.reasons.lastSupply) : Bay.SupplySame y (y.setReasons c r) := by
  refine ⟨?_, by simp [h]⟩
  constructor <;> simp

end
end Sys2Proof.Proofs
end

section
/-!
PROOFS. The re-evaluation leaves the supply path current, from any state (R79 to R86).
-/

namespace Sys2Proof.Proofs
open Sys2Proof.Machine

section
variable {s t : State}

/-! ### Discharge roles (R79 to R81) -/

/-- The role that selection gives, for a bay that may have it. -/
theorem selectRole_sound (w v : Nat) (y : Bay) :
    (y.selectRole w v = .candidate → y.eligible = true) ∧
      (y.selectRole w v = .kept → y.keepsPath = true) := by
  unfold Bay.selectRole
  dsimp only
  (repeat' split) <;> simp_all

theorem selectDischarge_bay (s : State) (i : BayId) : s.selectDischarge.bay i =
    { s.bay i with
      role := if s.supply.state = .normal && s.supply.adapter.isNone then
        (s.bay i).selectRole s.supply.shareWindow (highestVoltage s.bays) else .off } := by
  unfold State.selectDischarge
  split <;> cases i <;> simp_all [State.bay]

/-! ### The charge role (R82, R83) -/

theorem selectCharge_bay (s : State) (i : BayId) : s.selectCharge.bay i =
    { s.bay i with
      charging := chargeChoice (chargeCandidate s.policy s.supply s.bays.a)
        (chargeCandidate s.policy s.supply s.bays.b) (chargingBay s.bays) == some i } := by
  unfold State.selectCharge
  cases i <;> simp [State.bay]

/-- The charge role goes to a charge candidate (R83). -/
theorem chargeChoice_isSome {a b : Option Nat} {before : Option BayId} {i : BayId}
    (h : chargeChoice a b before = some i) :
    (match i with | .a => a | .b => b).isSome = true := by
  unfold chargeChoice chargeAnew at h
  cases i <;> (repeat' split at h) <;> simp_all

/-! ### LAST_SUPPLY (R84) -/

/-- A bay whose solenoid pin has taken its level, unless the outputs are undriven (R168). -/
def pinned (u : Bool) (y : Bay) : Bay :=
  { y with solenoidPin := if u then y.solenoidPin else y.solenoid }

theorem syncPins_bay_eq (s : State) (i : BayId) :
    s.syncPins.bay i = pinned (undriven s) (s.bay i) := by
  unfold State.syncPins pinned
  split
  · simp
  · cases i <;> simp [State.bay]

theorem setReasons_bay (s : State) (i : BayId) (f : LockReasons → LockReasons) :
    (s.setReasons i f).bay i =
      pinned (undriven s)
        ((s.bay i).setReasons (s.lines.lockConfirm.get i) (f (s.bay i).reasons)) := by
  rw [State.setReasons, syncPins_bay_eq, State.onBay_bay]
  rfl

theorem setReasons_bay_ne (s : State) {i j : BayId} (h : j ≠ i) (f : LockReasons → LockReasons) :
    (s.setReasons i f).bay j = pinned (undriven s) (s.bay j) := by
  rw [State.setReasons, syncPins_bay_eq, State.onBay_bay_ne s h]
  rfl

/-- The latch does not look at its pin. -/
theorem setReasons_pinned (u c : Bool) (r : LockReasons) (y : Bay) :
    pinned u ((pinned u y).setReasons c r) = pinned u (y.setReasons c r) := by
  cases u
  · unfold Bay.setReasons Bay.setFilled Bay.setEmptied Bay.engage Bay.disengage pinned
    dsimp only
    (repeat' split) <;> simp_all
  · rfl

theorem pinned_pinned (u : Bool) (y : Bay) : pinned u (pinned u y) = pinned u y := by
  cases u <;> rfl

theorem undriven_setReasons (s : State) (i : BayId) (f : LockReasons → LockReasons) :
    undriven (s.setReasons i f) = undriven s := by simp [undriven]

theorem setLastSupply_bay (f : LockReasons → LockReasons) (s : State) (i : BayId) :
    (s.setLastSupply f).bay i = pinned (undriven s) ((s.bay i).setReasons
      (s.lines.lockConfirm.get i) { f (s.bay i).reasons with lastSupply := soleSupply s i }) := by
  unfold State.setLastSupply
  cases i
  · rw [setReasons_bay_ne _ (i := .b) (j := .a) (by decide), setReasons_bay,
      undriven_setReasons, pinned_pinned]
  · rw [setReasons_bay, setReasons_bay_ne _ (i := .a) (j := .b) (by decide),
      undriven_setReasons, setReasons_pinned]
    simp [pinned]

/-! ### The gates after steps 3 to 6 -/

/-- Steps 3 to 6 of the re-evaluation, on the supply state as it stands; `f`: what happens to the other
lock reasons (R79 to R86). -/
def gated (f : LockReasons → LockReasons) (s : State) : State :=
  ((s.selectDischarge.selectCharge).setLastSupply f).allowPower

theorem reevaluate_eq_gated (ev : SupplyEvent) (s : State) :
    s.reevaluate ev = gated id (s.supplyTransition ev) := rfl

theorem allowPower_bays (s : State) : s.allowPower.bays = s.bays := by simp

/-- The figures apart, the supply controller is as it was. -/
theorem allowPower_supply (s : State) : s.allowPower.supply =
    { s.supply with
      pAvail := availablePower s
      pbl := powerAllowance (availablePower s) s.supply.reserve s.back.lMax s.back.q } := by
  unfold State.allowPower
  dsimp only
  split <;> simp

theorem allowPower_lMax_q (s : State) :
    s.allowPower.back.lMax = s.back.lMax ∧ s.allowPower.back.q = s.back.q := by
  unfold State.allowPower
  dsimp only
  split
  · exact ⟨rfl, rfl⟩
  · obtain ⟨h1, h2, -⟩ := reclamp_panel (undriven s) { s.back with
      pbl := powerAllowance (availablePower s) s.supply.reserve s.back.lMax s.back.q }
    exact ⟨h1, h2⟩

theorem soleSupply_allowPower (s : State) (i : BayId) :
    soleSupply s.allowPower i = soleSupply s i := by
  simp only [soleSupply, State.bay, allowPower_bays, allowPower_supply, Supply.available]

theorem availablePower_allowPower (s : State) :
    availablePower s.allowPower = availablePower s := by
  simp only [availablePower, allowPower_bays, allowPower_supply, State.allowPower_frame]

/-- The gates after selection, before LAST_SUPPLY. -/
theorem gatesSound_selected (s : State) (i : BayId) :
    GatesSound s.selectDischarge.selectCharge i := by
  have hb : s.selectDischarge.selectCharge.bay i = _ := selectCharge_bay s.selectDischarge i
  have hd : s.selectDischarge.bay i = _ := selectDischarge_bay s i
  have hs : s.selectDischarge.selectCharge.supply = s.supply := by simp
  have hrole : (s.selectDischarge.selectCharge.bay i).role ≠ .off →
      s.supply.state = .normal ∧ s.supply.adapter = none ∧
      (s.selectDischarge.selectCharge.bay i).role =
        (s.bay i).selectRole s.supply.shareWindow (highestVoltage s.bays) := by
    rw [hb, hd]
    dsimp only
    split
    next h => simp_all
    next h => simp
  have hsound := selectRole_sound s.supply.shareWindow (highestVoltage s.bays) (s.bay i)
  refine ⟨fun h => ?_, fun h => ?_, fun h => ?_, fun h => ?_⟩
  · rw [hs]
    exact ⟨(hrole h).1, (hrole h).2.1⟩
  · have he := hsound.1 ((hrole (by simp [h])).2.2.symm.trans h)
    rw [hb, hd]
    exact he
  · have he := hsound.2 ((hrole (by simp [h])).2.2.symm.trans h)
    have hst : (s.selectDischarge.selectCharge.bay i).state = (s.bay i).state := by rw [hb, hd]
    simp only [Bay.keepsPath, Bool.and_eq_true, beq_iff_eq] at he ⊢
    exact ⟨h, hst ▸ he.2⟩
  · rw [hb] at h
    have hc := chargeChoice_isSome (eq_of_beq h)
    have e : chargeCandidate s.selectDischarge.selectCharge.policy
        s.selectDischarge.selectCharge.supply (s.selectDischarge.selectCharge.bay i) =
        chargeCandidate s.selectDischarge.policy s.selectDischarge.supply
          (s.selectDischarge.bay i) := by
      rw [hb]
      simp [chargeCandidate]
    rw [e]
    cases i <;> exact hc

/-- Setting LAST_SUPPLY moves the latches and nothing of the gates. -/
theorem gateSame_setLastSupply (f : LockReasons → LockReasons) (s : State) (i : BayId) :
    Bay.GateSame (s.bay i) ((s.setLastSupply f).bay i) := by
  rw [setLastSupply_bay]
  constructor <;> simp [pinned]

theorem setLastSupply_lastSupply (f : LockReasons → LockReasons) (s : State) (i : BayId) :
    ((s.setLastSupply f).bay i).reasons.lastSupply = soleSupply s i := by
  rw [setLastSupply_bay]
  simp [pinned]

theorem soleSupply_setLastSupply (f : LockReasons → LockReasons) (s : State) (i : BayId) :
    soleSupply (s.setLastSupply f) i = soleSupply s i := by
  simp only [soleSupply, (gateSame_setLastSupply f s _).role]
  simp

/-- Steps 3 to 6 leave the supply path current, from any state. -/
theorem supplyCurrent_gated (f : LockReasons → LockReasons) (s : State) :
    (gated f s).SupplyCurrent := by
  have hb (i : BayId) : (gated f s).bay i =
      (s.selectDischarge.selectCharge.setLastSupply f).bay i := by
    simp only [State.bay, gated, allowPower_bays]
  have hsup : (gated f s).supply = _ := allowPower_supply
    (s.selectDischarge.selectCharge.setLastSupply f)
  have hs : (gated f s).supply.state = s.selectDischarge.selectCharge.supply.state := by
    rw [hsup]
    simp
  have ha : (gated f s).supply.adapter = s.selectDischarge.selectCharge.supply.adapter := by
    rw [hsup]
    simp
  have hp : (gated f s).policy = s.selectDischarge.selectCharge.policy := by simp [gated]
  have hsole (i : BayId) : soleSupply (gated f s) i =
      soleSupply s.selectDischarge.selectCharge i := by
    rw [gated, soleSupply_allowPower, soleSupply_setLastSupply]
  have gate (i : BayId) : (gated f s).GateSound i := by
    obtain ⟨h1, h2, h3, h4⟩ := gatesSound_same (t := gated f s) (by rw [hp]) ha hs
      (by rw [hb]; exact gateSame_setLastSupply f _ i) (gatesSound_selected s i)
    exact ⟨h1, h2, h3, h4, by rw [hb, setLastSupply_lastSupply, hsole]⟩
  have hc (i : BayId) : ((gated f s).bay i).charging =
      (s.selectDischarge.selectCharge.bay i).charging := by
    rw [hb]
    exact (gateSame_setLastSupply f _ i).charging
  refine ⟨gate .a, gate .b, ?_, ?_, ?_⟩
  · change (((gated f s).bay .a).charging && ((gated f s).bay .b).charging) = false
    rw [hc, hc, selectCharge_bay, selectCharge_bay]
    cases chargeChoice (chargeCandidate s.selectDischarge.policy s.selectDischarge.supply
      s.selectDischarge.bays.a) (chargeCandidate s.selectDischarge.policy
      s.selectDischarge.supply s.selectDischarge.bays.b) (chargingBay s.selectDischarge.bays) with
    | none => rfl
    | some j => cases j <;> rfl
  · rw [hsup, gated, availablePower_allowPower]
  · obtain ⟨h1, h2⟩ := allowPower_lMax_q (s.selectDischarge.selectCharge.setLastSupply f)
    rw [hsup]
    simp only [gated, h1, h2, Supply.reserve]

end
end Sys2Proof.Proofs
end

section
/-!
PROOFS. Every change of what the supply controller reads owes a re-evaluation, and the end of the event
takes it (R78; log 9).
-/

namespace Sys2Proof.Proofs
open Sys2Proof.Machine

/-- Within an event: a re-evaluation is owed, or the supply path is current (R78). -/
def OwedOrCurrent (s : State) : Prop := s.due.isSome = true ∨ s.SupplyCurrent

section
variable {s t : State}

theorem owedOrCurrent_same (hd : t.due = s.due) (h : SupplySame s t) (c : OwedOrCurrent s) :
    OwedOrCurrent t :=
  c.imp (fun c => hd ▸ c) (supplyCurrent_same h)

theorem owe_isSome (s : State) (e : SupplyEvent) : (s.owe e).due.isSome = true := by
  rw [State.owe_due]
  (repeat' split) <;> rfl

theorem moveBay_isSome (s : State) (i : BayId) (n : BayState) :
    (s.moveBay i n).due.isSome = true := by
  unfold State.moveBay
  dsimp only
  split
  · exact owe_isSome _ _
  · exact owe_isSome _ _

/-- A current EMPTY bay has no gate open (R79 to R83). -/
theorem gates_off {i : BayId} (g : s.GateSound i) (he : (s.bay i).state = .empty) :
    (s.bay i).role = .off ∧ (s.bay i).charging = false := by
  constructor
  · cases hr : (s.bay i).role with
    | off => rfl
    | candidate => simpa [Bay.eligible, he] using g.candidate hr
    | kept => simpa [Bay.keepsPath, he] using g.kept hr
  · by_contra hc
    have := g.charging (by simpa using hc)
    simp [chargeCandidate, he] at this

/-- A bay that has no gate open may lose its record. -/
theorem supplyCurrent_cleared {i : BayId} (he : (s.bay i).state = .empty) (c : s.SupplyCurrent) :
    (s.onBay i Bay.cleared).SupplyCurrent := by
  have gate (j : BayId) : s.GateSound j := by
    cases j
    · exact c.a
    · exact c.b
  obtain ⟨hr, hc⟩ := gates_off (gate i) he
  have hbay (j : BayId) : ((s.onBay i Bay.cleared).bay j).role = (s.bay j).role ∧
      ((s.onBay i Bay.cleared).bay j).charging = (s.bay j).charging ∧
      ((s.onBay i Bay.cleared).bay j).reasons = (s.bay j).reasons := by
    rcases eq_or_ne j i with rfl | hne
    · simp [Bay.cleared]
    · simp [State.onBay_bay_ne s hne]
  have hsole (j : BayId) : soleSupply (s.onBay i Bay.cleared) j = soleSupply s j := by
    simp only [soleSupply, hbay, State.onBay_frame]
  have gate' (j : BayId) : (s.onBay i Bay.cleared).GateSound j := by
    rcases eq_or_ne j i with rfl | hne
    · have hr' := (hbay j).1.trans hr
      have hc' := (hbay j).2.1.trans hc
      refine ⟨fun h => absurd hr' h, fun h => ?_, fun h => ?_, fun h => ?_, ?_⟩
      · rw [hr'] at h
        cases h
      · rw [hr'] at h
        cases h
      · rw [hc'] at h
        cases h
      · rw [(hbay j).2.2, hsole, (gate j).lastSupply]
    · have e := State.onBay_bay_ne s hne Bay.cleared
      obtain ⟨h1, h2, h3, h4, h5⟩ := gate j
      exact ⟨by rw [e]; exact h1, by rw [e]; exact h2, by rw [e]; exact h3, by rw [e]; exact h4,
        by rw [e, hsole]; exact h5⟩
  have hcon (j : BayId) : ((s.onBay i Bay.cleared).bay j).contribution s.policy =
      (s.bay j).contribution s.policy := by
    rcases eq_or_ne j i with rfl | hne
    · simp [Bay.contribution, Bay.cleared, hr]
    · rw [State.onBay_bay_ne s hne]
  refine ⟨gate' .a, gate' .b, ?_, ?_, c.pbl⟩
  · have h1 := (hbay .a).2.1
    have h2 := (hbay .b).2.1
    exact (congrArg₂ _ h1 h2).trans c.single
  · have h1 : (s.onBay i Bay.cleared).bays.a.contribution s.policy = _ := hcon .a
    have h2 : (s.onBay i Bay.cleared).bays.b.contribution s.policy = _ := hcon .b
    have e : availablePower (s.onBay i Bay.cleared) = availablePower s := by
      simp only [availablePower, State.onBay_frame, h1, h2]
      rfl
    rw [e]
    exact c.avail

/-- A record write that owes nothing wrote what the supply controller does not read (R78). -/
theorem writeRecord_supplySame {i : BayId} {f : SnoopField} (v : Nat) (hf : f.owes = false)
    (hm : marksDiffer (s.bay i).record ((s.bay i).record.writeField s.uptime v f) = false) :
    SupplySame s (s.onRecord i fun _ => (s.bay i).record.writeField s.uptime v f) := by
  refine supplySame_onBay ?_
  simp only [marksDiffer, Bool.or_eq_false_iff, bne_eq_false_iff_eq] at hm
  obtain ⟨⟨h1, h2⟩, h3⟩ := hm
  refine ⟨⟨rfl, rfl, rfl, ?_, ?_, ?_, ?_, h1.symm, h2.symm, h3.symm⟩, rfl⟩ <;>
    cases f <;> first | rfl | cases hf

/-- SUSPECT taken owes where a mark changed, and leaves all else that the supply controller reads. -/
theorem takeSuspect_owed (s : State) : (s.takeSuspect.due = s.due ∧ SupplySame s s.takeSuspect) ∨
    s.takeSuspect.due.isSome = true := by
  have mark {y : Bay} (h : (Bay.markSuspect y).record.suspect = y.record.suspect) :
      Bay.SupplySame y (Bay.markSuspect y) := by
    unfold Bay.markSuspect at h ⊢
    split
    next hc =>
      rw [if_pos hc] at h
      exact ⟨⟨rfl, rfl, rfl, rfl, rfl, rfl, rfl, rfl, rfl, h⟩, rfl⟩
    next => exact .refl _
  unfold State.takeSuspect
  dsimp only
  split
  · exact .inr (owe_isSome _ _)
  next hs =>
    obtain ⟨ha, hb⟩ : (Bay.markSuspect (s.bay .a)).record.suspect = (s.bay .a).record.suspect ∧
        (Bay.markSuspect (s.bay .b)).record.suspect = (s.bay .b).record.suspect := by
      simpa [State.bay] using hs
    have hb' : Bay.SupplySame ((s.onBay .a Bay.markSuspect).bay .b)
        (Bay.markSuspect ((s.onBay .a Bay.markSuspect).bay .b)) := by
      rw [State.onBay_bay_ne s (by decide)]
      exact mark hb
    exact .inl ⟨rfl, (supplySame_onBay (mark ha)).trans (supplySame_onBay hb')⟩

theorem kept_owed : Kept OwedOrCurrent where
  link _ := owedOrCurrent_same (by simp) (supplySame_of_eq rfl rfl rfl rfl rfl)
  flags _ := owedOrCurrent_same (by simp) (supplySame_of_eq rfl rfl rfl rfl rfl)
  lines _ := owedOrCurrent_same (by simp) (supplySame_of_eq rfl rfl rfl rfl rfl)
  choice := owedOrCurrent_same (by simp) (supplySame_of_eq rfl rfl rfl rfl rfl)
  holdMask _ := owedOrCurrent_same (by simp) (supplySame_of_eq rfl rfl rfl rfl rfl)
  wake _ := owedOrCurrent_same (by simp) (supplySame_of_eq rfl rfl rfl rfl rfl)
  owe _ _ := .inl (owe_isSome _ _)
  pins := owedOrCurrent_same (by simp) (supplySame_syncPins _)
  reasons i f hf := owedOrCurrent_same (by simp) ((supplySame_onBay
    (setReasons_supplySame _ _ _ (hf _))).trans (supplySame_syncPins _))
  bay i f hq := owedOrCurrent_same (by simp) (supplySame_onBay (quiet_supplySame hq))
  move i n _ _ _ _ := .inl (moveBay_isSome _ _ _)
  seat i _ _ := .inl (moveBay_isSome _ _ _)
  vacate i f _ := .inl (moveBay_isSome _ _ _)
  clear i he h := h.imp (fun h => h) (supplyCurrent_cleared he)
  identify i _ := .inl (moveBay_isSome _ _ _)
  writeRecord {s} i f v _ h := by
    unfold State.writeRecord
    dsimp only
    split
    · exact .inl (owe_isSome _ _)
    next ho =>
      obtain ⟨hf, hm⟩ : f.owes = false ∧ marksDiffer (s.bay i).record
          ((s.bay i).record.writeField s.uptime v f) = false := by simpa using ho
      exact owedOrCurrent_same (by simp) (writeRecord_supplySame v hf hm) h
  identity _ _ _ _ := .inl (owe_isSome _ _)
  suspect {s} h := by
    obtain ⟨hd, hs⟩ | hd := takeSuspect_owed s
    · exact owedOrCurrent_same hd hs h
    · exact .inl hd
  drop _ _ _ := owedOrCurrent_same (by simp) (supplySame_of_eq rfl rfl rfl rfl rfl)
  park {s} f _ := owedOrCurrent_same (by simp)
    (SupplySame.trans (b := s.onDrop f) (supplySame_of_eq rfl rfl rfl rfl rfl)
      (supplySame_syncPins _))
  join _ _ := owedOrCurrent_same (by simp) (supplySame_of_eq rfl rfl rfl rfl rfl)

end
end Sys2Proof.Proofs
end

section
/-!
PROOFS. The supply path through every step (R78 to R86), and that no command leaves a re-evaluation
owed (log 9).
-/

namespace Sys2Proof.Proofs
open Sys2Proof.Machine

section
variable {s t : State}

/-! ### Deferred trips at the end of an event (R53) -/

theorem settleSilent_bays (s : State) (i : BayId) :
    (s.settleSilent i).bays = (s.onTraffic i Traffic.settled).bays := by
  simp [State.settleSilent]

theorem settleSilent_due (s : State) (i : BayId) : (s.settleSilent i).due = s.due := by
  simp [State.settleSilent]

theorem takeTrip_isSome (s : State) (i : BayId) : (s.takeTrip i).due.isSome = true := by
  rw [State.takeTrip, settleSilent_due]
  exact moveBay_isSome _ _ _

/-- A bay after its move: its entry to the state, then the pins (R39, R168). -/
theorem moveBay_bay (s : State) (i : BayId) (n : BayState) : (s.moveBay i n).bay i =
    pinned (undriven s) (Bay.enter s.policy s.ctl.mode (s.lines.lockConfirm.get i) n (s.bay i)) := by
  have h : (s.moveBay i n).bay i = _ := congrArg (Both.get · i) (moveBay_bays s i n)
  have := syncPins_bay_eq
    (s.onBay i (Bay.enter s.policy s.ctl.mode (s.lines.lockConfirm.get i) n)) i
  rw [State.onBay_bay] at this
  exact h.trans this

theorem moveBay_bay_ne (s : State) {i j : BayId} (hj : j ≠ i) (n : BayState) :
    (s.moveBay i n).bay j = pinned (undriven s) (s.bay j) := by
  have h : (s.moveBay i n).bay j = _ := congrArg (Both.get · j) (moveBay_bays s i n)
  have := syncPins_bay_eq
    (s.onBay i (Bay.enter s.policy s.ctl.mode (s.lines.lockConfirm.get i) n)) j
  rw [State.onBay_bay_ne s hj] at this
  exact h.trans this

theorem settleSilent_bay (s : State) (i : BayId) : (s.settleSilent i).bay i =
    { s.bay i with traffic := (s.bay i).traffic.settled } := by
  have h : (s.settleSilent i).bay i = _ := congrArg (Both.get · i) (settleSilent_bays s i)
  rw [h]
  cases i <;> rfl

theorem settleSilent_bay_ne (s : State) {i j : BayId} (hj : j ≠ i) :
    (s.settleSilent i).bay j = s.bay j := by
  have h : (s.settleSilent i).bay j = _ := congrArg (Both.get · j) (settleSilent_bays s i)
  rw [h]
  exact State.onBay_bay_ne s hj _

theorem takeTrip_tripDeferred (s : State) (i : BayId) :
    ((s.takeTrip i).bay i).tripDeferred = false := by
  rw [State.takeTrip, settleSilent_bay, moveBay_bay, State.onBay_bay]
  simp [pinned]

theorem takeTrip_tripDeferred_ne (s : State) {i j : BayId} (hj : j ≠ i) :
    ((s.takeTrip i).bay j).tripDeferred = (s.bay j).tripDeferred := by
  rw [State.takeTrip, settleSilent_bay_ne _ hj, moveBay_bay_ne _ hj, State.onBay_bay_ne _ hj]
  rfl

/-- The bays with a deferred trip. -/
def deferred (s : State) : Nat :=
  (s.bay .a).tripDeferred.toNat + (s.bay .b).tripDeferred.toNat

theorem deferred_le (s : State) : deferred s ≤ 2 := by
  have h1 := Bool.toNat_le (s.bay .a).tripDeferred
  have h2 := Bool.toNat_le (s.bay .b).tripDeferred
  simp only [deferred]
  omega

/-- The end of a deferral does nothing, or leaves one deferred trip fewer and owes a re-evaluation. -/
theorem endDeferral_deferred (s : State) (i : BayId) : s.endDeferral i = s ∨
    ((s.endDeferral i).due.isSome = true ∧ deferred (s.endDeferral i) < deferred s) := by
  unfold State.endDeferral
  split
  next h =>
    have ht : (s.bay i).tripDeferred = true := by simp_all
    refine .inr ⟨takeTrip_isSome s i, ?_⟩
    have h1 := takeTrip_tripDeferred s i
    cases i
    · have h2 := takeTrip_tripDeferred_ne s (i := .a) (j := .b) (by decide)
      simp only [deferred, h1, h2, ht, Bool.toNat_true, Bool.toNat_false]
      omega
    · have h2 := takeTrip_tripDeferred_ne s (i := .b) (j := .a) (by decide)
      simp only [deferred, h1, h2, ht, Bool.toNat_true, Bool.toNat_false]
      omega
  next => exact .inl rfl

/-- The gates of a bay after selection: its role and whether it charges, and nothing else. -/
theorem selected_bay (s : State) (i : BayId) : s.selectDischarge.selectCharge.bay i =
    { s.bay i with role := (s.selectDischarge.bay i).role,
                   charging := (s.selectDischarge.selectCharge.bay i).charging } := by
  rw [selectCharge_bay, selectDischarge_bay]

/-- What a re-evaluation changes of a bay: the gates, LAST_SUPPLY with the latch, and its pin. -/
theorem gated_bay (f : LockReasons → LockReasons) (s : State) (i : BayId) :
    (gated f s).bay i = pinned (undriven s) (({ s.bay i with
        role := (s.selectDischarge.bay i).role,
        charging := (s.selectDischarge.selectCharge.bay i).charging } : Bay).setReasons
      (s.lines.lockConfirm.get i)
      { f (s.bay i).reasons with lastSupply := soleSupply s.selectDischarge.selectCharge i }) := by
  have h : (gated f s).bay i = (s.selectDischarge.selectCharge.setLastSupply f).bay i := by
    simp only [State.bay, gated, allowPower_bays]
  rw [h, setLastSupply_bay, ← selected_bay]
  have hr : (s.selectDischarge.selectCharge.bay i).reasons = (s.bay i).reasons := by
    rw [selected_bay]
  simp only [undriven, State.selectDischarge_frame, State.selectCharge_frame, hr]

theorem reevaluate_tripDeferred (ev : SupplyEvent) (s : State) (i : BayId) :
    ((s.reevaluate ev).bay i).tripDeferred = (s.bay i).tripDeferred := by
  rw [reevaluate_eq_gated, gated_bay]
  simp [pinned, State.bay]

theorem deferred_reevaluate (ev : SupplyEvent) (s : State) :
    deferred (s.reevaluate ev) = deferred s := by
  simp only [deferred, reevaluate_tripDeferred]

/-- Every round but the last takes a deferred trip, of which there are two at most (log 9). -/
theorem supplyCurrent_closeEventIn (n : Nat) (h : OwedOrCurrent s)
    (hn : s.due = none ∨ deferred s < n) : (s.closeEventIn n).SupplyCurrent := by
  induction n generalizing s with
  | zero =>
    have hd : s.due = none := hn.resolve_right (Nat.not_lt_zero _)
    exact supplyCurrent_same (s := s) (supplySame_of_eq rfl rfl rfl rfl rfl)
      (h.resolve_left (by simp [hd]))
  | succ n ih =>
    unfold State.closeEventIn
    split
    next hd => exact h.resolve_left (by simp [hd])
    next ev hd =>
      have hlt : deferred s < n + 1 := hn.resolve_left (by simp [hd])
      have h1 : (s.settled.reevaluate ev).due = none := by simp
      have c1 : (s.settled.reevaluate ev).SupplyCurrent := supplyCurrent_gated id _
      have d1 : deferred (s.settled.reevaluate ev) = deferred s := deferred_reevaluate ev _
      have c2 := kept_owed.endDeferral .a (.inr c1)
      have c3 := kept_owed.endDeferral .b c2
      refine ih c3 ?_
      obtain ha | ⟨-, ha⟩ := endDeferral_deferred (s.settled.reevaluate ev) .a
      · rw [ha]
        obtain hb | ⟨-, hb⟩ := endDeferral_deferred (s.settled.reevaluate ev) .b
        · exact .inl (hb.symm ▸ h1)
        · exact .inr (by omega)
      · obtain hb | ⟨-, hb⟩ := endDeferral_deferred ((s.settled.reevaluate ev).endDeferral .a) .b
        · exact .inr (by rw [hb]; omega)
        · exact .inr (by omega)

theorem supplyCurrent_closeEvent (h : OwedOrCurrent s) : s.closeEvent.SupplyCurrent :=
  supplyCurrent_closeEventIn 3 h (.inr (by have := deferred_le s; omega))

/-! ### The blocks' own changes -/

theorem owed_onSupply {f : Supply → Supply} (hf : Supply.PathSame s.supply (f s.supply))
    (h : OwedOrCurrent s) : OwedOrCurrent (s.onSupply f) :=
  owedOrCurrent_same (s := s) rfl ⟨fun _ => .refl _, hf, rfl, rfl, rfl⟩ h

theorem owed_onBack {f : Backlight → Backlight} (hl : (f s.back).lMax = s.back.lMax)
    (hq : (f s.back).q = s.back.q) (h : OwedOrCurrent s) : OwedOrCurrent (s.onBack f) :=
  owedOrCurrent_same (s := s) rfl ⟨fun _ => .refl _, .refl _, rfl, hl, hq⟩ h

theorem lMax_q_of_sameSettings {k k' : Backlight} (e : SamePanelSettings k k') :
    k'.lMax = k.lMax ∧ k'.q = k.q := by
  rw [← e]
  exact ⟨rfl, rfl⟩

theorem owed_panel {f : Backlight → Backlight} (e : SamePanelSettings s.back (f s.back))
    (h : OwedOrCurrent s) : OwedOrCurrent (s.onBack f) :=
  owed_onBack (lMax_q_of_sameSettings e).1 (lMax_q_of_sameSettings e).2 h

/-- A state alike in the bays, the supply controller, the admission table, L_max, Q and what is
owed. -/
theorem owed_of_eq (h : OwedOrCurrent s) (hd : t.due = s.due := by rfl)
    (hb : t.bays = s.bays := by rfl) (hs : t.supply = s.supply := by rfl)
    (hp : t.policy.admission = s.policy.admission := by rfl)
    (hl : t.back.lMax = s.back.lMax := by rfl) (hq : t.back.q = s.back.q := by rfl) :
    OwedOrCurrent t :=
  owedOrCurrent_same hd (supplySame_of_eq hb hs hp hl hq) h

theorem owed_setMode (m : PartMode) (h : OwedOrCurrent s) : OwedOrCurrent (s.setMode m) := by
  by_cases hm : s.ctl.mode = m
  · subst hm
    rwa [setMode_same]
  have hback : SamePanelSettings s.back (s.setMode m).back := by
    rw [setMode_back hm]
    unfold State.backMode
    (repeat' split)
    · rfl
    · exact sameSettings_leaveActive _ _
    · rfl
  obtain ⟨hl, hq⟩ := lMax_q_of_sameSettings hback
  refine owedOrCurrent_same (by simp) ⟨fun i => ?_, by simpa using Supply.PathSame.refl _,
    by simp, hl, hq⟩ h
  rw [setMode_bay hm]
  exact quiet_supplySame (quiet_modeChanged _ _ _ _)

theorem owed_setStimulus (u : Streams) (h : OwedOrCurrent s) : OwedOrCurrent (s.setStimulus u) := by
  unfold State.setStimulus
  refine owed_panel (sameSettings_send _ _) (kept_owed.pins ?_)
  split <;> exact owed_of_eq h

/-- A written setting owes what it changes for the supply controller, but for L_max and Q, which wait
for the end of the WRITE (R78, R86). -/
theorem owed_put {x : Setting} (hl : x ≠ .lMax) (hq : x ≠ .q) (bs : List Byte)
    (h : OwedOrCurrent s) : OwedOrCurrent (x.put bs s) := by
  cases x
  case lMax => contradiction
  case q => contradiction
  case lockoutLimit i => exact kept_owed.lockoutLimitWritten i (owed_of_eq h)
  case stream st =>
    exact owed_of_eq (t := s.writeStream st _ _) h (by simp) (by simp) (by simp) (by simp)
      (by simp) (by simp)
  case stimulus => exact owed_setStimulus _ h
  case admission | hold | readyThreshold | bridgeLimit | saveWindow | bridgePower | normalReserve
      | bridgeReserve | shareWindow => exact .inl (owe_isSome _ _)
  all_goals exact owed_of_eq h

theorem owed_closeEvent (h : OwedOrCurrent s) : OwedOrCurrent s.closeEvent :=
  .inr (supplyCurrent_closeEvent h)

/-- A write of L_max or Q is an event of the re-evaluation (R86). -/
theorem owed_panelWritten (b : Bool) (s : State) : OwedOrCurrent (s.panelWritten b) := by
  have first := owed_closeEvent (s := (s.onBack (Backlight.ownWrite (undriven s) b)).owe .other)
    (.inl (owe_isSome _ _))
  have second := owed_panel (sameSettings_ownWrite (undriven s) b _)
    (owed_closeEvent (s := s.owe .other) (.inl (owe_isSome _ _)))
  unfold State.panelWritten
  dsimp only
  (repeat' split)
  · exact first
  · exact owed_of_eq first
  · exact owed_of_eq second

theorem owed_takeFields (sp : Space) (c : Half) (xs : List (Setting × List Byte))
    (h : OwedOrCurrent s) : OwedOrCurrent (s.takeFields sp c xs).1 := by
  refine takeFields_of (P := OwedOrCurrent)
    (W := fun xs s => xs.contains .lMax = false → xs.contains .q = false → OwedOrCurrent s)
    (fun _ _ h _ _ => owed_of_eq h) (fun {s} xs x bs _ hw hl hq => ?_) (fun {s} xs _ hw => ?_) sp c xs h
  · have hxl : x ≠ .lMax := by
      rintro rfl
      simp at hl
    have hxq : x ≠ .q := by
      rintro rfl
      simp at hq
    rw [contains_append_ne hxl] at hl
    rw [contains_append_ne hxq] at hq
    exact owed_put hxl hxq bs (hw hl hq)
  · unfold State.afterPuts
    split
    · exact owed_panelWritten _ _
    next hx =>
      obtain ⟨h1, h2⟩ : xs.contains .lMax = false ∧ xs.contains .q = false := by simpa using hx
      exact hw h1 h2

/-- A full reset computes roles, LAST_SUPPLY and the allowance anew (R92). -/
theorem supplyCurrent_fullResetPlaced (s : State) : (fullResetPlaced s).SupplyCurrent := by
  have left {s : State} (i : BayId) (o : BayState) : SupplySame s (s.leftReleasing i o) := by
    unfold State.leftReleasing
    split
    · refine (supplySame_onBay ?_).trans (supplySame_syncPins _)
      unfold Bay.afterReleasing Bay.engage
      (repeat' split) <;> exact ⟨⟨rfl, rfl, rfl, rfl, rfl, rfl, rfl, rfl, rfl, rfl⟩, rfl⟩
    · exact supplySame_of_eq rfl rfl rfl rfl rfl
  have h0 : s.fullResetBlocks.fullResetSupply.SupplyCurrent := supplyCurrent_gated _ _
  have h1 := supplyCurrent_same (left .b s.bays.b.state)
    (supplyCurrent_same (left .a s.bays.a.state) h0)
  obtain ⟨hl, hq⟩ := lMax_q_of_sameSettings (sameSettings_ownWrite false true
    ((s.fullResetBlocks.fullResetSupply.leftReleasing .a s.bays.a.state).leftReleasing .b
      s.bays.b.state).back)
  exact supplyCurrent_same (s := (s.fullResetBlocks.fullResetSupply.leftReleasing .a
    s.bays.a.state).leftReleasing .b s.bays.b.state)
    ⟨fun _ => .refl _, .refl _, rfl, hl, hq⟩ h1

/-- A change of a latch that leaves the set and the gates. -/
theorem owed_latch {i : BayId} {f : Bay → Bay} (hf : Bay.SupplySame (s.bay i) (f (s.bay i)))
    (h : OwedOrCurrent s) : OwedOrCurrent (s.onBay i f).syncPins :=
  owedOrCurrent_same (by simp) ((supplySame_onBay hf).trans (supplySame_syncPins _)) h

theorem supplySame_confirm (y : Bay) :
    Bay.SupplySame y y.confirmRose ∧ Bay.SupplySame y y.confirmFell := by
  unfold Bay.confirmRose Bay.confirmFell
  constructor <;> (repeat' split) <;>
    exact ⟨⟨rfl, rfl, rfl, rfl, rfl, rfl, rfl, rfl, rfl, rfl⟩, rfl⟩

/-- At power-on no gate is open and there is no power to allow. -/
theorem supplyCurrent_atPowerOn (l : Lines) (st : TrimStore) (q : List Instr) (c : Nat) :
    State.SupplyCurrent { State.atPowerOn l st with pending := q, choice := c } := by
  have gate (i : BayId) :
      State.GateSound { State.atPowerOn l st with pending := q, choice := c } i := by
    cases i <;> exact ⟨fun h => absurd rfl h, nofun, nofun, nofun, rfl⟩
  have hp : 0 = powerAllowance 0 Supply.fresh.reserve Backlight.fresh.lMax Backlight.fresh.q := by
    decide
  exact ⟨gate .a, gate .b, rfl, rfl, hp⟩

theorem stepKept_owed : StepKept OwedOrCurrent where
  toKept := kept_owed
  pending _ h := owed_of_eq h
  closeEvent h := owed_closeEvent h
  ctl _ _ _ h := owed_of_eq h
  motion _ _ h := owed_of_eq h
  returnToCalm h := kept_owed.returnToCalm_of (fun h => owed_of_eq h) (fun h => owed_of_eq h) h
  light _ _ h := owed_of_eq h
  streams _ _ _ _ h := owed_of_eq h
  brightness e th _ h := owed_panel (sameSettings_tickStages _ e th _) h
  panelOn h := owed_of_eq h
  panelOff {s} h := by
    unfold State.backlightOff
    split
    · exact owed_panel (s := s) (f := fun k => Backlight.dark (undriven s) { k with on := false })
        (SamePanelSettings.trans (b := { s.back with on := false }) rfl (sameSettings_dark _ _)) h
    · exact h
  applyCurve h := by
    unfold State.applyCurve
    split
    · exact owed_of_eq h
    · exact h
  forget h := owed_of_eq h
  clearSuspect {s} i h := by
    unfold State.clearSuspect
    dsimp only [done]
    split
    · exact .inl (owe_isSome _ _)
    next hs =>
      refine owedOrCurrent_same (s := s) rfl (supplySame_onBay (s := s) (i := i)
        (f := fun y => { y with record := { y.record with suspect := false } }) ?_) h
      exact ⟨⟨rfl, rfl, rfl, rfl, rfl, rfl, rfl, rfl, rfl, by simpa using hs⟩, rfl⟩
  setMode m h := owed_setMode m h
  setStimulus u h := owed_setStimulus u h
  takeFields sp c xs h := owed_takeFields sp c xs h
  supply _ _ _ _ := .inl (owe_isSome _ _)
  filters _ _ h := owed_onSupply ⟨rfl, rfl, rfl, rfl, rfl, rfl, rfl, rfl⟩ h
  confirmRose i h := owed_latch (supplySame_confirm _).1 h
  confirmFell i h := owed_latch (supplySame_confirm _).2 h
  engageLimit i _ h := owed_latch ⟨⟨rfl, rfl, rfl, rfl, rfl, rfl, rfl, rfl, rfl, rfl⟩, rfl⟩ h
  releaseLimit i _ h := owed_latch ⟨⟨rfl, rfl, rfl, rfl, rfl, rfl, rfl, rfl, rfl, rfl⟩, rfl⟩ h
  tick {s} h := by
    refine owedOrCurrent_same (s := s) rfl ⟨fun i => ?_, ⟨rfl, rfl, rfl, rfl, rfl, rfl, rfl, rfl⟩,
      rfl, rfl, rfl⟩ h
    cases i <;> exact ⟨⟨rfl, rfl, rfl, rfl, rfl, rfl, rfl, rfl, rfl, rfl⟩, rfl⟩
  placed _ := .inr (supplyCurrent_fullResetPlaced _)
  atPowerOn s _ := .inr (supplyCurrent_atPowerOn _ _ _ _)

end
end Sys2Proof.Proofs
end

section
/-!
PROOFS. No command leaves a re-evaluation owed (log 9).
-/

namespace Sys2Proof.Proofs
open Sys2Proof.Machine

section
variable {s t : State}

theorem conclude_due (sp : Space) (p : Packet) (r : State × Answer) :
    (conclude sp p r).due = none := by
  simp [conclude]

theorem dispatch_due (p : Packet) (h : s.due = none) : (s.dispatch p).due = none := by
  unfold State.dispatch State.readRequest State.writeRequest State.resetRequest State.modeRequest
    State.injectRequest State.readSpace State.writeSpace State.refuseWrite State.fullReset
  dsimp only
  (repeat' split) <;> simp [h, conclude_due]

theorem handlePacket_due (p : Packet) (h : s.due = none) : (s.handlePacket p).due = none := by
  have hw : s.wakeByTraffic.due = none := by simp [h]
  unfold State.handlePacket
  dsimp only
  (repeat' split)
  · simp [h]
  · simp [h]
  · exact dispatch_due p hw

theorem handOn_due (p : Packet) (h : s.due = none) : (s.handOn p).due = none := by
  unfold State.handOn
  split
  · simp [h]
  · exact handlePacket_due p h

theorem receivePacket_due (p : Packet) (h : s.due = none) : (s.receivePacket p).due = none := by
  unfold State.receivePacket
  (repeat' split)
  · exact h
  · simp [h]
  · exact handOn_due p h

theorem drain_due (n : Nat) (h : s.due = none) : (s.drain n).due = none := by
  induction n generalizing s with
  | zero => exact h
  | succ n ih =>
    unfold State.drain
    (repeat' split)
    · exact h
    · exact h
    · exact ih (handlePacket_due _ h)

theorem finishInject_due (w : InjectWork) (h : s.due = none) : (s.finishInject w).due = none :=
  drain_due _ (by simp [h])

theorem injectedSample_due (h : s.due = none) : s.injectedSample.due = none := by
  unfold State.injectedSample
  dsimp only
  (repeat' split)
  · exact h
  · exact finishInject_due _ h
  · exact finishInject_due _ (by simp)
  · simp

theorem receiveByte_due (b : RxByte) (h : s.due = none) : (s.receiveByte b).due = none := by
  unfold State.receiveByte
  dsimp only
  (repeat' split)
  all_goals first
    | exact h
    | exact handOn_due _ h

theorem exec_due (c : Instr) (h : s.due = none) (e : exec c s = .next t) : t.due = none := by
  cases c <;> cases e
  case injectedSample => exact injectedSample_due h
  case byteReceived b =>
    split
    · exact receiveByte_due b h
    · exact h
  case powerOnReset => simp [State.powerOn]
  case uptimeTick => simp [h]
  case resetNFall =>
    split
    · simp [State.fullReset]
    · exact h
  case adapterFilterExpiry f => cases f <;> dsimp only <;> split <;> simp [h, State.adapterChanged]
  case transactionCompletion => split <;> simp [h]
  case resetNRise | badFrame | truncated | pwrReqRise | pwrReqFall | contactRise | contactFall
      | lossFilterExpiry | releaseIntentChange | intentFilterExpiry | lockConfirmRise
      | lockConfirmFall | engageLimitExpiry | disengageLimitExpiry | alertAsserted | parkAckChange
      | adapterSenseChange | bridgeSample | transactionLimitExpiry | pollTimerExpiry
      | settleTimerExpiry | releaseTimerExpiry | startUpHoldExpiry | bridgeRunExpiry
      | saveTimerExpiry | lightSampleArrival | conversionLimitExpiry | sensorRefusal
      | lightStaleExpiry | brightnessTick | accelSampleArrival | accelStaleExpiry | packetSent =>
    (repeat' split) <;> simp [h]
  all_goals exact receivePacket_due _ h

end

/-- Settles O11: every change of what the supply controller reads owes a re-evaluation, which leaves
the path current from any state; the end of the event takes it, and once more after each of the two
trips that may be taken there. -/
theorem stepKeepsSupplyCurrent : Obligations.StepKeepsSupplyCurrent := by
  unfold Obligations.StepKeepsSupplyCurrent
  intro s t hc hd hs
  have hset : t.due = none := by
    unfold step at hs
    split at hs
    · cases hs
      exact hd
    next c q _ => exact exec_due c (s := s.withPending q) hd hs
  exact ⟨(stepKept_owed.step_keeps (.inr hc) hs).resolve_left (by simp [hset]), hset⟩

end Sys2Proof.Proofs
end

section
/-!
PROOFS. The queue of commands, the state after reset, and the trunk link's two directions (R179 to
R191).
-/

namespace Sys2Proof.Proofs
open Sys2Proof.Machine

/-- Settles O1, by the two cases of the queue. -/
theorem stepTakesFrontCommand : Obligations.StepTakesFrontCommand := by
  unfold Obligations.StepTakesFrontCommand
  intro s
  exact ⟨fun c q h => by simp only [step, h]; rfl, fun h => by simp only [step, h]⟩

/-- Settles O17: each command hands its packet to the receiver. -/
theorem requestCommandsAreTheirPackets : Obligations.RequestCommandsAreTheirPackets := by
  unfold Obligations.RequestCommandsAreTheirPackets
  intro s tag dest v w x off code data i
  cases i <;> and_intros <;> intros <;> and_intros <;> rfl

/-! ### The state after reset -/

theorem reset_bounded : State.reset.Bounded :=
  ⟨⟨by decide, by decide⟩, ⟨by unfold Traffic.bounded; decide, by unfold Traffic.bounded; decide⟩,
    ⟨by decide, by decide, by decide⟩, by decide⟩

theorem fresh_latchSound (m : Bool) : (Bay.fresh m).LatchSound :=
  by cases m <;> exact ⟨by decide, by decide, by decide, rfl, rfl⟩

theorem fresh_recordSound (m : Bool) : (Bay.fresh m).RecordSound :=
  by cases m <;> exact ⟨fun _ => ⟨rfl, rfl, rfl, rfl, rfl, rfl, rfl⟩, by decide, by decide⟩

theorem reset_modeSound : State.reset.ModeSound :=
  ⟨fun _ => rfl, rfl, fun _ => ⟨rfl, rfl, rfl, rfl⟩, ⟨rfl, rfl⟩, ⟨rfl, rfl⟩, rfl, fun _ => rfl⟩

theorem reset_settings :
    State.reset.SettingsInRange ∧ State.reset.CurvesSound ∧ State.reset.TablesSound :=
  (settingsHeld_iff _).mp ⟨policyHeld_defaults, supplyFresh_inRange, fresh_inRange _,
    panelSettings_fresh, motionHeld_fresh _, rfl⟩

theorem reset_log : State.reset.drop.log = [] := rfl

/-- Settles O3: block by block, the values at power-on meet their invariants. -/
theorem resetMeetsInvariants : Obligations.ResetMeetsInvariants := by
  unfold Obligations.ResetMeetsInvariants
  obtain ⟨hrange, hcurves, htables⟩ := reset_settings
  exact ⟨reset_bounded, ⟨fresh_latchSound _, fresh_latchSound _⟩,
    (panelHeld_iff _).mp ⟨⟨rfl, fun _ => rfl⟩, fun _ => clamped_fresh.2.2, fun _ _ => clamped_fresh⟩,
    fun _ => ⟨rfl, rfl, rfl, rfl⟩, reset_modeSound, hrange, hcurves, htables,
    ⟨fresh_recordSound _, fresh_recordSound _⟩, fun _ _ h => absurd h (by simp [reset_log]),
    supplyCurrent_atPowerOn _ _ _ _, rfl⟩

/-! ### Responses and the arbiter of the upstream direction (R188, R189, R191) -/

section
variable {s : State}

theorem transmit_of_sending (h : s.link.sending.isSome = true ∨ s.lines.resetN = false) :
    s.transmit = s := by
  obtain h | h := h
  · simp [State.transmit, Option.isNone_eq_false_iff.mpr h]
  · simp [State.transmit, h]

theorem transmit_of_idle (hs : s.link.sending = none) (hr : s.lines.resetN = true) :
    s.transmit = s.onLink Link.choose := by
  simp [State.transmit, hs, hr]

theorem respond_full (r : Response) (h : 8 ≤ s.link.responses.length) :
    s.respond r = s.raise .hub .overrun := if_pos h

theorem respond_room (r : Response) (h : s.link.responses.length < 8) : s.respond r =
    (s.onLink fun l => { l with responses := l.responses ++ [r] }).transmit :=
  if_neg (Nat.not_le.mpr h)

/-- The oldest response goes before all else (R189). -/
theorem choose_response {l : Link} {r : Response} {rs : List Response} (h : l.responses = r :: rs) :
    l.choose = { l with responses := rs, sending := some (.response r) } := by
  simp [Link.choose, h]

end

/-- Settles O12, by the room in the list and the transmitter's state. -/
theorem responseJoinsListOrOverruns : Obligations.ResponseJoinsListOrOverruns := by
  unfold Obligations.ResponseJoinsListOrOverruns
  refine fun s r => ⟨fun h => ?full, fun h hb => ?busy, fun h hs hr => ?idle⟩
  case full =>
    rw [respond_full r h]
    rfl
  case busy =>
    rw [respond_room r h]
    exact transmit_of_sending hb
  case idle =>
    obtain ⟨q, qs, hq⟩ : ∃ q qs, s.link.responses ++ [r] = q :: qs := by
      cases s.link.responses <;> exact ⟨_, _, rfl⟩
    refine ⟨q, qs, hq, ?_⟩
    rw [respond_room r h, transmit_of_idle (by exact hs) (by exact hr)]
    simp only [State.onLink]
    rw [choose_response hq]

/-- The transmitter's choice at PACKET_SENT. -/
theorem exec_packetSent {s : State} {u : UpPacket} (h : s.link.sending = some u) :
    exec .packetSent s = .next (s.onLink fun l => { l with sending := none }).transmit := by
  refine congrArg Host.Outcome.next (if_pos ?_)
  simp [h]

/-- Settles O13, by what waits, in the arbiter's order. -/
theorem packetSentChoosesNext : Obligations.PacketSentChoosesNext := by
  unfold Obligations.PacketSentChoosesNext
  intro s u hu
  have low (hr : s.lines.resetN = false) := transmit_of_sending
    (s := s.onLink fun l => { l with sending := none }) (.inr hr)
  have high (hr : s.lines.resetN = true) := transmit_of_idle
    (s := s.onLink fun l => { l with sending := none }) rfl hr
  rw [exec_packetSent hu]
  refine ⟨fun hr => ?low, fun hr => ⟨fun r rs h1 => ?response, fun h1 => ⟨fun p ps h2 => ?alert,
    fun h2 => ⟨fun i h3 => ?accel, fun h3 => ⟨fun i h4 => ?light, fun h4 => ?none⟩⟩⟩⟩⟩
  case low =>
    rw [low hr]
    rfl
  all_goals
    rw [high hr]
    simp [State.onLink, Link.choose, *]

/-! ### A frame byte by byte (R180, R181) -/

theorem runCommands_append (cs ds : List Instr) (s t : State) (h : runCommands cs s = .next t) :
    runCommands (cs ++ ds) s = runCommands ds t := by
  induction cs generalizing s with
  | nil =>
    cases h
    rfl
  | cons c cs ih =>
    simp only [List.cons_append, runCommands] at h ⊢
    cases hc : exec c s with
    | next u =>
      rw [hc] at h
      exact ih u h
    | fault f =>
      rw [hc] at h
      cases h
    | refused r =>
      rw [hc] at h
      cases h

/-- A command that answers, and the rest after it. -/
theorem runCommands_cons {c : Instr} {cs : List Instr} {s t : State} (h : exec c s = .next t) :
    runCommands (c :: cs) s = runCommands cs t := by
  simp only [runCommands, h]

/-- The bytes of a body, from the first still missing to the last (R181). -/
theorem runCommands_body (len : Byte) (bs kept : List Byte) (s : State)
    (hr : s.lines.resetN = true) (hx : s.link.rx = .body len kept) (hne : bs ≠ [])
    (hlen : kept.length + bs.length = len.toNat) :
    runCommands (bs.map fun b => .byteReceived (.good b)) s =
      .next (s.onLink (Link.receiving (.check len (kept ++ bs)))) := by
  induction bs generalizing s kept with
  | nil => exact absurd rfl hne
  | cons b bs ih =>
    rw [List.map_cons]
    have hb := Receiver.exec_byteReceived_of_high hr (.good b)
    cases bs with
    | nil =>
      rw [Receiver.receiveByte_body_last hx (by simpa using hlen.ge)] at hb
      rw [runCommands_cons hb]
      rfl
    | cons c cs =>
      simp only [List.length_cons] at hlen
      rw [Receiver.receiveByte_body_more hx (by omega)] at hb
      rw [runCommands_cons hb, ih (kept ++ [b]) _ (by exact hr) rfl (by simp)
        (by simp only [List.length_append, List.length_cons, List.length_nil]; omega)]
      simp [State.onLink, Link.receiving]

/-- A packet's body spells the packet (R193, R194). -/
theorem packetOf_body (p : Packet) : packetOf p.body = p := by
  have h : leHalf [BitVec.ofNat 8 p.offset.toNat, BitVec.ofNat 8 (p.offset.toNat / 256)] =
      p.offset := by
    have := p.offset.isLt
    apply BitVec.eq_of_toNat_eq
    simp only [leHalf, leNat, BitVec.toNat_ofNat]
    omega
  simp only [Packet.body, le16, List.cons_append, List.nil_append, packetOf, h]

theorem body_length (p : Packet) : p.body.length = p.len := by
  simp [Packet.body, Packet.len, le16]
  omega

/-- Settles O15: SYNC, LEN, the body by induction, CHECK. -/
theorem frameBytesActAsTheirPacket : Obligations.FrameBytesActAsTheirPacket := by
  unfold Obligations.FrameBytesActAsTheirPacket
  intro s p hr hx hp
  have hge : 5 ≤ p.len := by
    simp only [Packet.len]
    omega
  have hlen : (BitVec.ofNat 8 p.len).toNat = p.len := by
    rw [BitVec.toNat_ofNat]
    omega
  have hsync := Receiver.exec_byteReceived_of_high hr (.good 0xC3)
  rw [Receiver.receiveByte_hunt_sync hx] at hsync
  have hl := Receiver.exec_byteReceived_of_high (s := s.onLink (Link.receiving .length)) hr
    (.good (BitVec.ofNat 8 p.len))
  rw [Receiver.receiveByte_length_sound rfl (by omega)] at hl
  have hbody := runCommands_body (BitVec.ofNat 8 p.len) p.body []
    ((s.onLink (Link.receiving .length)).onLink (Link.receiving (.body (BitVec.ofNat 8 p.len) [])))
    hr rfl (by simp [Packet.body]) (by simp [body_length, hlen])
  have hcheck := Receiver.exec_byteReceived_of_high (s := ((s.onLink (Link.receiving
    .length)).onLink (Link.receiving (.body (BitVec.ofNat 8 p.len) []))).onLink
    (Link.receiving (.check (BitVec.ofNat 8 p.len) ([] ++ p.body)))) hr
    (.good (crc8 (BitVec.ofNat 8 p.len :: p.body)))
  rw [Receiver.receiveByte_check_match rfl rfl] at hcheck
  have e : (p.frame.map fun b => Instr.byteReceived (.good b)) =
      .byteReceived (.good 0xC3) :: .byteReceived (.good (BitVec.ofNat 8 p.len)) ::
        ((p.body.map fun b => .byteReceived (.good b)) ++
          [.byteReceived (.good (crc8 (BitVec.ofNat 8 p.len :: p.body)))]) := by
    simp [Packet.frame]
  rw [e, runCommands_cons hsync, runCommands_cons hl, runCommands_append _ _ _ _ hbody,
    runCommands_cons hcheck, List.nil_append, packetOf_body]
  have hn : ¬ 38 < p.len := Nat.not_lt.mpr hp
  simp only [runCommands, State.receivePacket, hr, hn, Bool.not_true, Bool.false_eq_true, if_false]
  rfl

end Sys2Proof.Proofs
end

section
/-!
PROOFS. A change of part mode at every block (R170), and the gates before a request (R172, R182,
R191).
-/

namespace Sys2Proof.Proofs
open Sys2Proof.Machine

section
variable {s : State}

theorem evaluate_modeEntered (m : PartMode) (b : Bool) (r : Sensor) :
    Sensor.ModeEntered m b r (r.evaluate (m == .active) b) := by
  have on (hm : m = .active) (he : r.enable = true) : ((m == .active) && r.enable) = true := by
    simp [hm, he]
  have off (h : m ≠ .active ∨ r.enable = false) : ((m == .active) && r.enable) = false := by
    obtain h | h := h <;> simp [h]
  refine ⟨fun hm he hc => ?_, fun hm he hc => ?_, fun h hc => ?_, fun h hc => ?_⟩
  · simp only [Sensor.evaluate, on hm he, hc, if_true, Sensor.enabled]
    split <;> rfl
  · simp only [Sensor.evaluate, on hm he, hc, if_true, if_false]
  · simp [Sensor.evaluate, off h, hc]
  · simp [Sensor.evaluate, off h, hc, Sensor.disabled]

theorem modeChanged_eq (p : Policy) {old new : PartMode} (h : old ≠ new) (y : Bay) :
    y.modeChanged p old new = { y with traffic :=
      if new = .dormant then { y.traffic with pollTimer := none, round := none }
      else if y.state.polls then { y.traffic with
        pollTimer := (pollPeriod p new).map fun n => ⟨n, n⟩ }
      else y.traffic } := by
  unfold Bay.modeChanged
  cases new <;> simp [h] <;> rfl

/-- A change of mode is handed to every block that depends on it, and to no other (R170). -/
theorem setMode_modeEntered {m : PartMode} (hm : s.ctl.mode ≠ m) : s.ModeEntered (s.setMode m) m := by
  have hb := setMode_back hm
  unfold State.backMode at hb
  refine
    { frame := ?_, ctl := ?_, polls := fun i => ?_, light := ?_, front := ?_, rear := ?_,
      enters := fun h => ?_, leaves := fun h => ?_, between := fun h1 h2 => ?_,
      rate := fun hg ho => ?_, same := fun hg ho => ?_, later := fun hg => ?_,
      streams := setMode_streams hm, link := setMode_link hm }
  · obtain ⟨h1, h2, h3, h4, h5, h6, h7, h8, h9, h10, h11⟩ := State.setMode_frame s m
    generalize s.setMode m = t at *
    cases t
    simp_all
  · rw [setMode_ctl hm]
    cases m <;> simp [ModeCtl.enter]
  · rw [setMode_bay hm, modeChanged_eq _ hm]
  · rw [setMode_light hm]
  · rw [setMode_light hm]
    exact evaluate_modeEntered m _ _
  · rw [setMode_light hm]
    exact evaluate_modeEntered m _ _
  · rw [hb, if_pos h]
    rfl
  · rw [hb, if_neg (fun e => hm (h.trans e.symm)), if_pos h]
    simp only [State.onBack_back, Backlight.leaveActive, Backlight.dark, Backlight.send]
    split <;> rfl
  · rw [hb, if_neg h1, if_neg h2]
  · rw [setMode_motion hm, Motion.modeChanged, if_pos hg, Accelerometer.setRate, if_neg ho]
    rfl
  · rw [setMode_motion hm, Motion.modeChanged, if_pos hg, Accelerometer.setRate, if_pos ho]
  · rw [setMode_motion hm, Motion.modeChanged, if_neg hg]

/-! ### The gates (R172, R182, R191) -/

theorem receivePacket_of_low (p : Packet) (h : s.lines.resetN = false) : s.receivePacket p = s :=
  if_pos (by simp [h])

/-- A sound packet is handed on by a receiver that is back in HUNT (R181). -/
theorem receivePacket_of_high {p : Packet} (hr : s.lines.resetN = true) (hp : p.len ≤ 38) :
    s.receivePacket p = s.heard.handOn p := by
  have hn : ¬ 38 < p.len := Nat.not_lt.mpr hp
  simp only [State.receivePacket, hr, hn, Bool.not_true, Bool.false_eq_true, if_false]
  rfl

/-- While an INJECT is being handled a packet waits (R182). -/
theorem handOn_of_inject (p : Packet) (h : s.link.inject.isSome = true) :
    s.handOn p = s.onLink fun l => { l with waiting := l.waiting ++ [p] } := if_pos h

theorem handOn_of_free (p : Packet) (h : s.link.inject = none) :
    s.handOn p = s.handlePacket p := if_neg (by simp [h])

theorem wakeByTraffic_awake (h : s.ctl.mode ≠ .dormant) : s.wakeByTraffic = s := if_neg h

theorem wakeByTraffic_dormant (h : s.ctl.mode = .dormant) :
    s.wakeByTraffic = (s.setMode .active).raise .hub .trafficWake := if_pos h

/-- The handling of a request, once the part is awake (R182). -/
theorem handlePacket_request {p : Packet} (hk : requestKind p.kind = true) :
    s.handlePacket p = if 8 ≤ s.wakeByTraffic.link.responses.length then
      s.wakeByTraffic.raise .hub .overrun else s.wakeByTraffic.dispatch p := by
  simp only [State.handlePacket, hk, Bool.not_true, Bool.false_eq_true, if_false]
  rfl

/-- A packet that names no request kind is answered so (R182). -/
theorem handlePacket_badKind {p : Packet} (hk : requestKind p.kind = false) :
    s.handlePacket p = s.answer .hub p .badKind [] := by
  simp [State.handlePacket, hk]

/-- Hearing a packet does not matter to the change of mode that it brings. -/
theorem heard_setMode (s : State) : s.heard.setMode .active = (s.setMode .active).heard := by
  by_cases hm : s.ctl.mode = .active
  · have h1 := setMode_same s
    have h2 := setMode_same s.heard
    rw [hm] at h1
    rw [State.heard_ctl, hm] at h2
    rw [h1, h2]
  · simp [State.setMode, hm]
    rfl

theorem handlePacket_wakes {p : Packet} (hk : requestKind p.kind = true)
    (hm : s.ctl.mode = .dormant) :
    s.heard.handlePacket p =
      ((s.setMode .active).raise .hub .trafficWake).heard.handlePacket p := by
  have hn : s.ctl.mode ≠ .active := by simp [hm]
  have ha : ((s.setMode .active).raise .hub .trafficWake).heard.ctl.mode ≠ .dormant := by
    simp [setMode_ctl hn, ModeCtl.enter]
  have e : s.heard.wakeByTraffic = ((s.setMode .active).raise .hub .trafficWake).heard := by
    rw [wakeByTraffic_dormant (by exact hm), heard_setMode]
    rfl
  rw [handlePacket_request hk, handlePacket_request hk, wakeByTraffic_awake ha, e]

end

/-- Settles O16, gate by gate. -/
theorem packetsAtTheGates : Obligations.PacketsAtTheGates := by
  unfold Obligations.PacketsAtTheGates
  refine ⟨fun s p hp => ⟨fun h => receivePacket_of_low p h, fun hr hi => ?waits,
    fun hr hi hk hm hf => ?full, fun hr hi hk hm => ?dormant⟩,
    fun s f => ⟨fun h => ?low, fun h => ?spoilt⟩, fun s h => ?silent,
    fun s tag kind dest off rest h hl hk => ?badKind⟩
  case waits =>
    rw [receivePacket_of_high hr hp, handOn_of_inject (s := s.heard) p hi]
    rfl
  case full =>
    rw [receivePacket_of_high hr hp, handOn_of_free (s := s.heard) p hi,
      handlePacket_request hk, wakeByTraffic_awake (s := s.heard) hm, if_pos (by exact hf)]
    rfl
  case dormant =>
    have hn : s.ctl.mode ≠ .active := by simp [hm]
    refine ⟨s.setMode .active, setMode_modeEntered hn, ?_⟩
    have e : ({ s.setMode .active with flags := s.flags.raised .hub 512 } : State) =
        (s.setMode .active).raise .hub .trafficWake := by
      have : (s.setMode .active).flags = s.flags := by simp
      simp only [State.raise, State.onFlags, this]
      rfl
    rw [e, receivePacket_of_high hr hp, handOn_of_free (s := s.heard) p hi, handlePacket_wakes hk hm,
      receivePacket_of_high (by simpa using hr) hp, handOn_of_free]
    simp [setMode_link hn, hi]
  case low => exact congrArg Host.Outcome.next (if_neg (by simp [h]))
  case spoilt => exact congrArg Host.Outcome.next (if_pos h)
  case silent => exact congrArg Host.Outcome.next (if_neg (by simp [h]))
  case badKind =>
    have hq : requestKind kind = false := by
      simp only [requestKind, Bool.and_eq_false_iff, decide_eq_false_iff_not]
      omega
    have hlen : (⟨tag, kind, dest, off, rest⟩ : Packet).len ≤ 38 := by
      simp only [Packet.len]
      omega
    have hx : exec (.badKind tag kind dest off rest) s =
        .next (s.receivePacket ⟨tag, kind, dest, off, rest⟩) := rfl
    rw [hx, receivePacket_of_high h.resetN hlen, handOn_of_free (s := s.heard) _ h.inject,
      handlePacket_badKind hq]
    simp [State.answer, State.answered, State.answerFlags, State.raise, State.onFlags,
      SpaceFlags.raised, SpaceFlags.get, SpaceFlags.set, Flag.mask, Flag.bit, BitVec.or_assoc]

end Sys2Proof.Proofs
end

section
/-!
PROOFS. The control spaces (R183, R184, R193, R196, R198): what a location reads as, what a setting
takes, and the READ and the WRITE of an extent.
-/

namespace Sys2Proof.Proofs
open Sys2Proof.Machine

/-! ### READ (R183) -/

section
variable {s : State} {sp : Space} {off n : Nat}

theorem readAnswer_badCount (h : n = 0 ∨ 32 < n) : readAnswer s sp off n = (.badValue, []) :=
  if_pos (by simpa using h)

/-- Past the check of COUNT the map decides (R183). -/
theorem readAnswer_of_count (h1 : 1 ≤ n) (h2 : n ≤ 32) :
    readAnswer s sp off n =
      if !coversExtent (touched (spaceMap sp) off n) off n then (.badOffset, [])
      else if readsAbsent s sp (touched (spaceMap sp) off n) then (.noData, [])
      else (.ok, extentBytes s (touched (spaceMap sp) off n) off n) :=
  if_neg (by simp only [Bool.or_eq_true, decide_eq_true_eq]; omega)

theorem readAnswer_outside (h1 : 1 ≤ n) (h2 : n ≤ 32)
    (hc : coversExtent (touched (spaceMap sp) off n) off n = false) :
    readAnswer s sp off n = (.badOffset, []) := by
  simp [readAnswer_of_count h1 h2, hc]

theorem readAnswer_absent (h1 : 1 ≤ n) (h2 : n ≤ 32)
    (hc : coversExtent (touched (spaceMap sp) off n) off n = true)
    (ha : readsAbsent s sp (touched (spaceMap sp) off n) = true) :
    readAnswer s sp off n = (.noData, []) := by
  simp [readAnswer_of_count h1 h2, hc, ha]

theorem readAnswer_present (h1 : 1 ≤ n) (h2 : n ≤ 32)
    (hc : coversExtent (touched (spaceMap sp) off n) off n = true)
    (ha : readsAbsent s sp (touched (spaceMap sp) off n) = false) :
    readAnswer s sp off n = (.ok, extentBytes s (touched (spaceMap sp) off n) off n) := by
  simp [readAnswer_of_count h1 h2, hc, ha]

end

/-- An absent value that stands alone in the extent is NO_DATA, a present one is its bytes (R183). -/
theorem readAnswer_roOpt {s : State} {sp : Space} {off n g : Nat} {f : State → Option (List Byte)}
    (ht : touched (spaceMap sp) off n = [roOpt off n g f]) (h1 : 1 ≤ n) (h2 : n ≤ 32)
    (hg : g < 20) : readAnswer s sp off n = match f s with
      | none => (.noData, [])
      | some bs => (.ok, (exactly n bs).take n) := by
  have hc : coversExtent (touched (spaceMap sp) off n) off n = true := by
    simp [ht, coversExtent, spanEnd, roOpt]
  have ha : readsAbsent s sp (touched (spaceMap sp) off n) = (f s).isNone := by
    have hw : windowAbsent s sp [roOpt off n g f] = false := by
      simp [windowAbsent, roOpt, hg]
    rw [ht]
    cases hf : f s <;> simp [readsAbsent, hw, Loc.absentGroup] <;> simp [roOpt, hf]
  cases hf : f s with
  | none => exact readAnswer_absent h1 h2 hc (by simp [ha, hf])
  | some bs =>
    rw [readAnswer_present h1 h2 hc (by simp [ha, hf])]
    simp [ht, extentBytes, Loc.bytes, roOpt, hf]

/-- A read-only location that is always present is read as its bytes (R183). -/
theorem readAnswer_ro {s : State} {sp : Space} {off n : Nat} {f : State → List Byte}
    (ht : touched (spaceMap sp) off n = [ro off n f]) (h1 : 1 ≤ n) (h2 : n ≤ 32) :
    readAnswer s sp off n = (.ok, (exactly n (f s)).take n) :=
  readAnswer_roOpt (f := fun s => some (f s)) ht h1 h2 (by omega)

/-- The locations of the record window that are present with the record (R158, R199). -/
theorem windowRecord_reads (s : State) (r : DropRecord) (h : s.drop.log[s.drop.index]? = some r) :
    readAnswer s .motion 0x82 2 = (.ok, le16 r.sequence) ∧
    readAnswer s .motion 0x91 4 = (.ok, le8 r.snapshot.state.a.code ++
      le8 r.snapshot.state.b.code ++
      le8 (r.snapshot.role.a.code + 4 * r.snapshot.role.b.code) ++ le8 r.snapshot.supply.code) := by
  have hw : s.drop.windowRecord = some r := h
  constructor
  · rw [readAnswer_present (by omega) (by omega) rfl]
    · rw [show touched (spaceMap .motion) 0x82 2 = [windowAll 0x82 2 fun r => le16 r.sequence] from
        rfl]
      simp [extentBytes, Loc.bytes, windowAll, roOpt, hw, exactly, le16]
    · rw [show touched (spaceMap .motion) 0x82 2 = [windowAll 0x82 2 fun r => le16 r.sequence] from
        rfl]
      simp [readsAbsent, windowAbsent, Loc.absentGroup, windowAll, roOpt, hw]
  · have ht : touched (spaceMap .motion) 0x91 4 =
        [windowAll 0x91 1 fun r => le8 r.snapshot.state.a.code,
         windowAll 0x92 1 fun r => le8 r.snapshot.state.b.code,
         windowAll 0x93 1 fun r => le8 r.snapshot.roles,
         windowAll 0x94 1 fun r => le8 r.snapshot.supply.code] := rfl
    rw [readAnswer_present (by omega) (by omega) rfl]
    · rw [ht]
      simp [extentBytes, Loc.bytes, windowAll, roOpt, hw, exactly, le8, RecordSnapshot.roles]
    · rw [ht]
      simp [readsAbsent, windowAbsent, Loc.absentGroup, windowAll, roOpt, hw]

/-- With no record at the index the window is absent (R158). -/
theorem windowRecord_absent (s : State) (h : s.drop.log[s.drop.index]? = none) :
    readAnswer s .motion 0x82 2 = (.noData, []) := by
  have hw : s.drop.windowRecord = none := h
  refine readAnswer_absent (by omega) (by omega) rfl ?_
  rw [show touched (spaceMap .motion) 0x82 2 = [windowAll 0x82 2 fun r => le16 r.sequence] from rfl]
  simp [readsAbsent, windowAbsent, windowAll, roOpt, hw]

theorem readAnswer_serial (s : State) : readAnswer s .bayA 0x18 2 =
    match s.bays.a.record.identity.map fun d => le16 d.serial with
    | none => (.noData, [])
    | some bs => (.ok, (exactly 2 bs).take 2) :=
  readAnswer_roOpt (f := fun s => (s.bay .a).record.identity.map fun d => le16 d.serial) rfl
    (by omega) (by omega) (by omega)

/-- Settles O20: the locations that are always present read by evaluation of their map, the serial and
the record window by the cases of their presence. -/
theorem locationsReadAsLaidOut : Obligations.LocationsReadAsLaidOut := by
  unfold Obligations.LocationsReadAsLaidOut
  intro s
  refine ⟨rfl, rfl, rfl, rfl, rfl, rfl,
    LinkControls.readAnswer_setting (x := .pollPeriod) rfl rfl (by omega) (by omega), rfl, rfl, rfl,
    readAnswer_ro (n := 1) (f := fun s => le8 s.motion.guard.code) rfl (by omega) (by omega),
    readAnswer_ro (n := 2) (f := fun s => le16 s.drop.drops) rfl (by omega) (by omega),
    fun h => ?_, fun d h => ?_, windowRecord_absent s,
    windowRecord_reads s, rfl⟩
  · rw [readAnswer_serial, h]
    rfl
  · rw [readAnswer_serial, h]
    rfl

/-! ### A setting's value (R184 step 4) -/

/-- A byte written holds the signed number of its two's complement (R193). -/
theorem signed8_leNat (b : Byte) : signed8 (leNat [b]) = b.toInt := by
  simp [signed8, leNat]

/-- Settles O21, setting by setting. -/
theorem settingsReadBackClamped : Obligations.SettingsReadBackClamped := by
  unfold Obligations.SettingsReadBackClamped
  intro s bs i
  have hbias (b : Byte) : Setting.get (Setting.put [b] s .bias) .bias =
      [BitVec.ofInt 8 (min 50 (max (-50) b.toInt))] := by
    rw [← signed8_leNat]
    rfl
  refine ⟨?lockout, rfl, rfl, rfl, rfl, rfl, rfl, rfl, rfl, rfl, rfl, rfl, rfl, rfl, rfl, rfl, rfl,
    rfl, rfl, hbias, rfl, rfl, rfl, rfl, rfl, rfl, rfl, rfl, rfl, rfl, rfl⟩
  case lockout => simp [Setting.put, Setting.get]

end Sys2Proof.Proofs
end

section
/-!
PROOFS. A READ and a WRITE of a control space (R183 to R186, R196): the answers with their flags.
-/

namespace Sys2Proof.Proofs
open Sys2Proof.Machine

/-! ### Answers with their flags (R185) -/

section
variable {s : State}

theorem raise_eq (s : State) (sp : Space) (f : Flag) :
    s.raise sp f = { s with flags := s.flags.raised sp f.mask } := rfl

/-- Two masks set one after the other are their union. -/
theorem raised_raised (fs : SpaceFlags) (sp : Space) (m m' : Half) :
    (fs.raised sp m).raised sp m' = fs.raised sp (m ||| m') := by
  cases sp <;> simp [SpaceFlags.raised, SpaceFlags.get, SpaceFlags.set, BitVec.or_assoc]

theorem raise_raise (s : State) (sp : Space) (f g : Flag) :
    (s.raise sp f).raise sp g = { s with flags := s.flags.raised sp (f.mask ||| g.mask) } := by
  simp only [raise_eq, raised_raised]

theorem answer_badOffset (s : State) (sp : Space) (p : Packet) :
    s.answer sp p .badOffset [] = { s with
      flags := s.flags.raised sp (1 ||| 8) }.answered p.tag p.dest p.offset .badOffset [] := by
  simp only [State.answer, State.answerFlags, raise_raise]
  rfl

theorem answer_badDest (s : State) (sp : Space) (p : Packet) :
    s.answer sp p .badDest [] = { s with
      flags := s.flags.raised .hub (64 ||| 8) }.answered p.tag p.dest p.offset .badDest [] := by
  simp only [State.answer, State.answerFlags, raise_raise]
  rfl

theorem refuseWrite_eq (s : State) (sp : Space) (p : Packet) :
    s.refuseWrite sp p = { s with
      flags := s.flags.raised sp (4 ||| 8) }.answered p.tag p.dest p.offset .refused [] := by
  simp only [State.refuseWrite, State.answer, State.answerFlags, raise_raise]
  rfl

theorem answer_refused (s : State) (sp : Space) (p : Packet) :
    s.answer sp p .refused [] = { s with
      flags := s.flags.raised sp 8 }.answered p.tag p.dest p.offset .refused [] := rfl

theorem answer_badTable (s : State) (sp : Space) (p : Packet) :
    s.answer sp p .badTable [] = { s with
      flags := s.flags.raised sp 8 }.answered p.tag p.dest p.offset .badTable [] := rfl

/-! ### READ -/

/-- No location shows the receiver's state. -/
theorem reads_heard (s : State) (sp : Space) :
    ∀ l ∈ spaceMap sp, l.read s.heard = l.read s := by
  rw [← List.map_inj_left]
  cases sp <;> rfl

theorem mem_touched {ls : List Loc} {off n : Nat} {l : Loc} (h : l ∈ touched ls off n) : l ∈ ls :=
  List.mem_of_mem_filter h

/-- A READ's answer comes from what its map's locations read as, and from the record window. -/
theorem readAnswer_congr {t : State} {sp : Space} (hr : ∀ l ∈ spaceMap sp, l.read t = l.read s)
    (hd : t.drop = s.drop) (off n : Nat) : readAnswer t sp off n = readAnswer s sp off n := by
  have ha (l : Loc) (h : l ∈ touched (spaceMap sp) off n) : l.absentGroup t = l.absentGroup s := by
    simp only [Loc.absentGroup, hr l (mem_touched h)]
  have hb (l : Loc) (h : l ∈ touched (spaceMap sp) off n) : l.bytes t = l.bytes s := by
    simp only [Loc.bytes, hr l (mem_touched h)]
  simp only [readAnswer]
  generalize touched (spaceMap sp) off n = ls at ha hb
  have hg : readsAbsent t sp ls = readsAbsent s sp ls := by
    cases ls with
    | nil => simp [readsAbsent, windowAbsent]
    | cons l ls =>
      have e : ((l :: ls).all fun m => m.absentGroup t == l.absentGroup s) =
          ((l :: ls).all fun m => m.absentGroup s == l.absentGroup s) :=
        Bool.eq_iff_iff.mpr (by
          simp only [List.all_eq_true]
          exact forall₂_congr fun m hm => by rw [ha m hm])
      simp only [readsAbsent, windowAbsent, hd, ha l List.mem_cons_self]
      cases hl : l.absentGroup s with
      | none => rfl
      | some g =>
        rw [hl] at e
        exact congrArg (Bool.or _) e
  have he : extentBytes t ls off n = extentBytes s ls off n := by
    cases ls with
    | nil => rfl
    | cons l ls =>
      simp only [extentBytes]
      rw [List.flatMap_congr hb]
  rw [hg, he]

theorem dispatch_read {tag c : Byte} {sp : Space} {off : Half} :
    s.dispatch ⟨tag, 1, spaceDest sp, off, [c]⟩ =
      s.readSpace sp ⟨tag, 1, spaceDest sp, off, [c]⟩ c.toNat := by
  simp [State.dispatch, State.readRequest]

/-- A hub that takes packets answers a READ from the space's map (R183). -/
theorem exec_read (h : s.Takes) (tag c : Byte) (sp : Space) (off : Half) :
    exec (.read tag (spaceDest sp) off c) s =
      .next (s.heard.readSpace sp ⟨tag, 1, spaceDest sp, off, [c]⟩ c.toNat) := by
  have hx : exec (.read tag (spaceDest sp) off c) s =
      .next (s.receivePacket ⟨tag, 1, spaceDest sp, off, [c]⟩) := rfl
  rw [hx, State.receivePacket_taken h rfl (by simp [Packet.len]), dispatch_read]

/-- A READ that its map answers with `o` and the bytes `bs`. -/
theorem exec_read_of (h : s.Takes) {tag c : Byte} {sp : Space} {off : Half} {o : Answer}
    {bs : List Byte} (hr : readAnswer s sp off.toNat c.toNat = (o, bs)) :
    exec (.read tag (spaceDest sp) off c) s =
      .next ((if o = .ok then s.heard.clearRead sp off.toNat c.toNat else s.heard).answer sp
        ⟨tag, 1, spaceDest sp, off, [c]⟩ o bs) := by
  rw [exec_read h]
  simp only [State.readSpace, readAnswer_congr (reads_heard s sp) rfl, hr]

end

/-- Settles O18: the checks in their order. -/
theorem readAnswersFromTheSpace : Obligations.ReadAnswersFromTheSpace := by
  unfold Obligations.ReadAnswersFromTheSpace
  intro s tag dest count off sp h
  refine ⟨fun hn => ?_, fun h1 h2 hc => ?_, fun h1 h2 hc ha => ?_, fun h1 h2 hc ha hm => ?_,
    fun h1 h2 hc ha hm => ?_, fun h1 h2 => ?_⟩
  · rw [exec_read_of h (readAnswer_badCount hn), if_neg (by decide), LinkControls.answer_badValue]
    rfl
  · rw [exec_read_of h (readAnswer_outside h1 h2 hc), if_neg (by decide), answer_badOffset]
    rfl
  · rw [exec_read_of h (readAnswer_absent h1 h2 hc ha), if_neg (by decide)]
    rfl
  · rw [exec_read_of h (readAnswer_present h1 h2 hc ha), if_pos rfl, State.clearRead,
      State.heard_clearMode, hm]
    rfl
  · rw [exec_read_of h (readAnswer_present h1 h2 hc ha), if_pos rfl, State.clearRead,
      State.heard_clearMode, hm]
    rfl
  · have hx : exec (.read tag dest off count) s =
        .next (s.receivePacket ⟨tag, 1, dest, off, [count]⟩) := rfl
    rw [hx, State.receivePacket_taken h rfl (by simp [Packet.len])]
    simp [State.dispatch, State.readRequest, h1, h2, answer_badDest]

/-! ### WRITE (R184) -/

section
variable {s : State}

/-- A hub that takes packets hands a WRITE of 1 to 32 bytes to the space's map (R184). -/
theorem exec_write (h : s.Takes) (tag : Byte) (sp : Space) (off : Half) {data : List Byte}
    (h1 : 1 ≤ data.length) (h2 : data.length ≤ 32) :
    exec (.write tag (spaceDest sp) off data) s =
      .next (s.heard.writeSpace sp (writePacket tag (spaceDest sp) off data) data) := by
  have hx : exec (.write tag (spaceDest sp) off data) s =
      .next (s.receivePacket (writePacket tag (spaceDest sp) off data)) := rfl
  have hl : (writePacket tag (spaceDest sp) off data).len ≤ 38 := by
    simp only [Packet.len, writePacket]
    omega
  rw [hx, State.receivePacket_taken h rfl hl, LinkControls.dispatch_write h1 h2]

/-- A WRITE by its kind (R184 steps 1 to 3). -/
theorem writeSpace_eq (t : State) (sp : Space) (p : Packet) (data : List Byte) {k : WriteKind}
    (h : writeKind t.link.clearMode (touched (spaceMap sp) p.offset.toNat data.length)
      p.offset.toNat data = k) :
    t.writeSpace sp p data = match (generalizing := false) k with
      | .outside => t.answer sp p .badOffset []
      | .action => conclude sp p (t.writeAction sp data)
      | .readOnly => t.refuseWrite sp p
      | .fields clears xs => conclude sp p (t.takeFields sp clears xs) := by
  subst h
  rfl

theorem conclude_badValue (h : s.due = none) (sp : Space) (p : Packet) :
    conclude sp p (s, .badValue) = { s with
      flags := s.flags.raised sp (2 ||| 8) }.answered p.tag p.dest p.offset .badValue [] := by
  rw [conclude_of_settled h, LinkControls.answer_badValue]

theorem takeFields_of_ok {t : State} {sp : Space} {clears : Half}
    {xs : List (Setting × List Byte)}
    (h : (xs.all (fun x => x.1.accepts x.2) && structureOk (xs.map Prod.fst)
      (State.putAll xs (t.clearFlags sp clears)).policy
      (State.putAll xs (t.clearFlags sp clears)).motion) = true) :
    t.takeFields sp clears xs =
      ((State.putAll xs (t.clearFlags sp clears)).afterPuts (xs.map Prod.fst), .ok) := by
  simp only [State.takeFields, h, if_true]

theorem takeFields_of_not {t : State} {sp : Space} {clears : Half}
    {xs : List (Setting × List Byte)}
    (h : (xs.all (fun x => x.1.accepts x.2) && structureOk (xs.map Prod.fst)
      (State.putAll xs (t.clearFlags sp clears)).policy
      (State.putAll xs (t.clearFlags sp clears)).motion) = false) :
    t.takeFields sp clears xs = (t, .badValue) := by
  simp only [State.takeFields, h, Bool.false_eq_true, if_false]

/-- Two flag bytes are one mask, the low byte first (R193). -/
theorem leHalf_pair (lo hi : Byte) : leHalf [lo, hi] = hi ++ lo := by
  apply BitVec.eq_of_toNat_eq
  have hlo : lo.toNat < 2 ^ 8 := lo.isLt
  have hhi : hi.toNat < 2 ^ 8 := hi.isLt
  rw [leHalf, BitVec.toNat_ofNat, BitVec.toNat_append, ← Nat.shiftLeft_add_eq_or_of_lt hlo,
    Nat.shiftLeft_eq]
  simp only [leNat]
  omega

end

/-- Settles O19: the checks in their order, then the fields together. -/
theorem writeIsAllOrNothing : Obligations.WriteIsAllOrNothing := by
  unfold Obligations.WriteIsAllOrNothing
  intro s tag dest off data sp h h1 h2
  have run {k : WriteKind} (hk : writeKind s.link.clearMode
      (touched (spaceMap sp) off.toNat data.length) off.toNat data = k) :=
    (exec_write h tag sp off h1 h2).trans (congrArg Host.Outcome.next (writeSpace_eq s.heard sp
      (writePacket tag (spaceDest sp) off data) data (k := k) hk))
  refine ⟨fun hk => ?outside, fun hk => ?readOnly, fun hk ha => ?action,
    fun clears xs hk => ⟨fun hok => ?refused, fun hok => ?taken⟩,
    fun lo hi v hd hsp ho hm => ?both, fun hs hb => ?dest⟩
  case outside =>
    rw [run hk]
    exact congrArg _ (answer_badOffset _ _ _)
  case readOnly =>
    rw [run hk]
    exact congrArg _ (refuseWrite_eq _ _ _)
  case action =>
    rw [run hk]
    simp only [State.writeAction, ha]
    exact congrArg _ (conclude_badValue (s := s.heard) h.settled _ _)
  case refused =>
    rw [run hk]
    simp only
    rw [takeFields_of_not (t := s.heard) hok]
    exact congrArg _ (conclude_badValue (s := s.heard) h.settled _ _)
  case taken =>
    rw [run hk]
    simp only
    rw [takeFields_of_ok (t := s.heard) hok]
    rfl
  case both =>
    subst hd hsp ho
    have ht : touched (spaceMap .policy) 2 3 =
        [⟨2, 2, .rc, 0, fun s => some (le16 (s.flags.get .policy).toNat)⟩,
          rw' 4 1 .defaultTreatment] := rfl
    have hk : writeKind s.link.clearMode (touched (spaceMap .policy) 2 3) 2 [lo, hi, v] =
        .fields (hi ++ lo) [(.defaultTreatment, [v])] := by
      rw [ht, hm, ← leHalf_pair]
      simp [writeKind, fitsExtent, spanEnd, rw', Access.readOnly, writtenFlags, writtenSettings]
    have hv : Setting.accepts [v] .defaultTreatment = true ↔ v = 0 ∨ v = 2 := by
      simp [Setting.accepts, leNat, BitVec.toNat_eq]
    refine ⟨fun hv' => ?_, fun h0 h2 => ?_⟩
    · rw [run hk]
      simp only
      rw [takeFields_of_ok (by simpa [structureOk] using hv.mpr hv')]
      obtain rfl | rfl := hv' <;>
        exact congrArg _ (conclude_of_settled (by exact h.settled) _ _)
    · have hn : Setting.accepts [v] .defaultTreatment = false := by
        exact Bool.eq_false_iff.mpr fun h' => (hv.mp h').elim h0 h2
      rw [run hk]
      simp only
      rw [takeFields_of_not (by simp [hn])]
      exact congrArg _ (conclude_badValue (s := s.heard) h.settled _ _)
  case dest =>
    have hx : exec (.write tag dest off data) s =
        .next (s.receivePacket (writePacket tag dest off data)) := rfl
    have hl : (writePacket tag dest off data).len ≤ 38 := by
      simp only [Packet.len, writePacket]
      omega
    have hlen : 1 ≤ data.length ∧ data.length ≤ 32 := ⟨h1, h2⟩
    rw [hx, State.receivePacket_taken h rfl hl]
    simp [State.dispatch, State.writeRequest, writePacket, hs, hb, hlen, answer_badDest]

end Sys2Proof.Proofs
end

section
/-!
PROOFS. The admission check (R33), one millisecond (R176), the power available (R85), and the requests
MODE (R171) and INJECT (R166).
-/

namespace Sys2Proof.Proofs
open Sys2Proof.Machine

/-! ### The admission check (R33) -/

theorem alarmCellFault_eq (w : BitVec 4) : alarmCellFault w = w.getLsbD 3 := by
  revert w
  decide

theorem alarmOverTemp_eq (w : BitVec 4) : alarmOverTemp w = w.getLsbD 0 := by
  revert w
  decide

theorem presentWithinNat_iff (v : Option (Timed Nat)) (lo hi : Nat) :
    presentWithinNat v lo hi = true ↔ ∃ x, v = some x ∧ lo ≤ x.value ∧ x.value ≤ hi := by
  cases v <;> simp [presentWithinNat]

theorem presentWithinInt_iff (v : Option (Timed Int)) (lo hi : Int) :
    presentWithinInt v lo hi = true ↔ ∃ x, v = some x ∧ lo ≤ x.value ∧ x.value ≤ hi := by
  cases v <;> simp [presentWithinInt]

section
variable {p : Policy} {other : Option Identity} {r : PackRecord}

/-- With no alarm that inhibits, the check looks up the class (R33). -/
theorem admissionCheck_unalarmed (h3 : r.alarmWord.getLsbD 3 = false)
    (h0 : r.alarmWord.getLsbD 0 = false) :
    admissionCheck p other r = match classLimits p r with
      | none => (.quarantined, .unknownClass)
      | some e =>
        if other.map Identity.serial = r.identity.map Identity.serial then
          (.quarantined, .duplicateSerial)
        else if !presentWithinNat r.voltage e.vMin.toNat e.vMax.toNat then
          (.quarantined, .voltageOut)
        else if !presentWithinInt r.temperature e.dMin.toInt e.dMax.toInt then
          (.quarantined, .tempOut)
        else (.online, .none) := by
  rw [admissionCheck, alarmCellFault_eq, alarmOverTemp_eq, h3, h0]
  rfl

theorem classLimits_some {d : Identity} (h : r.identity = some d) :
    classLimits p r = p.classEntry d.cls := by
  simp only [classLimits, h]

theorem classLimits_none (h : r.identity = none) : classLimits p r = none := by
  simp only [classLimits, h]

end

/-- Settles O52, condition by condition. -/
theorem admissionCheckInOrder : Obligations.AdmissionCheckInOrder := by
  unfold Obligations.AdmissionCheckInOrder
  intro p other r
  refine ⟨fun h => ?_, fun w h => ?_, fun h => ?_, fun h3 h0 => ?_, fun h3 h0 hd => ?_,
    fun d h3 h0 hd => ⟨fun hc => ?_, fun e hc => ⟨fun hs => ?_, fun hs => ?_⟩⟩⟩
  · simp [PackRecord.alarmWord, h]
  · simp [PackRecord.alarmWord, h]
  · rw [admissionCheck, alarmCellFault_eq, h]
    rfl
  · rw [admissionCheck, alarmCellFault_eq, alarmOverTemp_eq, h3, h0]
    rfl
  · rw [admissionCheck_unalarmed h3 h0, classLimits_none hd]
  · rw [admissionCheck_unalarmed h3 h0, classLimits_some hd, hc]
  · rw [admissionCheck_unalarmed h3 h0, classLimits_some hd, hc, hd]
    exact if_pos hs
  · have hv := presentWithinNat_iff r.voltage e.vMin.toNat e.vMax.toNat
    have ht := presentWithinInt_iff r.temperature e.dMin.toInt e.dMax.toInt
    have check : admissionCheck p other r =
        if !presentWithinNat r.voltage e.vMin.toNat e.vMax.toNat then (.quarantined, .voltageOut)
        else if !presentWithinInt r.temperature e.dMin.toInt e.dMax.toInt then
          (.quarantined, .tempOut)
        else (.online, .none) := by
      rw [admissionCheck_unalarmed h3 h0, classLimits_some hd, hc, hd]
      exact if_neg hs
    rw [check]
    refine ⟨fun h => ?_, fun h1 h2 => ?_, fun h1 h2 => ?_⟩
    · rw [← hv, Bool.not_eq_true] at h
      rw [h]
      rfl
    · rw [← ht, Bool.not_eq_true] at h2
      rw [hv.mpr h1, h2]
      rfl
    · rw [hv.mpr h1, ht.mpr h2]
      rfl

/-! ### One millisecond (R176) -/

/-- Settles O53: the tick is the millisecond that the rule describes. -/
theorem uptimeTickRunsTheTimers : Obligations.UptimeTickRunsTheTimers := by
  unfold Obligations.UptimeTickRunsTheTimers
  intro s
  exact ⟨s.tick, rfl, rfl, fun i => by cases i <;> rfl⟩

/-! ### The power available (R85) -/

theorem contribution_eq (p : Policy) (y : Bay) :
    y.contribution p =
      if y.role = .off then 0
      else (match y.record.voltage, y.record.identity with
        | some v, _ => v.value
        | none, some d => d.designMv
        | none, none => 0) *
        (match y.record.identity with
        | some d => ((p.classEntry d.cls).map fun e => e.iMax.toNat).getD 0
        | none => 0) / 1000 := by
  simp only [Bay.contribution, Bay.selectionVoltage, classLimits]
  cases y.record.voltage <;> cases y.record.identity <;> rfl

/-- Settles O42, supply state by supply state. -/
theorem powerAvailableByState : Obligations.PowerAvailableByState := by
  unfold Obligations.PowerAvailableByState
  intro s
  refine ⟨fun h => ?_, fun h => ?_, fun h => ⟨fun ha => ?_, fun ha => ?_, fun ha => ?_,
    fun ha => ?_⟩⟩
  · obtain h | h | h := h <;> simp only [availablePower, h]
  · simp only [availablePower, h]
  · obtain ha | ha := ha <;> simp only [availablePower, h, ha] <;> rfl
  · simp only [availablePower, h, ha]
    rfl
  · simp only [availablePower, h, ha]
    rfl
  · simp only [availablePower, h, ha, contribution_eq]
    rfl

/-! ### MODE (R171) -/

theorem dispatch_mode (s : State) (tag dest : Byte) (code : Half) :
    s.dispatch ⟨tag, 4, dest, code, []⟩ = s.modeRequest ⟨tag, 4, dest, code, []⟩ := rfl

theorem exec_mode {s : State} (h : s.Takes) (tag dest : Byte) (code : Half) :
    exec (.mode tag dest code) s = .next (s.heard.modeRequest ⟨tag, 4, dest, code, []⟩) :=
  congrArg Host.Outcome.next (State.receivePacket_taken h rfl (by simp [Packet.len]))

theorem modeOf_unknown {n : Nat} (h : 2 < n) : modeOf n = none := by
  obtain ⟨k, rfl⟩ : ∃ k, n = k + 3 := ⟨n - 3, by omega⟩
  rfl

/-- Settles O23: the mode held changes nothing, another is entered. -/
theorem modeRequestSetsTheMode : Obligations.ModeRequestSetsTheMode := by
  unfold Obligations.ModeRequestSetsTheMode
  intro s tag dest code h
  have run := exec_mode h tag dest code
  refine ⟨fun hc => ?_, fun m hm => ⟨fun he => ?_, fun hn => ⟨s.heard.setMode m, ?_, ?_⟩⟩⟩
  · rw [run, State.modeRequest, modeOf_unknown hc]
    exact congrArg _ (LinkControls.answer_badValue _ _ _)
  · rw [run, State.modeRequest, hm]
    simp only [he, done]
    rw [← State.heard_ctl, setMode_same, conclude_of_settled (by exact h.settled)]
    rfl
  · rw [run, State.modeRequest, hm]
    simp only [done]
    rw [conclude_of_settled (by simpa using h.settled)]
    rfl
  · exact setMode_modeEntered (by simpa using hn.symm)

/-! ### INJECT (R166) -/

theorem exec_inject {s : State} (h : s.Takes) (tag dest count : Byte) (source : Half)
    {bytes : List Byte} (h1 : 1 ≤ bytes.length) (h2 : bytes.length ≤ 32) :
    exec (.inject tag dest source count bytes) s =
      .next (s.heard.injectRequest ⟨tag, 5, dest, source, count :: bytes⟩) := by
  have hl : (⟨tag, 5, dest, source, count :: bytes⟩ : Packet).len ≤ 38 := by
    simp only [Packet.len, List.length_cons]
    omega
  have hn : (2 ≤ bytes.length + 1 && bytes.length + 1 ≤ 33) = true := by
    simp only [Bool.and_eq_true, decide_eq_true_eq]
    omega
  have hd : s.heard.dispatch ⟨tag, 5, dest, source, count :: bytes⟩ =
      s.heard.injectRequest ⟨tag, 5, dest, source, count :: bytes⟩ := if_pos hn
  exact congrArg Host.Outcome.next ((State.receivePacket_taken h rfl hl).trans hd)

/-- Settles O24: the checks on the request, then its source. -/
theorem injectIsCheckedAndHeld : Obligations.InjectIsCheckedAndHeld := by
  unfold Obligations.InjectIsCheckedAndHeld
  intro s tag dest count source bytes h h1 h2
  have run := exec_inject h tag dest count source h1 h2
  refine ⟨fun hn => ?_, fun src xs hx => ⟨fun hr => ?_, fun h3 h4 => ?_⟩⟩
  · rw [run, State.injectRequest, hn]
    exact congrArg _ (LinkControls.answer_badValue _ _ _)
  · have hr' : s.heard.streams.replaces src = false := by
      obtain hr | hr := hr <;> simp [Streams.replaces, hr]
    rw [run, State.injectRequest, hx]
    simp only [hr', Bool.false_eq_true, if_false]
    exact congrArg _ (answer_refused _ _ _)
  · have hr' : s.heard.streams.replaces src = true := by
      simp [Streams.replaces, h3, h4]
    rw [run, State.injectRequest, hx]
    simp only [hr', if_true]
    rfl

end Sys2Proof.Proofs
end

section
/-!
PROOFS. The output pins, stimulus and its end (R165, R168), and the control reset (R192).
-/

namespace Sys2Proof.Proofs
open Sys2Proof.Machine

section
variable {s : State}

/-- The PARK pin has taken its level, unless the outputs are undriven (R168). -/
def parked (u : Bool) (d : DropLog) : DropLog := { d with parkPin := if u then d.parkPin else d.parkLine }

theorem syncPins_eq (s : State) : s.syncPins = { s with
    drop := parked (undriven s) s.drop,
    bays := ⟨pinned (undriven s) s.bays.a, pinned (undriven s) s.bays.b⟩ } := by
  unfold State.syncPins
  cases undriven s <;> rfl

theorem backlight_send (u : Bool) (k : Backlight) : Backlight.send u k =
    { k with lastSent := if u then k.lastSent else k.drive } := by
  cases u <;> rfl

/-- New stimulus values at every block that stimulus reaches (R165, R168). -/
theorem setStimulus_eq (s : State) (u : Streams) : s.setStimulus u =
    let v := u.stimulusOn && !u.drives
    { s with
      streams := u,
      light := { s.light with
        front := s.light.front.replacement (s.streams.replaces .front) (u.replaces .front),
        rear := s.light.rear.replacement (s.streams.replaces .rear) (u.replaces .rear) },
      motion := if s.streams.replaces .accel && !u.replaces .accel then
        { s.motion with accel := s.motion.accel.start s.motion.accel.odr } else s.motion,
      drop := parked v s.drop,
      bays := ⟨pinned v s.bays.a, pinned v s.bays.b⟩,
      back := { s.back with lastSent := if v then s.back.lastSent else s.back.drive } } := by
  simp only [State.setStimulus, syncPins_eq]
  split <;> simp only [State.onBack, backlight_send] <;> rfl

/-! ### Control reset -/

theorem controlReset_owner (t : Traffic) :
    t.controlReset = { t with waiting := [], bus := t.controlReset.bus } := rfl

theorem replaces_fresh (src : Source) : Streams.fresh.replaces src = false := by
  cases src <;> rfl

theorem replacement_ends (b : Bool) (r : Sensor) :
    r.replacement b false = if b = true then r.replacementEnds else r := by
  cases b <;> rfl

/-- A control reset, block by block (R192). -/
theorem controlReset_eq (s : State) : s.controlReset = { s with
    bays := ⟨pinned false { s.bays.a with traffic := s.bays.a.traffic.controlReset },
      pinned false { s.bays.b with traffic := s.bays.b.traffic.controlReset }⟩,
    light := { s.light with
      front := if s.streams.replaces .front then s.light.front.replacementEnds else s.light.front,
      rear := if s.streams.replaces .rear then s.light.rear.replacementEnds else s.light.rear },
    motion := if s.streams.replaces .accel then
      { s.motion with accel := s.motion.accel.start s.motion.accel.odr } else s.motion,
    drop := { s.drop with parkPin := s.drop.parkLine },
    streams := .fresh,
    back := { s.back with lastSent := s.back.drive },
    link := s.link.controlReset } := by
  simp only [State.controlReset, setStimulus_eq, replaces_fresh, replacement_ends, Bool.not_false,
    Bool.and_true]
  rfl

theorem exec_controlReset (h : s.Takes) (tag dest : Byte) :
    exec (.controlReset tag dest) s =
      .next (s.heard.controlReset.answered tag dest 1 .ok []) :=
  congrArg Host.Outcome.next (State.receivePacket_taken h rfl (by simp [Packet.len]))

end

/-- Settles O28, from the reset's equation. -/
theorem controlResetKeepsTheBlocks : Obligations.ControlResetKeepsTheBlocks := by
  unfold Obligations.ControlResetKeepsTheBlocks
  intro s tag dest h
  refine ⟨s.heard.controlReset, exec_controlReset h tag dest, ?_⟩
  rw [controlReset_eq]
  refine ⟨rfl, rfl, fun i => ?_, fun i => ?_, fun i x r b hx ho => ?_, fun i x hx ho => ?_, rfl, rfl,
    rfl, fun i => ?_, fun h => ?_, fun h => ?_⟩
  · cases i <;> rfl
  · cases i <;> exact Option.isSome_map
  · have hb : (Traffic.controlReset (s.bay i).traffic).bus = some { x with owner := .host r false } := by
      simp [Traffic.controlReset, hx, ho]
    cases i <;> exact hb
  · have hb : (Traffic.controlReset (s.bay i).traffic).bus = some x := by
      obtain ⟨o, c, w, z, d, n, l⟩ := x
      cases o <;> simp_all [Traffic.controlReset]
    cases i <;> exact hb
  · cases i <;> rfl
  · exact if_neg (by simpa using h)
  · have hm : (if s.heard.streams.replaces .accel = true then
        { s.motion with accel := s.motion.accel.start s.motion.accel.odr } else s.motion) =
        { s.motion with accel := s.motion.accel.start s.motion.accel.odr } := if_pos h
    simp only [State.heard_motion, hm]
    exact ⟨rfl, trivial⟩

/-! ### The stimulus control (R165) -/

section
variable {s : State}

theorem touched_stimulus : touched (spaceMap .motion) 0x74 3 = [rw' 0x74 3 .stimulus] := rfl

theorem accepts_stimulus (on sources drives : Byte) :
    Setting.accepts [on, sources, drives] .stimulus = true ↔
      on.toNat ≤ 1 ∧ sources.toNat ≤ 7 ∧ drives.toNat ≤ 1 := by
  simp [Setting.accepts, byteAt]
  omega

theorem exec_stimulus (tag on sources drives : Byte) :
    exec (.stimulusControlWrite tag on sources drives) s =
      .next (s.receivePacket (writePacket tag (spaceDest .motion) 0x74 [on, sources, drives])) := rfl

/-- A WRITE of one setting that is accepted whole, and is an event of no other block (R184). -/
theorem settingWrite_taken (h : s.Takes) {tag : Byte} {sp : Space} {off : Half}
    {data : List Byte} {x : Setting} (hn : 0 < data.length) (hle : data.length ≤ 32)
    (ht : touched (spaceMap sp) off.toNat data.length = [rw' off.toNat data.length x])
    (hx : x.accepts data = true)
    (hs : structureOk [x] (x.put data s.heard).policy (x.put data s.heard).motion = true)
    (hp : (x.put data s.heard).afterPuts [x] = x.put data s.heard) :
    s.receivePacket (writePacket tag (spaceDest sp) off data) =
      (x.put data s.heard).closeEvent.answered tag (spaceDest sp) off .ok [] := by
  have e : s.heard.takeFields sp 0 [(x, data)] = (x.put data s.heard, .ok) := by
    simp only [State.takeFields, LinkControls.clearFlags_zero]
    simp [State.putAll, hx, hs, hp]
  rw [LinkControls.receivePacket_settingWrite h hn hle ht, e]
  rfl

theorem put_stimulus {on sources drives : Byte} (h1 : on.toNat ≤ 1) (h3 : drives.toNat ≤ 1) :
    Setting.put [on, sources, drives] s .stimulus = s.setStimulus { s.streams with
      stimulusOn := on == 1, sources := sources.setWidth 3, drives := drives == 1 } := by
  have flag (b : Byte) (hb : b.toNat ≤ 1) : (b.toNat != 0) = (b == 1) := by
    rw [Bool.eq_iff_iff, bne_iff_ne, beq_iff_eq, BitVec.toNat_eq]
    exact ⟨fun h => by simp; omega, fun h => by simp [h]⟩
  simp only [Setting.put, State.writeStimulus, byteAt, List.getElem?_cons_zero,
    List.getElem?_cons_succ, Option.map_some, Option.getD_some, flag on h1, flag drives h3,
    BitVec.ofNat_toNat]

theorem replacement_same {b b' : Bool} (h : b = b') (r : Sensor) : r.replacement b b' = r := by
  subst h
  cases b <;> rfl

end

/-- Settles O40, from the equation of new stimulus values. -/
theorem stimulusReplacesSources : Obligations.StimulusReplacesSources := by
  unfold Obligations.StimulusReplacesSources
  intro s tag on sources drives h
  refine ⟨fun hb => ?_, fun h1 h2 h3 => ?_⟩
  · have hx : Setting.accepts [on, sources, drives] .stimulus = false := by
      rw [← Bool.not_eq_true, accepts_stimulus]
      omega
    rw [exec_stimulus, LinkControls.settingWrite_refused h (by simp) (by simp) rfl hx]
    rfl
  · have hx := (accepts_stimulus on sources drives).mpr ⟨h1, h2, h3⟩
    refine ⟨Setting.put [on, sources, drives] s.heard .stimulus, ?_, ?_⟩
    · rw [exec_stimulus, settingWrite_taken h (by simp) (by simp) rfl hx rfl rfl,
        State.closeEvent_of_settled (by simpa [Setting.put] using h.settled)]
      rfl
    rw [put_stimulus h1 h3, setStimulus_eq]
    refine ⟨rfl, rfl, fun i => ⟨fun he => ?_, fun hb ha => ?_, fun hb ha => ?_⟩, fun hb ha => ?_,
      fun hba => ?_, fun hd => ?_, fun hon hd => ?_⟩
    · cases i <;> exact replacement_same he _
    · cases i <;> simp_all [Light.sensor, Sensor.replacement, Sensor.replacementBegins, sensorSource]
    · cases i <;> simp_all [Light.sensor, Sensor.replacement, sensorSource]
    · exact if_pos (by simp_all)
    · refine if_neg ?_
      obtain hb | ha := hba <;> simp_all
    · have hv : ((on == 1) && !(drives == 1)) = false := by
        obtain hd | hd := hd <;> simp_all
      simp only [hv]
      exact ⟨rfl, rfl, fun i => by cases i <;> rfl⟩
    · have hv : ((on == 1) && !(drives == 1)) = true := by simp_all
      simp only [hv]
      exact ⟨rfl, rfl, rfl⟩

end Sys2Proof.Proofs
end

section
/-!
PROOFS. The actions that owe no re-evaluation: LOCK and UNLOCK (R63), the panel's (R120, R123),
CLEAR_LOG, WAKE_ACK, CLEAR_ALL_FLAGS, and WRITE_ONE_CLEAR (R186).
-/

namespace Sys2Proof.Proofs
open Sys2Proof.Machine

/-! ### An action (R184, R195) -/

/-- The spaces that have the action cell, each with the actions its cell accepts (R195, R198). -/
def ActionAt (sp : Space) (a : Action) : Prop :=
  touched (spaceMap sp) 4 1 = [actionCell] ∧ actionOf sp a.code = some a

section
variable {s : State}

theorem writeKind_action (m : ClearMode) (b : Byte) :
    writeKind m [actionCell] 4 [b] = .action := by
  simp [writeKind, fitsExtent, spanEnd, actionCell]

theorem leNat_byte (b : Byte) : BitVec.ofNat 8 (leNat [b]) = b := by
  simp [leNat]

/-- A hub that takes packets hands an action to its space's owner (R184). -/
theorem receivePacket_action (h : s.Takes) (tag : Byte) {sp : Space} {a : Action}
    (ha : ActionAt sp a) :
    s.receivePacket (actionPacket tag sp a) =
      conclude sp (actionPacket tag sp a) (s.heard.act (spaceBay sp) a) := by
  obtain ⟨ht, ho⟩ := ha
  have hk : writeKind s.heard.link.clearMode
      (touched (spaceMap sp) (actionPacket tag sp a).offset.toNat 1)
      (actionPacket tag sp a).offset.toNat [a.code] = .action := by
    rw [show (actionPacket tag sp a).offset.toNat = 4 from rfl, ht]
    exact writeKind_action _ _
  have hw : s.heard.writeAction sp [a.code] = s.heard.act (spaceBay sp) a := by
    simp only [State.writeAction, leNat_byte, ho]
  have hx := exec_write h tag sp 4 (data := [a.code]) (by simp) (by simp)
  rw [← hw]
  exact (Host.Outcome.next.inj hx).trans (writeSpace_eq _ _ _ [a.code] hk)

/-- An action that owes no re-evaluation (R185). -/
theorem receivePacket_action_done (h : s.Takes) (tag : Byte) {sp : Space} {a : Action}
    (ha : ActionAt sp a) {u : State} {o : Answer} (hu : s.heard.act (spaceBay sp) a = (u, o))
    (hd : u.due = none) :
    s.receivePacket (actionPacket tag sp a) = u.answer sp (actionPacket tag sp a) o [] := by
  rw [receivePacket_action h tag ha, hu, conclude_of_settled hd]

theorem actionAt_bay (i : BayId) :
    ∀ a ∈ [Action.readmit, .clearInhibit, .clearSuspect, .lock, .unlock],
      ActionAt (baySpace i) a := by
  simp only [List.forall_mem_cons]
  cases i <;> exact ⟨⟨rfl, rfl⟩, ⟨rfl, rfl⟩, ⟨rfl, rfl⟩, ⟨rfl, rfl⟩, ⟨rfl, rfl⟩, by simp⟩

theorem spaceBay_baySpace (i : BayId) : spaceBay (baySpace i) = i := by
  cases i <;> rfl

/-! ### LOCK and UNLOCK (R59 to R63) -/

theorem setReasons_unchanged {y : Bay} {r : LockReasons} (c : Bool)
    (h : r.held = y.reasons.held) : y.setReasons c r = { y with reasons := r } := by
  simp only [Bay.setReasons, h]
  cases y.reasons.held <;> rfl

theorem setReasons_filled {y : Bay} {r : LockReasons} (c : Bool) (h : r.held = true)
    (hy : y.reasons.held = false) :
    y.setReasons c r = Bay.setFilled c { y with reasons := r } := by
  simp [Bay.setReasons, h, hy]

theorem setReasons_emptied {y : Bay} {r : LockReasons} (c : Bool) (h : r.held = false)
    (hy : y.reasons.held = true) :
    y.setReasons c r = Bay.setEmptied c { y with reasons := r } := by
  simp [Bay.setReasons, h, hy]

theorem setReasons_solenoidPin (y : Bay) (c : Bool) (r : LockReasons) :
    (y.setReasons c r).solenoidPin = y.solenoidPin := by
  unfold Bay.setReasons Bay.setFilled Bay.setEmptied Bay.engage Bay.disengage
  dsimp only
  (repeat' split) <;> rfl

/-- Where the pins stand at their levels, a change of one bay moves that bay's pin alone (R168). -/
theorem onBay_syncPins_of_outputsSound (hs : s.OutputsSound) (i : BayId) (f : Bay → Bay) :
    (s.onBay i f).syncPins =
      { s with bays := s.bays.set i (pinned (undriven s) (f (s.bay i))) } := by
  rw [syncPins_eq]
  cases hu : undriven s with
  | true =>
    have hu' : undriven (s.onBay i f) = true := hu
    rw [hu']
    cases i <;> rfl
  | false =>
    have hu' : undriven (s.onBay i f) = false := hu
    obtain ⟨hp, ha, hb, -⟩ := hs hu
    have park : parked false s.drop = s.drop := by
      generalize s.drop = d at *
      cases d
      simp_all [parked]
    have keep (y : Bay) (h : y.solenoidPin = y.solenoid) : pinned false y = y := by
      cases y
      simp_all [pinned]
    rw [hu']
    cases i <;>
      simp [State.onBay, State.bay, Both.set, Both.get, park, keep _ ha, keep _ hb]

/-- LOCK and UNLOCK: the bay alone, its pin with it (R63). -/
theorem exec_hostLock (h : s.Takes) (hs : s.OutputsSound) (tag : Byte) (i : BayId) (held : Bool)
    {z : Bay} (hz : (s.bay i).setReasons (s.lines.lockConfirm.get i)
      { (s.bay i).reasons with host := held } = z) :
    exec (if held then .lock tag i else .unlock tag i) s =
      .next ({ s.heard with bays := s.bays.set i { z with
        solenoidPin := if undriven s then (s.bay i).solenoidPin else z.solenoid } }.answered tag
          (spaceDest (baySpace i)) 4 .ok []) := by
  have hz' : pinned (undriven s) z = { z with
      solenoidPin := if undriven s then (s.bay i).solenoidPin else z.solenoid } := by
    rw [pinned, ← hz, setReasons_solenoidPin]
  have hu : s.heard.act i (if held then .lock else .unlock) =
      ({ s.heard with bays := s.bays.set i (pinned (undriven s) z) }, .ok) := by
    have e := onBay_syncPins_of_outputsSound (s := s.heard) hs i fun y =>
      y.setReasons (s.lines.lockConfirm.get i) { y.reasons with host := held }
    rw [← hz]
    cases held <;> exact congrArg (·, Answer.ok) e
  have ha : ActionAt (baySpace i) (if held then .lock else .unlock) :=
    actionAt_bay i _ (by cases held <;> simp)
  have e := receivePacket_action_done (u := { s.heard with
    bays := s.bays.set i (pinned (undriven s) z) }) h tag ha (by rw [spaceBay_baySpace, hu]) h.settled
  rw [← hz']
  cases held <;> exact congrArg Host.Outcome.next e

end

/-- Settles O31: the set is filled, emptied or neither, and the latch follows. -/
theorem hostLockMovesTheLatch : Obligations.HostLockMovesTheLatch := by
  unfold Obligations.HostLockMovesTheLatch
  intro s tag i h hs
  have lock {z} := exec_hostLock h hs tag i true (z := z)
  have unlock {z} := exec_hostLock h hs tag i false (z := z)
  have filled : ({ (s.bay i).reasons with host := true } : LockReasons).held = true := by
    simp [LockReasons.held]
  refine ⟨fun hy => lock ?_, fun hy hl => ⟨fun hc => lock ?_, fun hc => lock ?_⟩,
    fun hy => unlock ?_, fun hy hr => ⟨fun hl => unlock ?_, fun hl => ⟨fun hc => unlock ?_,
      fun hc => unlock ?_⟩⟩⟩
  · cases hh : (s.bay i).reasons.held with
    | true => exact setReasons_unchanged _ (filled.trans hh.symm)
    | false =>
      rw [setReasons_filled _ filled hh]
      unfold Bay.setFilled
      cases hl : (s.bay i).latch <;> simp_all
  · rw [setReasons_filled _ filled hy, hc]
    obtain hl | ⟨hl, hn⟩ := hl <;> simp [Bay.setFilled, Bay.engage, *]
  · rw [setReasons_filled _ filled hy, hc]
    obtain hl | ⟨hl, hn⟩ := hl <;> simp [Bay.setFilled, Bay.engage, *] <;> rfl
  · cases hh : (s.bay i).reasons.held with
    | false => 
      refine setReasons_unchanged _ (Eq.trans ?_ hh.symm)
      simp_all [LockReasons.held]
    | true =>
      cases hr : ({ (s.bay i).reasons with host := false } : LockReasons).held with
      | true => exact setReasons_unchanged _ (hr.trans hh.symm)
      | false =>
        rw [setReasons_emptied _ hr hh]
        unfold Bay.setEmptied
        cases hl : (s.bay i).latch <;> simp_all
  · rw [setReasons_emptied _ hr hy]
    simp [Bay.setEmptied, hl]
  · rw [setReasons_emptied _ hr hy, hc]
    obtain hl | hl := hl <;> simp [Bay.setEmptied, Bay.disengage, hl] <;> rfl
  · rw [setReasons_emptied _ hr hy, hc]
    obtain hl | hl := hl <;> simp [Bay.setEmptied, Bay.disengage, hl]

/-! ### The panel's actions (R120, R123) -/

theorem increasing_iff (l : List CurvePoint) : increasing l = true ↔
    ∀ n p q, l[n]? = some p → l[n + 1]? = some q → p.lux < q.lux := by
  induction l with
  | nil => simp [increasing]
  | cons p ps ih =>
    cases ps with
    | nil => simp [increasing]
    | cons q qs =>
      simp only [increasing, Bool.and_eq_true, decide_eq_true_eq, ih]
      constructor
      · rintro ⟨h0, h⟩ n
        cases n with
        | zero => simpa using h0
        | succ n => simpa using h n
      · exact fun h => ⟨h 0 p q rfl rfl, fun n => by simpa using h (n + 1)⟩

theorem stagedValid_iff (k : Backlight) : k.stagedValid = true ↔
    (2 ≤ k.stagedCount.toNat ∧ k.stagedCount.toNat ≤ 16 ∧
      (∀ p ∈ k.stagedPoints, p.lux ≤ 200000 ∧ p.nits ≤ k.lMax) ∧
      ∀ n p q, k.stagedPoints[n]? = some p → k.stagedPoints[n + 1]? = some q → p.lux < q.lux) := by
  simp only [Backlight.stagedValid, Bool.and_eq_true, decide_eq_true_eq, List.all_eq_true,
    increasing_iff, and_assoc]
  exact Iff.rfl

/-- Settles O32: the staged curve's checks, then each action. -/
theorem panelActionsAct : Obligations.PanelActionsAct := by
  unfold Obligations.PanelActionsAct
  refine ⟨fun k => rfl, stagedValid_iff, fun s tag h => ?_⟩
  have run (a : Action) (ha : ActionAt .light a) (k : Backlight) (o : Answer)
      (hu : s.heard.act .a a = ({ s.heard with back := k }, o)) :
      s.receivePacket (actionPacket tag .light a) =
        { s.heard with back := k }.answer .light (actionPacket tag .light a) o [] :=
    receivePacket_action_done h tag ha hu h.settled
  refine ⟨congrArg _ (run .backlightOn ⟨rfl, rfl⟩ { s.back with on := true } .ok rfl),
    fun ho => congrArg _ (run .backlightOff ⟨rfl, rfl⟩ s.back .ok ?_),
    fun ho => congrArg Host.Outcome.next (run .backlightOff ⟨rfl, rfl⟩ { s.back with
      on := false, lout := 0, drive := 0,
      lastSent := if undriven s then s.back.lastSent else 0 } .ok ?_),
    fun hv => congrArg Host.Outcome.next (run .applyCurve ⟨rfl, rfl⟩ { s.back with
      working := s.back.stagedPoints } .ok ?_),
    fun hv => congrArg Host.Outcome.next
      ((run .applyCurve ⟨rfl, rfl⟩ s.back .badTable ?_).trans (answer_badTable _ _ _))⟩
  · exact if_neg (by simp [ho])
  · refine (if_pos (by exact ho)).trans ?_
    simp only [Backlight.dark, backlight_send]
    rfl
  · exact if_pos (by exact hv)
  · exact if_neg (by simp [hv])

/-! ### Logs, WAKE and flags -/

theorem redirect_removed_of_ne {o : Owner} (h : o ≠ .reverify .record) :
    o.redirect .removed = o := by
  cases o with
  | reverify d => cases d <;> simp_all [Owner.redirect]
  | host r b => rfl
  | alert => rfl
  | identification n => rfl
  | poll => rfl
  | orphan => rfl

theorem leHalf_le16 (m : Half) : leHalf (le16 m.toNat) = m := by
  apply BitVec.eq_of_toNat_eq
  have := m.isLt
  simp only [leHalf, le16, leNat, BitVec.toNat_ofNat]
  omega

/-- A WRITE of the sticky flags alone, by the clear mode (R184, R186). -/
theorem writeKind_flags (m : ClearMode) (sp : Space) (mask : Half) :
    writeKind m (touched (spaceMap sp) 2 2) 2 (le16 mask.toNat) = match m with
      | .writeOneClear => .fields mask []
      | .clearOnRead => .readOnly := by
  have ht : touched (spaceMap sp) 2 2 =
      [⟨2, 2, .rc, 0, fun s => some (le16 (s.flags.get sp).toNat)⟩] := by cases sp <;> rfl
  have hf : leHalf ((le16 mask.toNat).take 2) = mask := leHalf_le16 mask
  rw [ht]
  cases m with
  | writeOneClear =>
    simp only [writeKind, fitsExtent, spanEnd, Access.readOnly, writtenFlags, writtenSettings, hf]
    simp [le16]
  | clearOnRead => simp [writeKind, fitsExtent, spanEnd, Access.readOnly, le16]

/-- Settles O33, action by action. -/
theorem logWakeAndFlagsAreCleared : Obligations.LogWakeAndFlagsAreCleared := by
  unfold Obligations.LogWakeAndFlagsAreCleared
  intro s tag h
  refine ⟨⟨s.heard.clearLog.bays, ?_, fun i => ?_⟩, ?_, ?_, fun sp mask => ⟨fun hm => ?_, fun hm => ?_⟩⟩
  · exact congrArg Host.Outcome.next
      (receivePacket_action_done h tag (sp := .motion) (a := .clearLog) ⟨rfl, rfl⟩ rfl h.settled)
  · have hb : s.heard.clearLog.bays.get i = { s.bay i with
        traffic := (s.bay i).traffic.recordRemoved } := by cases i <;> rfl
    rw [hb]
    generalize s.bay i = y
    refine ⟨rfl, fun hr => ?_, fun hr => ?_, fun hx => ?_, fun x hx => ⟨fun ho => ?_, fun ho => ?_⟩⟩
    · simp [Traffic.recordRemoved, hr]
    · simp [Traffic.recordRemoved, hr]
    · simp [Traffic.recordRemoved, hx]
    · simp [Traffic.recordRemoved, hx, ho, Owner.redirect]
    · simp [Traffic.recordRemoved, hx, redirect_removed_of_ne ho]
  · exact congrArg Host.Outcome.next
      (receivePacket_action_done h tag (sp := .hub) (a := .wakeAck) ⟨rfl, rfl⟩ rfl h.settled)
  · exact congrArg Host.Outcome.next
      (receivePacket_action_done h tag (sp := .hub) (a := .clearAllFlags) ⟨rfl, rfl⟩ rfl h.settled)
  · refine (exec_write h tag sp 2 (by simp [le16]) (by simp [le16])).trans (congrArg _
      ((writeSpace_eq _ _ _ _ ((writeKind_flags _ sp mask).trans
        (by rw [State.heard_clearMode, hm]))).trans ?_))
    simp only
    rw [takeFields_of_ok (by simp [structureOk])]
    exact conclude_of_settled h.settled _ _
  · refine (exec_write h tag sp 2 (by simp [le16]) (by simp [le16])).trans (congrArg _
      ((writeSpace_eq _ _ _ _ ((writeKind_flags _ sp mask).trans
        (by rw [State.heard_clearMode, hm]))).trans ?_))
    exact refuseWrite_eq _ _ _

end Sys2Proof.Proofs
end

section
/-!
PROOFS. Settings that act at their write: the light unit's (R95, R107) and the supply controller's
(R87).
-/

namespace Sys2Proof.Proofs
open Sys2Proof.Machine

section
variable {s : State}

/-- A WRITE of one setting whose event owes no re-evaluation. -/
theorem settingWrite_settled (h : s.Takes) {tag : Byte} {sp : Space} {off : Half}
    {data : List Byte} {x : Setting} (hn : 0 < data.length) (hle : data.length ≤ 32)
    (ht : touched (spaceMap sp) off.toNat data.length = [rw' off.toNat data.length x])
    (hx : x.accepts data = true)
    (hs : structureOk [x] (x.put data s.heard).policy (x.put data s.heard).motion = true)
    (hp : (x.put data s.heard).afterPuts [x] = x.put data s.heard) {u : State}
    (hu : x.put data s.heard = u) (hd : u.due = none) :
    s.receivePacket (writePacket tag (spaceDest sp) off data) =
      u.answered tag (spaceDest sp) off .ok [] := by
  subst hu
  rw [settingWrite_taken h hn hle ht hx hs hp, State.closeEvent_of_settled hd]

theorem leNat_le16 (m : Half) : leNat (le16 m.toNat) = m.toNat := by
  have := m.isLt
  simp only [le16, leNat, BitVec.toNat_ofNat]
  omega

/-! ### The light unit's settings -/

theorem rearm_none {r : Sensor} (limit : Nat) (h : r.stale = none) : r.rearm limit = r := by
  simp only [Sensor.rearm, h]

/-- A running stale timer at a new limit, by the age of the latest sample (R107). -/
theorem rearm_some {r : Sensor} {t : Timer} (limit : Nat) (h : r.stale = some t) :
    r.rearm limit = if limit ≤ t.period - t.left then { r with
        stale := none, condition := if r.condition = .fresh then .stale else r.condition }
      else { r with stale := some ⟨limit, limit - (t.period - t.left)⟩ } := by
  simp only [Sensor.rearm, h]
  rfl

/-- Where a sensor's enable setting stands (R198). -/
def enableOff : SensorId → Half
  | .front => 5
  | .rear => 6

theorem touched_enable (i : SensorId) :
    touched (spaceMap .light) (enableOff i).toNat 1 = [rw' (enableOff i).toNat 1 (.enable i)] := by
  cases i <;> rfl

theorem exec_sensorEnable (tag value : Byte) (i : SensorId) :
    exec (.sensorEnableWrite tag i value) s =
      .next (s.receivePacket (writePacket tag (spaceDest .light) (enableOff i) [value])) := by
  cases i <;> rfl

theorem onSensor_eq (u : Light) (i : SensorId) (f : Sensor → Sensor) :
    u.onSensor i f = u.onSensor i fun _ => f (u.sensor i) := by
  cases i <;> rfl

/-- An enable setting taken: the sensor is evaluated at the write (R95). -/
theorem exec_sensorEnable_taken (h : s.Takes) (tag : Byte) (i : SensorId) (on : Bool) {r : Sensor}
    (hr : Sensor.evaluate (s.ctl.mode == .active) (s.streams.replaces (sensorSource i))
      { s.light.sensor i with enable := on } = r) :
    exec (.sensorEnableWrite tag i (if on then 1 else 0)) s = .next ({ s.heard with
      light := s.light.onSensor i fun _ => r }.answered tag 0x05 (enableOff i) .ok []) := by
  have hu : Setting.put [if on then 1 else 0] s.heard (.enable i) =
      { s.heard with light := s.light.onSensor i fun _ => r } := by
    rw [← hr]
    cases i <;> cases on <;> rfl
  rw [exec_sensorEnable, settingWrite_settled (x := .enable i) h (by simp) (by simp)
    (touched_enable i) (by cases on <;> rfl) (by rw [hu]; rfl) (by rw [hu]; rfl) hu h.settled]
  rfl

end

/-- Settles O36: the evaluation of the enable setting, the age of each latest sample. -/
theorem lightSettingsActAtOnce : Obligations.LightSettingsActAtOnce := by
  unfold Obligations.LightSettingsActAtOnce
  refine ⟨fun s tag value i h => ?_, fun s tag value h => ?_⟩
  · have take {r} := exec_sensorEnable_taken h tag i true (r := r)
    have drop {r} := exec_sensorEnable_taken h tag i false (r := r)
    refine ⟨fun hv => ?_, fun hv => ⟨fun hc => ?_, fun hc => ?_⟩,
      fun hv => ⟨fun hm hc => ?_, fun hm hc => ?_, fun hm hc => ?_⟩⟩
    · rw [exec_sensorEnable, LinkControls.settingWrite_refused h (by simp) (by simp)
        (touched_enable i) (by simpa [Setting.accepts, leNat] using hv)]
      rfl
    all_goals subst hv
    · exact drop (by simp [Sensor.evaluate, hc])
    · exact drop (by simp [Sensor.evaluate, hc, Sensor.disabled])
    · exact take (by simp [Sensor.evaluate, hc, hm])
    · exact take (by simp [Sensor.evaluate, hc, hm])
    · refine take ?_
      simp only [Sensor.evaluate, hc, hm, Sensor.enabled]
      cases s.streams.replaces (sensorSource i) <;> rfl
  · have hput : Setting.put (le16 value.toNat) s.heard .staleLimit =
        { s.heard with light := Light.setStaleLimit (clampNat 200 5000 value.toNat) s.light } := by
      simp only [Setting.put, leNat_le16]
      rfl
    refine ⟨Light.setStaleLimit (clampNat 200 5000 value.toNat) s.light, ?_, rfl, fun i => ?_⟩
    · exact congrArg Host.Outcome.next (settingWrite_settled (x := .staleLimit) (sp := .light) h
        (by simp [le16]) (by simp [le16]) rfl rfl rfl rfl hput h.settled)
    have hi : (Light.setStaleLimit (clampNat 200 5000 value.toNat) s.light).sensor i =
        (s.light.sensor i).rearm (clampNat 200 5000 value.toNat) := by cases i <;> rfl
    rw [hi]
    refine ⟨fun hn => rearm_none _ hn, fun t ht => ⟨fun hl => ?_, fun hl => ?_⟩⟩
    · rw [rearm_some _ ht]
      exact if_neg (by exact not_le.mpr hl)
    · rw [rearm_some _ ht]
      exact if_pos hl

/-! ### The supply controller's settings (R87) -/

section
variable {s : State}

/-- A WRITE of supply settings that are accepted: an event of the re-evaluation (R87). -/
theorem exec_supplySetting (h : s.Takes) (tag : Byte) (off : Half) {data : List Byte}
    {xs : List (Setting × List Byte)} (h1 : 1 ≤ data.length) (h2 : data.length ≤ 32)
    (hk : writeKind s.link.clearMode (touched (spaceMap .supply) off.toNat data.length)
      off.toNat data = .fields 0 xs)
    (hx : xs.all (fun x => x.1.accepts x.2) = true) {u : Supply}
    (hu : State.putAll xs s.heard = { s.heard with supply := u, due := some .other })
    (hs : structureOk (xs.map Prod.fst) s.policy s.motion = true)
    (hp : ∀ t : State, t.afterPuts (xs.map Prod.fst) = t) :
    exec (.supplySettingWrite tag off data) s = .next
      ((State.closeEvent { s.heard with supply := u, due := some .other }).answered tag 0x04 off
        .ok []) := by
  have hw : exec (.supplySettingWrite tag off data) s =
      exec (.write tag (spaceDest .supply) off data) s := rfl
  rw [hw, exec_write h tag .supply off h1 h2, writeSpace_eq _ _ _ _ hk]
  simp only
  rw [takeFields_of_ok]
  · rw [LinkControls.clearFlags_zero, hu, hp]
    rfl
  · rw [LinkControls.clearFlags_zero, hu, hx]
    exact hs

/-- A WRITE of one supply setting. -/
theorem exec_supplySetting_one (h : s.Takes) (tag : Byte) (off : Half) {data : List Byte}
    {x : Setting} {n : Nat} (hn : data.length = n) (h1 : 1 ≤ n) (h2 : n ≤ 32)
    (ht : touched (spaceMap .supply) off.toNat n = [rw' off.toNat n x])
    (hx : x.accepts data = true) {u : Supply}
    (hu : x.put data s.heard = { s.heard with supply := u, due := some .other })
    (hs : structureOk [x] s.policy s.motion = true)
    (hp : ∀ t : State, t.afterPuts [x] = t) :
    exec (.supplySettingWrite tag off data) s = .next
      ((State.closeEvent { s.heard with supply := u, due := some .other }).answered tag 0x04 off
        .ok []) := by
  subst hn
  refine exec_supplySetting h tag off h1 h2 (xs := [(x, data)]) ?_ (by simp [hx]) hu hs hp
  rw [ht, LinkControls.writeKind_rw']

/-- Storing a supply setting where nothing is owed yet (R87). -/
theorem writeSupply_eq (h : s.due = none) (f : Supply → Supply) :
    s.heard.writeSupply f = { s.heard with supply := f s.supply, due := some .other } := by
  have hd : s.heard.due = none := h
  simp only [State.writeSupply, State.owe, State.onSupply_frame, hd]
  rfl

end

/-- Settles O38, setting by setting. -/
theorem supplySettingsAreEvents : Obligations.SupplySettingsAreEvents := by
  unfold Obligations.SupplySettingsAreEvents
  intro s tag data h
  have store := fun f => writeSupply_eq (s := s) h.settled f
  have one {off x n u} (hn : data.length = n) := exec_supplySetting_one h tag off (x := x) (u := u) hn
  refine ⟨fun hn => ⟨fun o ho => one hn (by omega) (by omega) rfl ?_ ?_ rfl fun t => rfl, fun ho => ?_,
    one hn (by omega) (by omega) rfl rfl (store _) rfl fun t => rfl,
    one hn (by omega) (by omega) rfl rfl (store _) rfl fun t => rfl, ?_⟩,
    fun hn => ⟨one hn (by omega) (by omega) rfl rfl (store _) rfl fun t => rfl,
    one hn (by omega) (by omega) rfl rfl (store _) rfl fun t => rfl,
    one hn (by omega) (by omega) rfl rfl (store _) rfl fun t => rfl, ?_⟩,
    fun hn => ⟨one hn (by omega) (by omega) rfl rfl (store _) rfl fun t => rfl,
    one hn (by omega) (by omega) rfl rfl (store _) rfl fun t => rfl⟩⟩
  · simp [Setting.accepts, ho]
  · refine (store _).trans ?_
    simp only [ho, Option.getD_some]
  · have hw : exec (.supplySettingWrite tag 0x20 data) s =
        .next (s.receivePacket (writePacket tag (spaceDest .supply) 0x20 data)) := rfl
    rw [hw, LinkControls.settingWrite_refused (x := .hold) h (by omega) (by omega) (by rw [hn]; rfl)
      (by simp [Setting.accepts, ho])]
    rfl
  · have hw := exec_write h tag .supply 0x21 (data := data) (by omega) (by omega)
    have hk : writeKind s.heard.link.clearMode (touched (spaceMap .supply) 0x21 data.length) 0x21 data =
        .outside := by
      have ht : touched (spaceMap .supply) 0x21 1 = [rw' 0x21 2 .readyThreshold] := rfl
      rw [hn, ht]
      simp [writeKind, fitsExtent, spanEnd, rw', hn]
    exact hw.trans (congrArg _ ((writeSpace_eq (k := .outside) _ _ _ _ hk).trans (answer_badOffset _ _ _)))
  · obtain ⟨a, b, rfl⟩ := List.length_eq_two.mp hn
    refine exec_supplySetting h tag 0x23 (by omega) (by omega)
      (xs := [(.bridgeLimit, [a]), (.saveWindow, [b])]) rfl rfl ?_ rfl fun t => rfl
    have hd : s.heard.due = none := h.settled
    simp only [State.putAll, Setting.put, State.writeSupply, State.owe, State.onSupply_frame, hd]
    rfl

end Sys2Proof.Proofs
end

section
/-!
PROOFS. The three tables that are written as whole entries (R3, R31, R145, R184).
-/

namespace Sys2Proof.Proofs
open Sys2Proof.Machine

/-! ### Extents of whole entries -/

/-- The entries `e` to `e + k - 1` of a table that begins at `base` (R198). -/
def tableLocs (base size : Nat) (x : Nat → Setting) (e k : Nat) : List Loc :=
  (List.range' e k).map fun n => rw' (base + size * n) size (x n)

section
variable {base size : Nat} {x : Nat → Setting}

theorem tableLocs_succ (e k : Nat) : tableLocs base size x e (k + 1) =
    rw' (base + size * e) size (x e) :: tableLocs base size x (e + 1) k := by
  simp [tableLocs, List.range'_succ]

theorem spanEnd_tableLocs (e k : Nat) :
    spanEnd (base + size * e) (tableLocs base size x e k) = some (base + size * (e + k)) := by
  induction k generalizing e with
  | zero => rfl
  | succ k ih =>
    have he : base + size * e + size = base + size * (e + 1) := by ring
    have hk : e + (k + 1) = e + 1 + k := by omega
    rw [tableLocs_succ]
    refine (if_pos rfl).trans ?_
    rw [hk, ← ih]
    exact congrArg (spanEnd · _) he

theorem fitsExtent_tableLocs (e : Nat) {k : Nat} (hk : 0 < k) :
    fitsExtent (tableLocs base size x e k) (base + size * e) (size * k) = true := by
  obtain ⟨k, rfl⟩ := Nat.exists_eq_succ_of_ne_zero hk.ne'
  have hs := spanEnd_tableLocs (base := base) (size := size) (x := x) e (k + 1)
  rw [tableLocs_succ] at hs
  rw [Nat.succ_eq_add_one, tableLocs_succ]
  simp only [fitsExtent]
  rw [show (rw' (base + size * e) size (x e)).off = base + size * e from rfl, hs]
  simp [Nat.mul_add, Nat.add_assoc]

theorem writtenFlags_tableLocs (e k : Nat) (data : List Byte) :
    writtenFlags (tableLocs base size x e k) data = 0 := by
  induction k generalizing e data with
  | zero => rfl
  | succ k ih =>
    rw [tableLocs_succ]
    exact ih _ _

/-- Each entry's bytes go to its setting (R184). -/
theorem writtenSettings_tableLocs (e k : Nat) (data : List Byte) :
    writtenSettings (tableLocs base size x e k) data =
      (List.range k).map fun j => (x (e + j), (data.drop (size * j)).take size) := by
  induction k generalizing e data with
  | zero => rfl
  | succ k ih =>
    rw [tableLocs_succ, List.range_succ_eq_map, List.map_cons, List.map_map]
    simp only [writtenSettings, rw', Nat.add_zero, Nat.mul_zero, List.drop_zero, ih]
    refine congrArg (_ :: ·) (List.map_congr_left fun j _ => ?_)
    have he : e + 1 + j = e + (j + 1) := by omega
    have hj : size + size * j = size * (j + 1) := by ring
    simp only [Function.comp, List.drop_drop, he, hj]

theorem writeKind_tableLocs (m : ClearMode) (e : Nat) {k : Nat} (hk : 0 < k) {data : List Byte}
    (hd : data.length = size * k) :
    writeKind m (tableLocs base size x e k) (base + size * e) data =
      .fields 0 ((List.range k).map fun j => (x (e + j), (data.drop (size * j)).take size)) := by
  have plain (f : Access → Bool) (hf : ∀ n, f (.rw (x n)) = false) :
      (tableLocs base size x e k).any (fun l => f l.access) = false := by
    simp [tableLocs, rw', hf]
  have hac := plain (· == .ac) fun n => rfl
  have hro := plain (Access.readOnly m) fun n => rfl
  simp only [writeKind, hd, fitsExtent_tableLocs e hk, hac, hro, writtenFlags_tableLocs,
    writtenSettings_tableLocs, Bool.not_true, Bool.false_eq_true, if_false]

/-- The numbers of an interval, picked from a range. -/
theorem filter_range_interval {N e k : Nat} (h : e + k ≤ N) :
    (List.range N).filter (fun n => decide (e ≤ n) && decide (n < e + k)) = List.range' e k := by
  obtain ⟨r, rfl⟩ := Nat.exists_eq_add_of_le h
  have before : (List.range e).filter (fun n => decide (e ≤ n) && decide (n < e + k)) = [] := by
    simp only [List.filter_eq_nil_iff, List.mem_range, Bool.and_eq_true, decide_eq_true_eq]
    omega
  have within : ((List.range k).map (e + ·)).filter
      (fun n => decide (e ≤ n) && decide (n < e + k)) = (List.range k).map (e + ·) := by
    simp [List.filter_eq_self]
  have after : ((List.range r).map (e + k + ·)).filter
      (fun n => decide (e ≤ n) && decide (n < e + k)) = [] := by
    simp [List.filter_eq_nil_iff]
  rw [List.range_add, List.range_add, List.filter_append, List.filter_append, before, within, after,
    List.range'_eq_map_range]
  simp

/-- The entries that an extent of whole entries touches. -/
theorem touched_table {N e k : Nat} (hs : 0 < size) (h : e + k ≤ N) :
    touched ((List.range N).map fun n => rw' (base + size * n) size (x n)) (base + size * e)
      (size * k) = tableLocs base size x e k := by
  have hp : (fun l : Loc => decide (l.off < base + size * e + size * k) &&
      decide (base + size * e < l.off + l.size)) ∘ (fun n => rw' (base + size * n) size (x n)) =
      fun n => decide (e ≤ n) && decide (n < e + k) := by
    funext n
    have h1 : base + size * n < base + size * e + size * k ↔ n < e + k := by
      rw [add_assoc, ← mul_add, Nat.add_lt_add_iff_left, Nat.mul_lt_mul_left hs]
    have h2 : base + size * e < base + size * n + size ↔ e ≤ n := by
      rw [add_assoc, Nat.add_lt_add_iff_left, ← Nat.mul_succ, Nat.mul_lt_mul_left hs, Nat.lt_succ_iff]
    rw [Bool.eq_iff_iff]
    simp only [Function.comp, rw', Bool.and_eq_true, decide_eq_true_eq, h1, h2]
    exact and_comm
  rw [touched, List.filter_map, hp, filter_range_interval h]
  rfl

end

theorem touched_append (l l' : List Loc) (off n : Nat) :
    touched (l ++ l') off n = touched l off n ++ touched l' off n := List.filter_append ..

/-- Locations that end before an extent, or begin after it, are not touched. -/
theorem touched_apart {ls : List Loc} {off n : Nat}
    (h : ∀ l ∈ ls, l.off + l.size ≤ off ∨ off + n ≤ l.off) : touched ls off n = [] := by
  rw [touched, List.filter_eq_nil_iff]
  intro l hl
  have := h l hl
  simp
  omega

theorem touched_commands {e k : Nat} (h : e + k ≤ 32) :
    touched (spaceMap .policy) (0x100 + 8 * e) (8 * k) = tableLocs 0x100 8 .command e k := by
  simp only [spaceMap, policyMap, touched_append]
  rw [touched_table (base := 0x100) (size := 8) (by omega) h, touched_apart, touched_apart,
    touched_apart, List.nil_append, List.nil_append, List.append_nil]
  · simp [rw']
    omega
  · simp [rw']
    omega
  · simp [identityRecord, ro]
    omega

theorem touched_admission {e k : Nat} (h : e + k ≤ 8) :
    touched (spaceMap .policy) (0x200 + 16 * e) (16 * k) = tableLocs 0x200 16 .admission e k := by
  simp only [spaceMap, policyMap, touched_append]
  rw [touched_table (base := 0x200) (size := 16) (by omega) h, touched_apart, touched_apart,
    touched_apart, List.nil_append, List.nil_append, List.nil_append]
  · simp [rw']
    omega
  · simp [rw']
    omega
  · simp [identityRecord, ro]
    omega

theorem touched_actions {e k : Nat} (h : e + k ≤ 6) :
    touched (spaceMap .motion) (0x68 + e) k = tableLocs 0x68 1 .action e k := by
  simp only [spaceMap, motionMap, touched_append]
  have ht := touched_table (base := 0x68) (size := 1) (x := .action) (by omega) h
  simp only [one_mul] at ht
  rw [ht, touched_apart, touched_apart, touched_apart, touched_apart]
  · simp
  · simp [windowMap, windowAll, windowOpt, roOpt]
    omega
  · simp [rw', ro]
    omega
  · simp [rw', ro, roOpt, actionCell, latestOpt, workOpt, snapshotOpt]
    omega
  · simp [identityRecord, ro]
    omega

/-! ### Entries taken together (R184) -/

section
variable {s : State}

/-- A table with the entries `e + j` replaced, for the numbers `j` in their order. -/
def entriesSet {α : Type} (js : List Nat) (e : Nat) (f : Nat → α) (l : List α) : List α :=
  js.foldl (fun l j => l.set (e + j) (f j)) l

theorem putAll_commands (js : List Nat) (e : Nat) (bs : Nat → List Byte) (s : State) :
    State.putAll (js.map fun j => (.command (e + j), bs j)) s = { s with
      policy := { s.policy with
        commands := entriesSet js e (fun j => (commandOf (bs j)).clamp) s.policy.commands } } := by
  induction js generalizing s with
  | nil => rfl
  | cons j js ih =>
    rw [List.map_cons, State.putAll, ih]
    rfl

theorem putAll_actions (js : List Nat) (e : Nat) (bs : Nat → List Byte) (s : State) :
    State.putAll (js.map fun j => (.action (e + j), bs j)) s = { s with
      drop := { s.drop with
        table := entriesSet js e (fun j => BitVec.ofNat 6 (leNat (bs j))) s.drop.table } } := by
  induction js generalizing s with
  | nil => rfl
  | cons j js ih =>
    rw [List.map_cons, State.putAll, ih]
    rfl

theorem owe_other_of_other (h : s.due = some .other) : s.owe .other = s := by
  have : s.owe .other = { s with due := some .other } := by
    simp [State.owe, h]
  rw [this, ← h]

/-- Admission entries taken are one event of the re-evaluation (R78). -/
theorem putAll_admission (js : List Nat) (e : Nat) (bs : Nat → List Byte) (s : State)
    (h : s.due = some .other) :
    State.putAll (js.map fun j => (.admission (e + j), bs j)) s = { s with
      policy := { s.policy with
        admission := entriesSet js e (fun j => (admissionOf (bs j)).clamp) s.policy.admission } } := by
  induction js generalizing s with
  | nil => rfl
  | cons j js ih =>
    have hp : Setting.put (bs j) s (.admission (e + j)) = s.onPolicy fun p =>
        { p with admission := p.admission.set (e + j) (admissionOf (bs j)).clamp } :=
      owe_other_of_other (by exact h)
    rw [List.map_cons, State.putAll, hp, ih _ (by exact h)]
    rfl

theorem putAll_admission_owes (hd : s.due = none) {k : Nat} (hk : 0 < k) (e : Nat)
    (bs : Nat → List Byte) :
    State.putAll ((List.range k).map fun j => (.admission (e + j), bs j)) s = { s with
      policy := { s.policy with
        admission := entriesSet (List.range k) e (fun j => (admissionOf (bs j)).clamp)
          s.policy.admission },
      due := some .other } := by
  obtain ⟨k, rfl⟩ := Nat.exists_eq_succ_of_ne_zero hk.ne'
  have hp : Setting.put (bs 0) s (.admission (e + 0)) = { s with
      policy := { s.policy with
        admission := s.policy.admission.set (e + 0) (admissionOf (bs 0)).clamp },
      due := some .other } := by
    simp only [Setting.put, State.owe, State.onPolicy_frame, hd]
    rfl
  rw [Nat.succ_eq_add_one, List.range_succ_eq_map, List.map_cons, State.putAll, hp,
    putAll_admission _ _ _ _ rfl]
  rfl

/-- A WRITE of fields that clears no flag (R184). -/
theorem exec_write_fields (h : s.Takes) (tag : Byte) (sp : Space) (off : Half) {data : List Byte}
    (h1 : 1 ≤ data.length) (h2 : data.length ≤ 32) {xs : List (Setting × List Byte)}
    (hk : writeKind s.link.clearMode (touched (spaceMap sp) off.toNat data.length) off.toNat data =
      .fields 0 xs) :
    exec (.write tag (spaceDest sp) off data) s = .next
      (if xs.all (fun x => x.1.accepts x.2) && structureOk (xs.map Prod.fst)
          (State.putAll xs s.heard).policy (State.putAll xs s.heard).motion
        then (((State.putAll xs s.heard).afterPuts (xs.map Prod.fst)).closeEvent).answered tag
          (spaceDest sp) off .ok []
        else { s.heard with flags := s.flags.raised sp (2 ||| 8) }.answered tag (spaceDest sp) off
          .badValue []) := by
  rw [exec_write h tag sp off h1 h2, writeSpace_eq _ _ _ _ hk]
  simp only [State.takeFields, LinkControls.clearFlags_zero]
  split
  · rfl
  · exact congrArg _ (conclude_badValue (s := s.heard) h.settled _ _)

end

/-- The entries of a WRITE of whole entries from `e` on, each with its bytes (R184). -/
def entriesOf (x : Nat → Setting) (e size k : Nat) (data : List Byte) :
    List (Setting × List Byte) :=
  (List.range k).map fun j => (x (e + j), (data.drop (size * j)).take size)

theorem entriesOf_names (x : Nat → Setting) (e size k : Nat) (data : List Byte) :
    (entriesOf x e size k data).map Prod.fst = (List.range k).map fun j => x (e + j) := by
  simp [entriesOf]

theorem entriesOf_all (x : Nat → Setting) (e size k : Nat) (data : List Byte) :
    (entriesOf x e size k data).all (fun y => y.1.accepts y.2) =
      (List.range k).all fun j => (x (e + j)).accepts ((data.drop (size * j)).take size) := by
  simp only [entriesOf, List.all_map]
  rfl

/-- Whole command entries meet the check of the codes alone (R3). -/
theorem structureOk_commands {k : Nat} (hk : 0 < k) (e : Nat) (p : Policy) (m : Motion) :
    structureOk ((List.range k).map fun j => .command (e + j)) p m = codesUnique p.commands := by
  have hn : ∃ j, j < k := ⟨0, hk⟩
  rw [Bool.eq_iff_iff, structureOk_iff]
  simp [Setting.isCommand, Setting.isAdmission, Setting.isThreshold, hn]

/-- Whole admission entries meet the check of the classes alone (R31). -/
theorem structureOk_admission {k : Nat} (hk : 0 < k) (e : Nat) (p : Policy) (m : Motion) :
    structureOk ((List.range k).map fun j => .admission (e + j)) p m =
      classesUnique p.admission := by
  have hn : ∃ j, j < k := ⟨0, hk⟩
  rw [Bool.eq_iff_iff, structureOk_iff]
  simp [Setting.isCommand, Setting.isAdmission, Setting.isThreshold, hn]

theorem structureOk_actions (js : List Nat) (e : Nat) (p : Policy) (m : Motion) :
    structureOk (js.map fun j => .action (e + j)) p m = true := by
  rw [structureOk_iff]
  simp [Setting.isCommand, Setting.isAdmission, Setting.isThreshold]

/-- Entries are neither L_max nor Q. -/
theorem afterPuts_entries (s : State) (js : List Nat) {x : Nat → Setting}
    (h : ∀ j, x j ≠ .lMax ∧ x j ≠ .q) : s.afterPuts (js.map x) = s := by
  refine if_neg ?_
  simp only [Bool.or_eq_true, List.contains_iff_mem, List.mem_map, not_or, not_exists, not_and]
  exact ⟨fun j _ => (h j).1, fun j _ => (h j).2⟩

/-- A WRITE of whole entries is taken whole or refused whole (R184). -/
theorem exec_write_entries {s : State} (h : s.Takes) (tag : Byte) (sp : Space)
    {base size e k : Nat} {x : Nat → Setting} {data : List Byte} (hk : 0 < k)
    (hd : data.length = size * k) (h1 : 1 ≤ data.length) (h2 : data.length ≤ 32)
    (ht : touched (spaceMap sp) (base + size * e) (size * k) = tableLocs base size x e k)
    (hx : ∀ j, x j ≠ .lMax ∧ x j ≠ .q) (hb : base + size * e < 65536) :
    exec (.write tag (spaceDest sp) (BitVec.ofNat 16 (base + size * e)) data) s = .next
      (if (List.range k).all (fun j => (x (e + j)).accepts ((data.drop (size * j)).take size)) &&
          structureOk ((List.range k).map fun j => x (e + j))
            (State.putAll (entriesOf x e size k data) s.heard).policy
            (State.putAll (entriesOf x e size k data) s.heard).motion
        then ((State.putAll (entriesOf x e size k data) s.heard).closeEvent).answered tag
          (spaceDest sp) (BitVec.ofNat 16 (base + size * e)) .ok []
        else { s.heard with flags := s.flags.raised sp (2 ||| 8) }.answered tag (spaceDest sp)
          (BitVec.ofNat 16 (base + size * e)) .badValue []) := by
  have hoff : (BitVec.ofNat 16 (base + size * e)).toNat = base + size * e := by
    rw [BitVec.toNat_ofNat]
    exact Nat.mod_eq_of_lt hb
  have hw : writeKind s.link.clearMode (touched (spaceMap sp)
      (BitVec.ofNat 16 (base + size * e)).toNat data.length)
      (BitVec.ofNat 16 (base + size * e)).toNat data =
      .fields 0 (entriesOf x e size k data) := by
    rw [hoff, hd, ht]
    exact writeKind_tableLocs _ _ hk hd
  rw [exec_write_fields h tag sp _ h1 h2 hw, entriesOf_all, entriesOf_names,
    afterPuts_entries _ _ fun j => hx (e + j)]

theorem ite_bool_pair {b : Bool} {α : Type} {r u v : α} (h : r = if b then u else v) :
    (b = true → r = u) ∧ (b = false → r = v) := by
  subst h
  cases b <;> simp

theorem leNat_byteOf (data : List Byte) (j : Nat) : leNat ((data.drop j).take 1) = byteAt data j := by
  rw [byteAt, ← List.head?_drop]
  cases data.drop j <;> simp [leNat]

/-- Action sets of a WRITE are accepted where each names known actions alone (R145, R196). -/
theorem actions_accepted (e : Nat) (data : List Byte) :
    ((List.range data.length).all fun j =>
      (Setting.action (e + j)).accepts ((data.drop (1 * j)).take 1)) =
      data.all fun b => decide (b.toNat < 64) := by
  simp only [Setting.accepts, one_mul, leNat_byteOf]
  rw [Bool.eq_iff_iff]
  simp only [List.all_eq_true, List.mem_range, decide_eq_true_eq, List.forall_mem_iff_getElem]
  refine forall₂_congr fun j hj => ?_
  simp [byteAt, hj]

/-- Settles O34, table by table. -/
theorem tablesAreWrittenWhole : Obligations.TablesAreWrittenWhole := by
  unfold Obligations.TablesAreWrittenWhole
  refine ⟨fun s tag e data k h hd h1 h4 he => ?_, fun s tag e data k h hd h1 h2 he => ?_,
    fun s tag e data h h1 he => ?_⟩
  · have hx := exec_write_entries h tag .policy (x := .command) h1 hd (by omega) (by omega)
      (touched_commands he) (by simp) (by omega)
    rw [entriesOf, putAll_commands, structureOk_commands h1, State.closeEvent_of_settled
      (by exact h.settled)] at hx
    exact ite_bool_pair (r := exec (.bayCommandTableWrite tag e data) s)
      (hx.trans (apply_ite Host.Outcome.next _ _ _))
  · have hx := exec_write_entries h tag .policy (x := .admission) h1 hd (by omega) (by omega)
      (touched_admission he) (by simp) (by omega)
    rw [entriesOf, putAll_admission_owes (s := s.heard) h.settled h1, structureOk_admission h1] at hx
    exact ite_bool_pair (r := exec (.admissionTableWrite tag e data) s)
      (hx.trans (apply_ite Host.Outcome.next _ _ _))
  · have hx := exec_write_entries h tag .motion (base := 0x68) (size := 1) (x := .action) h1
      (one_mul _).symm h1 (by omega)
      (by simpa using touched_actions he) (by simp) (by omega)
    rw [entriesOf, putAll_actions, structureOk_actions, State.closeEvent_of_settled
      (by exact h.settled), Bool.and_true, actions_accepted] at hx
    simp only [one_mul, leNat_byteOf] at hx
    obtain ⟨h64, hno⟩ := ite_bool_pair (r := exec (.dropActionTableWrite tag e data) s)
      (hx.trans (apply_ite Host.Outcome.next _ _ _))
    refine ⟨fun hb => h64 ?_, fun ⟨b, hb, hn⟩ => hno ?_⟩
    · simpa using hb
    · simpa using ⟨b, hb, hn⟩

end Sys2Proof.Proofs
end

section
/-!
PROOFS. The end of an event (R78 to R86): what one re-evaluation does, and the deferred trips (R53).
-/

namespace Sys2Proof.Proofs
open Sys2Proof.Machine

section
variable {s : State}

/-! ### What steps 3 to 7 change -/

theorem selectDischarge_eq (s : State) :
    s.selectDischarge = { s with bays := s.selectDischarge.bays } := by
  unfold State.selectDischarge
  split <;> rfl

theorem selectCharge_eq (s : State) :
    s.selectCharge = { s with bays := s.selectCharge.bays } := rfl

theorem parked_parked (u : Bool) (d : DropLog) : parked u (parked u d) = parked u d := by
  cases u <;> rfl

theorem setReasons_state (s : State) (i : BayId) (f : LockReasons → LockReasons) :
    s.setReasons i f = { s with
      bays := (s.setReasons i f).bays, drop := parked (undriven s) s.drop } := by
  rw [State.setReasons, syncPins_eq]
  rfl

theorem setLastSupply_state (f : LockReasons → LockReasons) (s : State) :
    s.setLastSupply f = { s with
      bays := (s.setLastSupply f).bays, drop := parked (undriven s) s.drop } := by
  unfold State.setLastSupply
  rw [setReasons_state, undriven_setReasons, setReasons_state s]
  simp only [parked_parked]

theorem allowPower_state (s : State) :
    s.allowPower = { s with supply := s.allowPower.supply, back := s.allowPower.back } := by
  unfold State.allowPower
  dsimp only
  split <;> rfl

theorem allowPower_pbl (s : State) : s.allowPower.back.pbl = s.allowPower.supply.pbl := by
  unfold State.allowPower
  dsimp only
  split
  next h => exact h.symm
  next => exact (reclamp_panel _ _).2.2.1

theorem gated_drop (f : LockReasons → LockReasons) (s : State) :
    (gated f s).drop = parked (undriven s) s.drop := by
  have h1 : (gated f s).drop = (s.selectDischarge.selectCharge.setLastSupply f).drop := by
    rw [gated, allowPower_state]
  rw [h1, setLastSupply_state]
  simp [undriven]

theorem gated_state (f : LockReasons → LockReasons) (s : State) : gated f s = { s with
    bays := (gated f s).bays, supply := (gated f s).supply, back := (gated f s).back,
    drop := parked (undriven s) s.drop } := by
  have hd := gated_drop f s
  have h : (gated f s).pending = s.pending ∧ (gated f s).lines = s.lines ∧
      (gated f s).uptime = s.uptime ∧ (gated f s).ctl = s.ctl ∧ (gated f s).store = s.store ∧
      (gated f s).link = s.link ∧ (gated f s).flags = s.flags ∧ (gated f s).policy = s.policy ∧
      (gated f s).holdMask = s.holdMask ∧ (gated f s).light = s.light ∧
      (gated f s).motion = s.motion ∧ (gated f s).streams = s.streams ∧ (gated f s).due = s.due ∧
      (gated f s).choice = s.choice := by simp [gated]
  generalize gated f s = t at *
  cases t
  simp_all

/-- The controller's own records are as they were, but for the two power figures (R85, R86). -/
theorem gated_supply (f : LockReasons → LockReasons) (s : State) : (gated f s).supply =
    { s.supply with pAvail := (gated f s).supply.pAvail, pbl := (gated f s).supply.pbl } := by
  rw [gated, allowPower_supply]
  simp

theorem gated_soleSupply (f : LockReasons → LockReasons) (s : State) (i : BayId) :
    soleSupply (gated f s) i = soleSupply s.selectDischarge.selectCharge i := by
  rw [gated, soleSupply_allowPower, soleSupply_setLastSupply]

theorem gated_pAvail (f : LockReasons → LockReasons) (s : State) :
    (gated f s).supply.pAvail = availablePower (gated f s) := by
  rw [gated, availablePower_allowPower, allowPower_supply]

theorem gated_pbl (f : LockReasons → LockReasons) (s : State) : (gated f s).supply.pbl =
    min (s.back.lMax * s.back.q / 64)
      ((gated f s).supply.pAvail - (gated f s).supply.reserve - 5000) := by
  rw [gated, allowPower_supply]
  simp [powerAllowance, Supply.reserve, Config.margin]

/-- What a lock-reason set's new value changes of a bay (R60). -/
theorem setReasons_eq (c : Bool) (r : LockReasons) (y : Bay) : y.setReasons c r = { y with
    reasons := r, latch := (y.setReasons c r).latch, latchLimit := (y.setReasons c r).latchLimit,
    solenoid := (y.setReasons c r).solenoid } := by
  unfold Bay.setReasons Bay.setFilled Bay.setEmptied Bay.engage Bay.disengage
  dsimp only
  (repeat' split) <;> rfl

/-- A bay after steps 3 to 7: its gates, its latch and LAST_SUPPLY (R79 to R84). -/
theorem gated_bay_eq (s : State) (i : BayId) :
    let z := (gated id s).bay i
    z = { s.bay i with
      role := (s.selectDischarge.bay i).role,
      charging := (s.selectDischarge.selectCharge.bay i).charging, latch := z.latch,
      latchLimit := z.latchLimit, solenoid := z.solenoid, solenoidPin := z.solenoidPin,
      reasons := { (s.bay i).reasons with lastSupply := soleSupply (gated id s) i } } := by
  dsimp only
  rw [gated_soleSupply, gated_bay, setReasons_eq]
  rfl

/-! ### The end of an event without a deferred trip -/

theorem noTrips_bay (h : s.NoTrips) (i : BayId) : (s.bay i).tripDeferred = false := by
  cases i
  · exact h.1
  · exact h.2

theorem endDeferral_of_none {i : BayId} (h : (s.bay i).tripDeferred = false) :
    s.endDeferral i = s := if_neg (by simp [h])

/-- With no trip deferred, one re-evaluation is taken at the end of the event (log 9). -/
theorem closeEvent_noTrips {ev : SupplyEvent} (hd : s.due = some ev) (hn : s.NoTrips) :
    s.closeEvent = s.settled.reevaluate ev := by
  have ht (i : BayId) : ((s.settled.reevaluate ev).bay i).tripDeferred = false := by
    rw [reevaluate_tripDeferred]
    exact noTrips_bay hn i
  have hs : (s.settled.reevaluate ev).due = none := by simp
  simp only [State.closeEvent, State.closeEventIn, hd]
  rw [endDeferral_of_none (ht .a), endDeferral_of_none (ht .b)]
  simp only [hs]

/-- The transition of the supply state: the supply controller, the flags and WAKE alone. -/
theorem supplyTransition_state (ev : SupplyEvent) (s : State) : s.supplyTransition ev = { s with
    supply := (s.supplyTransition ev).supply, ctl := (s.supplyTransition ev).ctl,
    flags := (s.supplyTransition ev).flags } := by
  have h := State.supplyTransition_frame ev s
  generalize s.supplyTransition ev = t at *
  cases t
  simp_all

theorem reevaluate_state (ev : SupplyEvent) (s : State) :
    let t := s.reevaluate ev
    t = { s with bays := t.bays, supply := t.supply, back := t.back, ctl := t.ctl,
                 flags := t.flags, drop := { s.drop with parkPin := t.drop.parkPin } } := by
  dsimp only
  rw [reevaluate_eq_gated, gated_state, supplyTransition_state]
  rfl

theorem reevaluate_bay (ev : SupplyEvent) (s : State) (i : BayId) :
    let z := (s.reevaluate ev).bay i
    z = { s.bay i with
      role := z.role, charging := z.charging, latch := z.latch, latchLimit := z.latchLimit,
      solenoid := z.solenoid, solenoidPin := z.solenoidPin,
      reasons := { (s.bay i).reasons with lastSupply := soleSupply (s.reevaluate ev) i } } := by
  have hb : (s.supplyTransition ev).bay i = s.bay i := by simp [State.bay]
  have h := gated_bay_eq (s.supplyTransition ev) i
  simp only [hb] at h
  dsimp only
  rw [reevaluate_eq_gated, h]

/-- The end of an event with no trip deferred: what it may change (R78 to R86). -/
theorem closeEvent_state (hn : s.NoTrips) :
    let t := s.closeEvent
    t = { s with bays := t.bays, supply := t.supply, back := t.back, ctl := t.ctl,
                 flags := t.flags, drop := { s.drop with parkPin := t.drop.parkPin },
                 due := none } := by
  dsimp only
  cases hd : s.due with
  | none =>
    rw [State.closeEvent_of_settled hd, ← hd]
  | some ev =>
    rw [closeEvent_noTrips hd hn]
    exact (reevaluate_state ev s.settled)

/-- The end of an event with no trip deferred leaves a bay its gates, its latch and LAST_SUPPLY to
change (R79 to R84). -/
theorem closeEvent_bay (hn : s.NoTrips) (i : BayId) :
    let z := s.closeEvent.bay i
    z = { s.bay i with
      role := z.role, charging := z.charging, latch := z.latch, latchLimit := z.latchLimit,
      solenoid := z.solenoid, solenoidPin := z.solenoidPin, reasons := z.reasons } := by
  dsimp only
  cases hd : s.due with
  | none => rw [State.closeEvent_of_settled hd]
  | some ev =>
    rw [closeEvent_noTrips hd hn, reevaluate_bay]
    rfl

end

end Sys2Proof.Proofs
end

section
/-!
PROOFS. The re-evaluation (R78 to R86): the supply state's transition, the gates, and the deferred
trips (R53).
-/

namespace Sys2Proof.Proofs
open Sys2Proof.Machine

section
variable {s : State}

/-! ### Deferred trips (R53) -/

theorem endDeferral_eq (s : State) (i : BayId) :
    (s.endDeferral i = s ∧ ((s.bay i).tripDeferred = true →
      soleSupply s i = true ∨ (s.bay i).traffic.bus.isSome = true)) ∨
    ((s.bay i).tripDeferred = true ∧ s.endDeferral i = s.takeTrip i) := by
  unfold State.endDeferral
  split
  next h => exact .inr ⟨by simp_all, rfl⟩
  next h =>
    refine .inl ⟨rfl, fun ht => ?_⟩
    cases hs : soleSupply s i <;> cases hb : (s.bay i).traffic.bus <;> simp_all

theorem takeTrip_state (s : State) (i : BayId) : ((s.takeTrip i).bay i).state = .silent := by
  rw [State.takeTrip, settleSilent_bay, moveBay_bay]
  simp [pinned]

theorem takeTrip_state_ne (s : State) {i j : BayId} (hj : j ≠ i) :
    ((s.takeTrip i).bay j).state = (s.bay j).state := by
  rw [State.takeTrip, settleSilent_bay_ne _ hj, moveBay_bay_ne _ hj, State.onBay_bay_ne _ hj]
  rfl

/-- What an event's end makes of a deferred trip: it stays deferred, or the bay is SILENT (R53). -/
structure DeferralKept (s t : State) (i : BayId) : Prop where
  kept  : (t.bay i).tripDeferred = true → (s.bay i).tripDeferred = true
  taken : (s.bay i).tripDeferred = true → (t.bay i).tripDeferred = false →
    (t.bay i).state = .silent
  state : (t.bay i).state = (s.bay i).state ∨ (t.bay i).state = .silent

theorem DeferralKept.trans {a b c : State} {i : BayId} (h1 : DeferralKept a b i)
    (h2 : DeferralKept b c i) : DeferralKept a c i where
  kept h := h1.kept (h2.kept h)
  taken ha hc := by
    cases hb : (b.bay i).tripDeferred with
    | true => exact h2.taken hb hc
    | false => exact h2.state.elim (fun e => e.trans (h1.taken ha hb)) id
  state := h2.state.elim (fun e => e ▸ h1.state) .inr

theorem deferralKept_of_eq {t : State} {i : BayId}
    (ht : (t.bay i).tripDeferred = (s.bay i).tripDeferred)
    (hs : (t.bay i).state = (s.bay i).state) : DeferralKept s t i :=
  ⟨fun h => ht ▸ h, fun h1 h2 => by simp_all, .inl hs⟩

theorem deferralKept_endDeferral (s : State) (i j : BayId) : DeferralKept s (s.endDeferral i) j := by
  obtain ⟨h, -⟩ | ⟨ht, h⟩ := endDeferral_eq s i
  · rw [h]
    exact deferralKept_of_eq rfl rfl
  · rw [h]
    rcases eq_or_ne j i with rfl | hj
    · exact ⟨fun _ => ht, fun _ _ => takeTrip_state s _, .inr (takeTrip_state s _)⟩
    · exact deferralKept_of_eq (takeTrip_tripDeferred_ne s hj) (takeTrip_state_ne s hj)

theorem deferralKept_reevaluate (ev : SupplyEvent) (s : State) (i : BayId) :
    DeferralKept s (s.reevaluate ev) i := by
  refine deferralKept_of_eq (reevaluate_tripDeferred ev s i) ?_
  rw [reevaluate_bay]

/-- A trip stays deferred on the sole supply, or while the bus is in use (R53). -/
def DeferralHolds (s : State) : Prop :=
  ∀ i, (s.bay i).tripDeferred = true →
    soleSupply s i = true ∨ (s.bay i).traffic.bus.isSome = true

/-- Every round but the last takes a deferred trip, of which there are two at most (log 9). -/
theorem closeEventIn_deferrals (n : Nat) (i : BayId) (hn : s.due = none ∨ deferred s < n)
    (hs : s.due = none → DeferralHolds s) :
    DeferralKept s (s.closeEventIn n) i ∧ DeferralHolds (s.closeEventIn n) := by
  induction n generalizing s with
  | zero =>
    exact ⟨deferralKept_of_eq rfl rfl, hs (hn.resolve_right (Nat.not_lt_zero _))⟩
  | succ n ih =>
    unfold State.closeEventIn
    split
    next hd => exact ⟨deferralKept_of_eq rfl rfl, hs hd⟩
    next ev hd =>
      have hlt : deferred s < n + 1 := hn.resolve_left (by simp [hd])
      have hr : (s.settled.reevaluate ev).due = none := by simp
      have dr : deferred (s.settled.reevaluate ev) = deferred s := deferred_reevaluate ev _
      have kr : DeferralKept s (s.settled.reevaluate ev) i :=
        (deferralKept_of_eq (s := s) (t := s.settled) rfl rfl).trans (deferralKept_reevaluate ev _ i)
      generalize s.settled.reevaluate ev = u at *
      have ke := ((kr.trans (deferralKept_endDeferral u .a i)).trans
        (deferralKept_endDeferral (u.endDeferral .a) .b i))
      have hv : ((u.endDeferral .a).endDeferral .b).due = none ∧
          DeferralHolds ((u.endDeferral .a).endDeferral .b) ∨
          ((u.endDeferral .a).endDeferral .b).due.isSome = true ∧
          deferred ((u.endDeferral .a).endDeferral .b) < deferred u := by
        have db := endDeferral_deferred (u.endDeferral .a) .b
        obtain ⟨ea, ha⟩ | ⟨-, ea⟩ := endDeferral_eq u .a
        · rw [ea] at db ⊢
          obtain ⟨eb, hb⟩ | ⟨-, eb⟩ := endDeferral_eq u .b
          · rw [eb]
            exact .inl ⟨hr, fun j => by cases j <;> assumption⟩
          · refine .inr (db.resolve_left fun e => ?_)
            have h := takeTrip_isSome u .b
            rw [← eb, e, hr] at h
            cases h
        · have hs : (u.endDeferral .a).due.isSome = true := ea ▸ takeTrip_isSome u .a
          have hl := (endDeferral_deferred u .a).resolve_left fun e => by
            rw [e, hr] at hs
            cases hs
          obtain e | ⟨h1, h2⟩ := db
          · rw [e]
            exact .inr ⟨hs, hl.2⟩
          · exact .inr ⟨h1, h2.trans hl.2⟩
      obtain ⟨h1, h2⟩ | ⟨h1, h2⟩ := hv
      · obtain ⟨k, h⟩ := ih (.inl h1) fun _ => h2
        exact ⟨ke.trans k, h⟩
      · have hlt' := h2.trans_le (dr.trans_le (Nat.le_of_lt_succ hlt))
        obtain ⟨k, h⟩ := ih (.inr hlt') fun e => by simp [e] at h1
        exact ⟨ke.trans k, h⟩

theorem deferrals_closeEvent {ev : SupplyEvent} (hd : s.due = some ev) (i : BayId) :
    DeferralKept s s.closeEvent i ∧ DeferralHolds s.closeEvent :=
  closeEventIn_deferrals 3 i (.inr (by have := deferred_le s; omega)) (by simp [hd])

/-! ### The transition of the supply state (R69 to R74) -/

/-- No transition touches the adapter, the settings or the bridge's sample. -/
theorem supplyTransition_kept (ev : SupplyEvent) (s : State) :
    (s.supplyTransition ev).supply.adapter = s.supply.adapter ∧
    (s.supplyTransition ev).supply.shareWindow = s.supply.shareWindow := by
  unfold State.supplyTransition State.enterStandby State.enterSave
  (repeat' split) <;> simp [Supply.enterStarting, Supply.startHold, Supply.enterStandby,
    Supply.enterNormal, Supply.enterBridge]

section
variable {ev : SupplyEvent}

theorem transition_standby (hs : s.supply.state = .standby) : s.supplyTransition ev =
    if s.lines.pwrReq && supplyExists s && !s.supply.barrier then s.onSupply Supply.enterStarting
    else s := by
  simp only [State.supplyTransition, hs]

theorem transition_starting (hs : s.supply.state = .starting) (hp : ev ≠ .pwrReqFall) :
    s.supplyTransition ev =
      if !supplyExists s then s.onSupply fun u => { u with hold := none }
      else if ev = .holdExpiry then s.onSupply Supply.enterNormal
      else if s.supply.hold.isNone then s.onSupply Supply.startHold
      else s := by
  simp only [State.supplyTransition, hs, hp, if_false]

theorem transition_normal (hs : s.supply.state = .normal) (hp : ev ≠ .pwrReqFall) :
    s.supplyTransition ev =
      if supplyExists s then s
      else if s.supply.available then s.onSupply Supply.enterBridge
      else s.enterStandby .supplyLost := by
  simp only [State.supplyTransition, hs, hp, if_false]

theorem transition_bridge (hs : s.supply.state = .bridge) (hp : ev ≠ .pwrReqFall) :
    s.supplyTransition ev =
      if supplyExists s then s.onSupply Supply.enterNormal
      else if ev = .runExpiry || ev.belowCutoff then s.enterSave
      else s := by
  simp only [State.supplyTransition, hs, hp, if_false]

theorem transition_save (hs : s.supply.state = .save) (hp : ev ≠ .pwrReqFall) :
    s.supplyTransition ev =
      if ev.belowCutoff then s.enterStandby .bridgeEmpty
      else if ev = .saveExpiry then
        if supplyExists s then (s.onSupply Supply.enterNormal).raise .supply .restored
        else s.enterStandby .saveEnd
      else s := by
  simp only [State.supplyTransition, hs, hp, if_false]

/-- The host's stop leaves every state but STANDBY (R69 to R73). -/
theorem transition_pwrReqFall (hs : s.supply.state ≠ .standby) :
    s.supplyTransition .pwrReqFall = s.enterStandby .hostRequest := by
  unfold State.supplyTransition
  split <;> simp_all

end

theorem reevaluate_platformEn (ev : SupplyEvent) (s : State) :
    platformEn (s.reevaluate ev) = platformEn (s.supplyTransition ev) := by
  rw [platformEn, reevaluate_eq_gated, gated_supply]
  rfl

/-- The re-evaluation's records are the transition's, but for the two power figures. -/
theorem reevaluate_supply (ev : SupplyEvent) (s : State) : (s.reevaluate ev).supply =
    { (s.supplyTransition ev).supply with
      pAvail := (s.reevaluate ev).supply.pAvail, pbl := (s.reevaluate ev).supply.pbl } :=
  gated_supply id _

theorem reevaluate_flags (ev : SupplyEvent) (s : State) :
    (s.reevaluate ev).flags = (s.supplyTransition ev).flags := by
  rw [reevaluate_eq_gated, gated_state]

/-- A transition that leaves the supply controller `u` and the flags `fs` (R71 to R74). -/
theorem reevaluate_ends {ev : SupplyEvent} {u : Supply} {fs : SpaceFlags}
    (hu : (s.supplyTransition ev).supply = u) (hf : (s.supplyTransition ev).flags = fs) :
    (s.reevaluate ev).supply = { u with
      pAvail := (s.reevaluate ev).supply.pAvail, pbl := (s.reevaluate ev).supply.pbl } ∧
    (s.reevaluate ev).flags = fs :=
  ⟨by rw [reevaluate_supply, hu], by rw [reevaluate_flags, hf]⟩

/-! ### The gates (R79 to R83) -/

theorem reevaluate_role (ev : SupplyEvent) (s : State) (i : BayId) :
    ((s.reevaluate ev).bay i).role =
      if (s.reevaluate ev).supply.state = .normal && (s.reevaluate ev).supply.adapter.isNone then
        (s.bay i).selectRole s.supply.shareWindow (highestVoltage s.bays)
      else .off := by
  have hw := (supplyTransition_kept ev s).2
  rw [reevaluate_supply, reevaluate_eq_gated, gated_bay_eq, selectDischarge_bay]
  simp only [hw, State.bay, State.supplyTransition_frame]

/-- An eligible bay's role: within the window, widened while the bay holds a role (R80). -/
theorem selectRole_eligible {y : Bay} (w v : Nat) (h : y.eligible = true) :
    y.selectRole w v = if v ≤ y.selectionVoltage + w + (if y.role = .off then 0 else 50)
      then .candidate else .off := by
  simp only [Bay.selectRole, h, if_true]
  split <;> rfl

/-- A bay that is not eligible keeps a kept path while it is identified (R81). -/
theorem selectRole_ineligible {y : Bay} (w v : Nat) (h : y.eligible = false) :
    y.selectRole w v = if y.role = .kept ∧ y.state = .identifying then .kept else .off := by
  simp [Bay.selectRole, h, Bay.keepsPath]

theorem reevaluate_charging (ev : SupplyEvent) (s : State) (i : BayId) :
    ((s.reevaluate ev).bay i).charging =
      (chargeChoice (chargeCandidate s.policy (s.reevaluate ev).supply s.bays.a)
        (chargeCandidate s.policy (s.reevaluate ev).supply s.bays.b) (chargingBay s.bays) ==
          some i) := by
  have ha := selectDischarge_bay (s.supplyTransition ev) .a
  have hb := selectDischarge_bay (s.supplyTransition ev) .b
  simp only [State.bay, Both.get, State.supplyTransition_frame] at ha hb
  rw [reevaluate_eq_gated, gated_bay_eq, selectCharge_bay, gated_supply, chargingBay, chargingBay,
    ha, hb]
  simp only [State.selectDischarge_frame, State.supplyTransition_frame]
  rfl

theorem chargeChoice_none_a (b : Option Nat) (before : Option BayId) :
    (chargeChoice none b before == some .a) = false :=
  beq_false_of_ne fun h => by simpa using chargeChoice_isSome h

theorem chargeChoice_none_b (a : Option Nat) (before : Option BayId) :
    (chargeChoice a none before == some .b) = false :=
  beq_false_of_ne fun h => by simpa using chargeChoice_isSome h

theorem chargeChoice_only_a (x : Nat) (before : Option BayId) :
    chargeChoice (some x) none before = some .a := by
  obtain _ | _ | _ := before <;> rfl

theorem chargeChoice_only_b (z : Nat) (before : Option BayId) :
    chargeChoice none (some z) before = some .b := by
  obtain _ | _ | _ := before <;> rfl

/-- The choice among two candidates (R83). -/
theorem chargeChoice_two (before : Option BayId) (x z : Nat) :
    chargeChoice (some x) (some z) before = match before with
      | some .a => if z + 10 ≤ x then some .b else some .a
      | some .b => if x + 10 ≤ z then some .a else some .b
      | none => if z < x then some .b else some .a := by
  obtain _ | _ | _ := before <;> rfl

/-- Who charges, by the candidates and by who charged before (R82, R83). -/
theorem charging_rule (a b : Option Nat) (y : Both Bay) {p q : Bool}
    (hp : p = (chargeChoice a b (chargingBay y) == some .a))
    (hq : q = (chargeChoice a b (chargingBay y) == some .b)) :
    (a = none → p = false) ∧ (b = none → q = false) ∧
    (a.isSome = true → b = none → p = true) ∧ (b.isSome = true → a = none → q = true) ∧
    ∀ x z, a = some x → b = some z → q = !p ∧
      (y.a.charging = true → p = decide (x < z + 10)) ∧
      (y.a.charging = false → y.b.charging = true → q = decide (z < x + 10)) ∧
      (y.a.charging = false → y.b.charging = false → p = decide (x ≤ z)) := by
  subst hp hq
  refine ⟨?_, ?_, fun ha hb => ?_, fun hb ha => ?_, ?_⟩
  · rintro rfl
    exact chargeChoice_none_a _ _
  · rintro rfl
    exact chargeChoice_none_b _ _
  · obtain ⟨x, rfl⟩ := Option.isSome_iff_exists.mp ha
    rw [hb, chargeChoice_only_a]
    rfl
  · obtain ⟨z, rfl⟩ := Option.isSome_iff_exists.mp hb
    rw [ha, chargeChoice_only_b]
    rfl
  · rintro x z rfl rfl
    rw [chargeChoice_two]
    refine ⟨?_, fun h1 => ?_, fun h1 h2 => ?_, fun h1 h2 => ?_⟩
    · split <;> split <;> rfl
    · simp only [chargingBay, h1, if_true]
      by_cases h : z + 10 ≤ x
      · rw [if_pos h]
        exact (decide_eq_false (by omega)).symm
      · rw [if_neg h]
        exact (decide_eq_true (by omega)).symm
    · simp only [chargingBay, h1, h2, if_true, Bool.false_eq_true, if_false]
      by_cases h : x + 10 ≤ z
      · rw [if_pos h]
        exact (decide_eq_false (by omega)).symm
      · rw [if_neg h]
        exact (decide_eq_true (by omega)).symm
    · simp only [chargingBay, h1, h2, Bool.false_eq_true, if_false]
      by_cases h : z < x
      · rw [if_pos h]
        exact (decide_eq_false (by omega)).symm
      · rw [if_neg h]
        exact (decide_eq_true (by omega)).symm

end

/-- The supply state after the re-evaluation of an event other than the host's stop (R69 to R72). -/
theorem reevaluate_supplyState {s : State} {ev : SupplyEvent} :
    let t := s.reevaluate ev
    let started := { s.supply with
      hold := some ⟨s.supply.holdSetting.ms, s.supply.holdSetting.ms⟩ }
    let ends := fun (u : Supply) (flags : SpaceFlags) =>
      t.supply = { u with pAvail := t.supply.pAvail, pbl := t.supply.pbl } ∧ t.flags = flags
    (ev ≠ .pwrReqFall →
      (s.supply.state = .normal → supplyExists s = true → ends s.supply s.flags) ∧
      (s.supply.state = .normal → supplyExists s = false → s.supply.available = true →
        ends { s.supply with
          state := .bridge,
          bridgeRun := some ⟨1000 * s.supply.bridgeLimit, 1000 * s.supply.bridgeLimit⟩ } s.flags ∧
        platformEn t = true) ∧
      (s.supply.state = .normal → supplyExists s = false → s.supply.available = false →
        ends { s.supply with
          state := .standby, stopCause := .supplyLost, barrier := s.lines.pwrReq, hold := none,
          bridgeRun := none, save := none } (s.flags.raised .supply 0x40) ∧
        platformEn t = false) ∧
      (s.supply.state = .bridge → supplyExists s = true →
        ends { s.supply with state := .normal, hold := none, bridgeRun := none, save := none }
          s.flags ∧ platformEn t = true) ∧
      (s.supply.state = .starting → supplyExists s = false →
        ends { s.supply with hold := none } s.flags) ∧
      (s.supply.state = .starting → supplyExists s = true → ev ≠ .holdExpiry →
        (s.supply.hold = none → ends started s.flags) ∧
        (s.supply.hold.isSome = true → ends s.supply s.flags))) ∧
    (s.supply.state = .standby →
      (s.lines.pwrReq = true → supplyExists s = true → s.supply.barrier = false →
        ends { started with state := .starting } s.flags) ∧
      (s.lines.pwrReq = false ∨ supplyExists s = false ∨ s.supply.barrier = true →
        ends s.supply s.flags)) := by
  have into {x : State} (h : s.supplyTransition ev = x) := reevaluate_ends (ev := ev)
    (congrArg State.supply h) (congrArg State.flags h)
  have power {x : State} (h : s.supplyTransition ev = x) :=
    (reevaluate_platformEn ev s).trans (congrArg platformEn h)
  refine ⟨fun hp => ⟨fun hs he => ?_, fun hs he ha => ?_, fun hs he ha => ?_, fun hs he => ?_,
    fun hs he => ?_, fun hs he hh => ⟨fun hn => ?_, fun hn => ?_⟩⟩,
    fun hs => ⟨fun h1 h2 h3 => ?_, fun h => ?_⟩⟩
  · exact into ((transition_normal hs hp).trans (by simp [he]))
  · have h := (transition_normal hs hp).trans (c := s.onSupply Supply.enterBridge) (by simp [he, ha])
    exact ⟨into h, power h⟩
  · have h := (transition_normal hs hp).trans (c := s.enterStandby .supplyLost) (by simp [he, ha])
    exact ⟨into h, power h⟩
  · have h := (transition_bridge hs hp).trans (c := s.onSupply Supply.enterNormal) (by simp [he])
    exact ⟨into h, power h⟩
  · exact into (x := s.onSupply fun u => { u with hold := none })
      ((transition_starting hs hp).trans (by simp [he]))
  · exact into (x := s.onSupply Supply.startHold)
      ((transition_starting hs hp).trans (by simp [he, hh, hn]))
  · exact into ((transition_starting hs hp).trans (by simp [he, hh, Option.isSome_iff_ne_none.mp hn]))
  · exact into (x := s.onSupply Supply.enterStarting)
      ((transition_standby hs).trans (by simp [h1, h2, h3]))
  · exact into ((transition_standby hs).trans (if_neg (by obtain h | h | h := h <;> simp [h])))

/-- Settles O41: the deferred trips, then the one re-evaluation part by part. -/
theorem reEvaluationSetsTheSupplyPath : Obligations.ReEvaluationSetsTheSupplyPath := by
  unfold Obligations.ReEvaluationSetsTheSupplyPath
  refine ⟨fun s ev i hd => ?_, fun s ev hd hn => ?_⟩
  · obtain ⟨k, h⟩ := deferrals_closeEvent hd i
    exact ⟨by simp, fun ht => ⟨k.kept ht, h i ht⟩, k.taken⟩
  rw [closeEvent_noTrips hd hn]
  obtain ⟨hstate, hstandby⟩ := reevaluate_supplyState (s := s.settled) (ev := ev)
  have hb (i : BayId) := reevaluate_bay ev s.settled i
  have role (i : BayId) := reevaluate_role ev s.settled i
  have charge (i : BayId) := reevaluate_charging ev s.settled i
  refine ⟨hstate, hstandby, reevaluate_state ev s.settled,
    fun i => ⟨hb i, fun h => ?_, fun h1 h2 => ⟨fun he => ?_, fun he => ?_⟩⟩, ?_, gated_pAvail id _,
    (gated_pbl id _).trans ?_, allowPower_pbl _⟩
  · rw [role]
    refine if_neg ?_
    obtain h | h := h
    · simp [h]
    · simp [Option.isNone_eq_false_iff.mpr h]
  · rw [role, if_pos (by simp [h1, h2])]
    exact selectRole_eligible _ _ he
  · rw [role, if_pos (by simp [h1, h2])]
    exact selectRole_ineligible _ _ he
  · exact charging_rule _ _ _ (charge .a) (charge .b)
  · simp only [State.supplyTransition_frame]
    rfl

end Sys2Proof.Proofs
end

section
/-!
PROOFS. The events of the supply controller: PWR_REQ, its timers, bridge samples and the adapter (R69
to R77).
-/

namespace Sys2Proof.Proofs
open Sys2Proof.Machine

section
variable {s : State}

theorem owe_of_none (h : s.due = none) (e : SupplyEvent) : s.owe e = { s with due := some e } := by
  simp only [State.owe, h]

/-- `r` is `s` after an event's own change at the supply controller, the re-evaluation `ev` owed. -/
def SupplyEventOf (s r : State) (ev : SupplyEvent) : Prop :=
  r = { s with lines := r.lines, supply := r.supply, flags := r.flags, ctl := r.ctl,
               due := some ev }

/-- The end of an event of the supply controller (R78): what it leaves, with the transition to `x`. -/
theorem supplyEvent_ends {c : Instr} {r x : State} {ev : SupplyEvent} (hs : s.due = none)
    (hn : s.NoTrips) (hc : exec c s = .next r.closeEvent) (hr : SupplyEventOf s r ev)
    (hx : r.settled.supplyTransition ev = x) : ∃ u : State,
    exec c s = .next u ∧
    u = { s with
      lines := u.lines, bays := u.bays, supply := u.supply, back := u.back, ctl := u.ctl,
      flags := u.flags, drop := { s.drop with parkPin := u.drop.parkPin } } ∧
    (∀ i, (u.bay i).state = (s.bay i).state ∧ (u.bay i).record = (s.bay i).record ∧
      (u.bay i).traffic = (s.bay i).traffic) ∧
    u.lines = r.lines ∧
    u.supply = { x.supply with pAvail := u.supply.pAvail, pbl := u.supply.pbl } ∧
    u.flags = x.flags ∧ u.ctl = x.ctl ∧ platformEn u = platformEn x ∧ u.SupplyCurrent := by
  have hd : r.due = some ev := by rw [hr]
  have hb : r.bays = s.bays := by rw [hr]
  have hrn : r.NoTrips := by
    rw [hr]
    exact hn
  have hbay (i : BayId) : r.settled.bay i = s.bay i := congrArg (Both.get · i) hb
  rw [closeEvent_noTrips hd hrn] at hc
  subst hx
  have hset : r.settled = { s with
      lines := r.lines, supply := r.supply, flags := r.flags, ctl := r.ctl } := by
    have e : r.settled = ({ s with
        lines := r.lines, supply := r.supply, flags := r.flags, ctl := r.ctl,
        due := some ev } : State).settled := congrArg State.settled hr
    rw [e]
    simp only [State.settled, hs]
  have hst := reevaluate_state ev r.settled
  have hl : (r.settled.reevaluate ev).lines = r.lines := by rw [hst, hset]
  refine ⟨_, hc, ?_, fun i => ?_, hl, reevaluate_supply _ _, reevaluate_flags _ _, ?_,
    reevaluate_platformEn _ _, supplyCurrent_gated _ _⟩
  · refine hst.trans ?_
    rw [hl]
    generalize r.settled.reevaluate ev = t
    rw [hset]
  · rw [reevaluate_bay, hbay]
    exact ⟨rfl, rfl, rfl⟩
  · rw [reevaluate_eq_gated, gated_state]

/-- Without power there is no allowance (R85, R86). -/
theorem pbl_zero (h : s.SupplyCurrent) (hst : s.supply.state = .standby ∨
    s.supply.state = .starting ∨ s.supply.state = .save) : s.supply.pbl = 0 := by
  rw [h.pbl, h.avail, (powerAvailableByState s).1 hst]
  simp [powerAllowance]

/-- An event's own change of the lines and of the supply controller, before its re-evaluation. -/
def supplyChanged (s : State) (fl : Lines → Lines) (fu : Supply → Supply) : State :=
  (s.onLines fl).onSupply fu

theorem supplyChanged_ends {c : Instr} {x : State} {ev : SupplyEvent} (hs : s.due = none)
    (hn : s.NoTrips) (fl : Lines → Lines) (fu : Supply → Supply)
    (hc : exec c s = .next ((supplyChanged s fl fu).owe ev).closeEvent)
    (hx : (supplyChanged s fl fu).supplyTransition ev = x) : ∃ u : State,
    exec c s = .next u ∧
    u = { s with
      lines := u.lines, bays := u.bays, supply := u.supply, back := u.back, ctl := u.ctl,
      flags := u.flags, drop := { s.drop with parkPin := u.drop.parkPin } } ∧
    (∀ i, (u.bay i).state = (s.bay i).state ∧ (u.bay i).record = (s.bay i).record ∧
      (u.bay i).traffic = (s.bay i).traffic) ∧
    u.lines = fl s.lines ∧
    u.supply = { x.supply with pAvail := u.supply.pAvail, pbl := u.supply.pbl } ∧
    u.flags = x.flags ∧ u.ctl = x.ctl ∧ platformEn u = platformEn x ∧ u.SupplyCurrent := by
  have hd : (supplyChanged s fl fu).due = none := hs
  refine supplyEvent_ends (ev := ev) hs hn hc ?_ ?_
  · rw [owe_of_none hd]
    rfl
  · rw [owe_of_none hd, ← hx]
    exact congrArg _ (by simp only [State.settled, ← hd])

/-- No transition touches the bridge's record or the adapter's filters. -/
theorem supplyTransition_records (ev : SupplyEvent) (s : State) :
    (s.supplyTransition ev).supply.bridgeVoltage = s.supply.bridgeVoltage ∧
    (s.supplyTransition ev).supply.converter = s.supply.converter ∧
    (s.supplyTransition ev).supply.codeFilter = s.supply.codeFilter := by
  unfold State.supplyTransition State.enterStandby State.enterSave
  (repeat' split) <;> simp [Supply.enterStarting, Supply.startHold, Supply.enterStandby,
    Supply.enterNormal, Supply.enterBridge]

/-- A wake event that its enable bit lets through, outside ACTIVE (R174). -/
theorem wakeEvent_taken {c : ModeCtl} {k : WakeKind} {n : Nat} (hm : c.mode ≠ .active)
    (he : c.enables.getLsbD n = true) (hk : k.mask = BitVec.twoPow 5 n := by rfl) :
    (c.wakeEvent k).wake = true ∧ (c.wakeEvent k).causes = c.causes ||| k.mask := by
  have hn : n < 5 := BitVec.lt_of_getLsbD he
  have hbit : c.enables &&& k.mask ≠ 0 := fun h0 => by
    have := congrArg (BitVec.getLsbD · n) h0
    simp [hk, hn] at this
    rw [← BitVec.getLsbD_eq_getElem hn, he] at this
    cases this
  have hb : (c.mode != .active && c.enables &&& k.mask != 0) = true := by
    rw [Bool.and_eq_true]
    exact ⟨by simpa using hm, by simpa using hbit⟩
  rw [ModeCtl.wakeEvent, if_pos hb]
  exact ⟨rfl, rfl⟩

end

/-- Settles O43, event by event. -/
theorem supplyStateFollowsItsEvents : Obligations.SupplyStateFollowsItsEvents := by
  unfold Obligations.SupplyStateFollowsItsEvents
  intro s hs hn
  have rise {x : State} (hp : s.lines.pwrReq = false)
      (hx : (supplyChanged s (fun l => { l with pwrReq := true }) id).supplyTransition .other = x) :=
    supplyChanged_ends (c := .pwrReqRise) hs hn _ _
      (congrArg Host.Outcome.next (if_neg (by simp [hp]))) hx
  have fall {x : State} (hp : s.lines.pwrReq = true)
      (hx : (supplyChanged s (fun l => { l with pwrReq := false })
        fun u => { u with barrier := false }).supplyTransition .pwrReqFall = x) :=
    supplyChanged_ends (c := .pwrReqFall) hs hn _ _ (congrArg Host.Outcome.next (if_pos hp)) hx
  have hold {x : State} (hh : s.supply.hold.isSome = true)
      (hx : (supplyChanged s id fun u => { u with hold := none }).supplyTransition .holdExpiry = x) :=
    supplyChanged_ends (c := .startUpHoldExpiry) hs hn _ _
      (congrArg Host.Outcome.next (if_pos hh)) hx
  have run {x : State} (hh : s.supply.bridgeRun.isSome = true)
      (hx : (supplyChanged s id fun u => { u with bridgeRun := none }).supplyTransition
        .runExpiry = x) :=
    supplyChanged_ends (c := .bridgeRunExpiry) hs hn _ _
      (congrArg Host.Outcome.next (if_pos hh)) hx
  have save {x : State} (hh : s.supply.save.isSome = true)
      (hx : (supplyChanged s id fun u => { u with save := none }).supplyTransition
        .saveExpiry = x) :=
    supplyChanged_ends (c := .saveTimerExpiry) hs hn _ _
      (congrArg Host.Outcome.next (if_pos hh)) hx
  refine ⟨fun h => ?_, fun h1 h2 h3 h4 => ?_, fun h1 h2 h3 => ?_, fun h => ?_, fun h1 h2 => ?_,
    fun h1 h2 => ?_, fun h => ?_, fun h1 h2 h3 => ?_, fun h => ?_, fun h1 h2 h3 => ?_,
    fun h => ?_, fun h1 h2 h3 => ?_, fun h1 h2 h3 => ?_⟩
  · exact congrArg Host.Outcome.next (if_pos h)
  · have hg : (true && supplyExists s && !s.supply.barrier) = true := by simp [h3, h4]
    obtain ⟨u, hc, hf, hb, hl, hu, -, -, hp, -⟩ := rise h1
      ((transition_standby (by exact h2)).trans (if_pos hg))
    exact ⟨u, hc, hf, hb, by rw [hl], by rw [hu]; rfl, by rw [hu]; rfl, hp⟩
  · have hg : ¬ (true && supplyExists s && !s.supply.barrier) = true := by
      obtain h3 | h3 := h3 <;> simp [h3]
    obtain ⟨u, hc, hf, hb, hl, hu, -, -, hp, -⟩ := rise h1
      ((transition_standby (by exact h2)).trans (if_neg hg))
    exact ⟨u, hc, hf, hb, by rw [hl], by rw [hu]; exact h2, by rw [hu]; rfl⟩
  · exact congrArg Host.Outcome.next (if_neg (by simp [h]))
  · have hg : ¬ (false && supplyExists s && !false) = true := by simp
    obtain ⟨u, hc, hf, hb, hl, hu, -, -, hp, -⟩ := fall h1
      ((transition_standby (by exact h2)).trans (if_neg hg))
    exact ⟨u, hc, hf, hb, by rw [hl], by rw [hu]; exact h2, by rw [hu]; rfl, by rw [hu]; rfl⟩
  · obtain ⟨u, hc, hf, hb, hl, hu, hfl, -, hp, hcur⟩ := fall h1 (transition_pwrReqFall (by exact h2))
    have hstate : u.supply.state = .standby := by
      rw [hu]
      rfl
    refine ⟨u, hc, hf, hb, by rw [hl], hstate, ?_, ?_, ?_, ?_, ?_, pbl_zero hcur (.inl hstate), hp, hfl⟩
    all_goals
      rw [hu]
      rfl
  · exact congrArg Host.Outcome.next (if_neg (by simp [h]))
  · have hg : ¬ (!supplyExists s) = true := by simp [h3]
    obtain ⟨u, hc, hf, hb, hl, hu, -, -, hp, -⟩ := hold h1
      ((transition_starting (by exact h2) (by decide)).trans ((if_neg hg).trans (if_pos rfl)))
    exact ⟨u, hc, hf, hb, by rw [hu]; rfl, by rw [hu]; rfl, hp⟩
  · exact congrArg Host.Outcome.next (if_neg (by simp [h]))
  · have hg : ¬ supplyExists s = true := by simp [h3]
    obtain ⟨u, hc, hf, hb, hl, hu, hfl, hctl, hp, hcur⟩ := run h1
      ((transition_bridge (by exact h2) (by decide)).trans ((if_neg hg).trans (if_pos rfl)))
    have hstate : u.supply.state = .save := by
      rw [hu]
      rfl
    refine ⟨u, hc, hf, hb, hstate, by rw [hu]; rfl, by rw [hu]; rfl, by rw [hu]; rfl, hfl, hp,
      pbl_zero hcur (.inr (.inr hstate)), fun hm he => ?_⟩
    rw [hctl]
    exact wakeEvent_taken hm he
  · exact congrArg Host.Outcome.next (if_neg (by simp [h]))
  · obtain ⟨u, hc, hf, hb, hl, hu, hfl, -, hp, -⟩ := save h1
      ((transition_save (by exact h2) (by decide)).trans ((if_neg (by simp [SupplyEvent.belowCutoff])).trans
        ((if_pos rfl).trans (if_pos (by exact h3)))))
    exact ⟨u, hc, hf, hb, by rw [hu]; rfl, by rw [hu]; rfl, hfl⟩
  · have hg : ¬ supplyExists s = true := by simp [h3]
    obtain ⟨u, hc, hf, hb, hl, hu, hfl, -, hp, -⟩ := save h1
      ((transition_save (by exact h2) (by decide)).trans ((if_neg (by simp [SupplyEvent.belowCutoff])).trans
        ((if_pos rfl).trans (if_neg hg))))
    exact ⟨u, hc, hf, hb, by rw [hu]; rfl, by rw [hu]; rfl, by rw [hu]; rfl, by rw [hu]; rfl, hfl, hp⟩

/-! ### Bridge samples (R75, R76) -/

/-- A sample in NORMAL clears EXHAUSTED from the ready threshold on (R76). -/
theorem sample_exhausted {u : Supply} (now v : Nat) (h : u.state = .normal) :
    (u.sample now v).exhausted = (u.exhausted && decide (v < u.readyThreshold)) := by
  simp [Supply.sample, h, ← decide_not]

theorem sample_available {u : Supply} (now v : Nat) (h : u.state = .normal) :
    (u.sample now v).available = decide (u.readyThreshold ≤ v) := by
  by_cases hv : u.readyThreshold ≤ v
  · simp [Supply.available, Supply.sample, h, hv]
  · simp [Supply.available, Supply.sample, hv]

theorem belowCutoff_sample (mv : Nat) :
    (SupplyEvent.bridgeSample (min 5000 mv)).belowCutoff = decide (mv < 3300) := by
  simp [SupplyEvent.belowCutoff, Config.bridgeCutoff]

/-- Settles O44, supply state by supply state. -/
theorem bridgeSampleIsTaken : Obligations.BridgeSampleIsTaken := by
  unfold Obligations.BridgeSampleIsTaken
  intro s mv hs hn
  have hcut := belowCutoff_sample mv.toNat
  generalize hev : SupplyEvent.bridgeSample (min 5000 mv.toNat) = ev at hcut
  generalize hv : min 5000 mv.toNat = v at hev
  have hp : ev ≠ .pwrReqFall := by simp [← hev]
  have hrun : ev ≠ .runExpiry := by simp [← hev]
  have hsave : ev ≠ .saveExpiry := by simp [← hev]
  have lost (he : supplyExists s = false) :
      ¬ supplyExists (supplyChanged s id (Supply.sample s.uptime v)) = true := by
    have e : supplyExists (supplyChanged s id (Supply.sample s.uptime v)) = supplyExists s := rfl
    simp [e, he]
  obtain ⟨u, hc, hf, -, hl, hu, hfl, -, -, -⟩ := supplyChanged_ends (c := .bridgeSample mv) hs hn id
    (Supply.sample s.uptime v) (ev := ev) (by rw [← hev, ← hv]; rfl) rfl
  have hu' {x : State}
      (hx : (supplyChanged s id (Supply.sample s.uptime v)).supplyTransition ev = x) :
      u.supply = { x.supply with pAvail := u.supply.pAvail, pbl := u.supply.pbl } := hx ▸ hu
  obtain ⟨hb, hcv, -⟩ := supplyTransition_records ev (supplyChanged s id (Supply.sample s.uptime v))
  obtain ⟨ha, -⟩ := supplyTransition_kept ev (supplyChanged s id (Supply.sample s.uptime v))
  refine ⟨u, hc, hf.trans ?_, ?_, ?_, ?_, fun h he => ?_, fun h he => ⟨fun hr => ?_, fun hr => ?_⟩,
    fun h he => ?_, fun h he => ⟨fun hm => ?_, fun hm => ?_⟩, fun h => ⟨fun hm => ?_, fun hm => ?_⟩⟩
  · rw [hl]
    rfl
  · rw [hu]
    exact hb
  · rw [hu]
    exact hcv
  · rw [hu]
    exact ha
  · have hx := hu' ((transition_normal (by exact h) hp).trans (if_pos (by exact he)))
    rw [hx]
    exact ⟨h, sample_exhausted s.uptime v h⟩
  · have hg : (Supply.sample s.uptime v s.supply).available = true := by
      rw [sample_available _ _ h, decide_eq_true hr]
    have hx := hu' ((transition_normal (by exact h) hp).trans
      ((if_neg (lost he)).trans (if_pos hg)))
    rw [hx]
    exact ⟨rfl, rfl⟩
  · have hg : ¬ (supplyChanged s id (Supply.sample s.uptime v)).supply.available = true := by
      have e := sample_available s.uptime v h
      rw [decide_eq_false (Nat.not_le.mpr hr)] at e
      exact Bool.eq_false_iff.mp e
    have ht := (transition_normal (by exact h) hp).trans
      ((if_neg (lost he)).trans (if_neg hg))
    refine ⟨?_, ?_, hfl.trans (congrArg State.flags ht)⟩
    all_goals
      rw [hu' ht]
      rfl
  · have hx := hu' ((transition_bridge (by exact h) hp).trans (if_pos (by exact he)))
    rw [hx]
    exact ⟨rfl, rfl⟩
  · have hx := hu' ((transition_bridge (by exact h) hp).trans
      ((if_neg (lost he)).trans (if_pos (by simp [hcut, hm]))))
    rw [hx]
    exact ⟨rfl, rfl, rfl⟩
  · have hx := hu' ((transition_bridge (by exact h) hp).trans
      ((if_neg (lost he)).trans (if_neg (by simpa [hcut, hrun] using hm))))
    rw [hx]
    refine ⟨h, ?_⟩
    simp [supplyChanged, Supply.sample, h]
  · have hx := hu' ((transition_save (by exact h) hp).trans (if_pos (by simp [hcut, hm])))
    rw [hx]
    exact ⟨rfl, rfl⟩
  · have hx := hu' ((transition_save (by exact h) hp).trans
      ((if_neg (by simpa [hcut] using hm)).trans (if_neg hsave)))
    rw [hx]
    exact h

/-! ### The adapter (R77) -/

/-- An event of no timer and no sample leaves WAKE alone and no flag of SUPPLY cleared. -/
theorem transition_other (s : State) : (s.supplyTransition .other).ctl = s.ctl ∧
    (s.supplyTransition .other).flags.supply &&& s.flags.supply = s.flags.supply := by
  have stop (c : StopCause) : (s.enterStandby c).ctl = s.ctl ∧
      (s.enterStandby c).flags.supply &&& s.flags.supply = s.flags.supply := by
    unfold State.enterStandby
    split
    · exact ⟨rfl, BitVec.and_self⟩
    · refine ⟨rfl, ?_⟩
      change (s.flags.supply ||| Flag.platformStopped.mask) &&& s.flags.supply = s.flags.supply
      rw [BitVec.and_comm]
      ext j
      simp only [BitVec.getElem_and, BitVec.getElem_or]
      cases s.flags.supply[j] <;> rfl
  unfold State.supplyTransition
  (repeat' split) <;> simp_all [SupplyEvent.belowCutoff]

/-- An adapter change taken (R77). -/
theorem adapterChanged_ends {s : State} {c : Instr} (hs : s.due = none) (hn : s.NoTrips)
    (f : Supply → Supply) (a : Option (Fin 4)) (hf : (f s.supply).codeFilter = none)
    (hc : exec c s = .next ((s.onSupply f).adapterChanged a)) : ∃ u : State,
    exec c s = .next u ∧
    u = { s with
      bays := u.bays, supply := u.supply, back := u.back, ctl := u.ctl, flags := u.flags,
      drop := { s.drop with parkPin := u.drop.parkPin } } ∧
    u.supply.adapter = a ∧ u.supply.codeFilter = none ∧ u.flags.supply &&& 0x80 = 0x80 ∧
    (s.ctl.mode ≠ .active → s.ctl.enables.getLsbD 2 = true → u.ctl.wake = true) ∧
    ∀ i, (u.bay i).state = (s.bay i).state ∧ (u.bay i).record = (s.bay i).record ∧
      (a.isSome = true → (u.bay i).role = .off ∧ (u.bay i).reasons.lastSupply = false) := by
  let v : State := (((s.onSupply f).onSupply fun u => { u with adapter := a }).raise .supply
    .adapterChanged).wakeEvent .adapterChange
  have hv : v.due = none := hs
  have hvs : (v.owe .other).settled = v := by
    rw [owe_of_none hv]
    simp only [State.settled, ← hv]
  obtain ⟨u, hc, hfr, hb, hl, hu, hfl, hctl, -, hcur⟩ := supplyEvent_ends (ev := .other)
    (r := v.owe .other) hs hn hc (by rw [owe_of_none hv]; rfl) rfl
  rw [hvs] at hu hfl hctl
  obtain ⟨hwake, hkept⟩ := transition_other v
  obtain ⟨-, -, hcode⟩ := supplyTransition_records .other v
  have hada := (supplyTransition_kept .other v).1
  have ha : u.supply.adapter = a := by
    rw [hu]
    exact hada
  refine ⟨u, hc, hfr.trans ?_, ha, ?_, ?_, fun hm he => ?_, fun i => ⟨(hb i).1, (hb i).2.1, fun h => ?_⟩⟩
  · rw [hl]
    rfl
  · rw [hu]
    exact hcode.trans hf
  · have hv80 : v.flags.supply &&& 0x80 = 0x80 := by
      change (s.flags.supply ||| 0x80) &&& 0x80 = 0x80
      ext j
      simp only [BitVec.getElem_and, BitVec.getElem_or]
      cases (0x80 : Half)[j] <;> simp
    rw [hfl, ← hv80, ← BitVec.and_assoc, hkept]
  · rw [hctl, hwake]
    exact (wakeEvent_taken (k := .adapterChange) hm he).1
  · have gate : u.GateSound i := by
      cases i
      · exact hcur.a
      · exact hcur.b
    have hrole : (u.bay i).role = .off := by
      by_contra hne
      rw [← ha, (gate.role hne).2] at h
      cases h
    refine ⟨hrole, ?_⟩
    rw [gate.lastSupply]
    simp [soleSupply, hrole]

/-- Settles O48: the filters, then a change taken. -/
theorem adapterChangesAreFiltered : Obligations.AdapterChangesAreFiltered := by
  unfold Obligations.AdapterChangesAreFiltered
  intro s hs hn
  refine ⟨fun present code => ⟨Supply.senseChange s.lines present code s.supply, rfl, rfl,
    fun h => ?_, fun h1 h2 => ?_, fun h1 h2 h3 => ?_, fun h => ?_, fun c hc h1 h2 => ?_⟩,
    fun h => ?_, fun h => ?_, fun h => ?_, fun h1 h2 => ?_⟩
  · simp [Supply.senseChange, nextFilter, h]
  · simp [Supply.senseChange, nextFilter, h1, h2]
    rfl
  · have hd : (present != s.supply.adapter.isSome) = true := by simpa using h1
    have hc : (present != s.lines.adapterSense) = false := by simpa using h2
    simp [Supply.senseChange, nextFilter, hd, hc, Option.isNone_eq_false_iff.mpr h3]
  · obtain h | h := h <;> simp [Supply.senseChange, nextFilter, h]
  · simp [Supply.senseChange, nextFilter, hc, h1, h2]
    rfl
  · exact congrArg Host.Outcome.next (if_neg (by simp [h]))
  · exact adapterChanged_ends hs hn (fun u => { u with presenceFilter := none, codeFilter := none })
      _ rfl (congrArg Host.Outcome.next (if_pos h))
  · exact congrArg Host.Outcome.next (if_neg (by obtain h | h := h <;> simp [h]))
  · exact adapterChanged_ends hs hn (fun u => { u with codeFilter := none })
      _ rfl (congrArg Host.Outcome.next (if_pos (by simp [h1, h2])))

end Sys2Proof.Proofs
end

section
/-!
PROOFS. The latch and its confirm line (R60, R61), and the intent line (R46 to R48, R54).
-/

namespace Sys2Proof.Proofs
open Sys2Proof.Machine

section
variable {s : State} {i : BayId}

/-- A confirm line at a new level, a change of its bay and the pins after it. -/
theorem confirmLine_moved (hs : s.OutputsSound) (i : BayId) (v : Bool) {f : Bay → Bay} {z : Bay}
    (hf : f (s.bay i) = z) (hz : z.solenoidPin = (s.bay i).solenoidPin) :
    ((s.setConfirmLine i v).onBay i f).syncPins = { s with
      lines := { s.lines with lockConfirm := s.lines.lockConfirm.set i v },
      bays := s.bays.set i { z with
        solenoidPin := if undriven s then (s.bay i).solenoidPin else z.solenoid } } := by
  have h := onBay_syncPins_of_outputsSound (s := s.setConfirmLine i v) hs i f
  rw [h, ← hz]
  subst hf
  rfl

/-- A confirm limit that has run out: the latch at its end, the pins after it, and LATCH_FAULT. -/
theorem latchFault_moved (hs : s.OutputsSound) (i : BayId) {f : Bay → Bay} {z : Bay}
    (hf : f (s.bay i) = z) (hz : z.solenoidPin = (s.bay i).solenoidPin) :
    ((s.onBay i f).syncPins).raise (baySpace i) .latchFault = { s with
      flags := s.flags.raised (baySpace i) 0x80,
      bays := s.bays.set i { z with
        solenoidPin := if undriven s then (s.bay i).solenoidPin else z.solenoid } } := by
  rw [onBay_syncPins_of_outputsSound hs i f, ← hz]
  subst hf
  rfl

end

/-- Settles O47, latch state by latch state. -/
theorem latchFollowsLockConfirm : Obligations.LatchFollowsLockConfirm := by
  unfold Obligations.LatchFollowsLockConfirm
  intro s i hs y high line after fault
  have rose (z : Bay) (hh : high = false) (hz : Bay.confirmRose y = z)
      (hp : z.solenoidPin = y.solenoidPin) : after (.lockConfirmRise i) (line true) s.flags z :=
    congrArg Host.Outcome.next ((if_neg (by simpa using hh)).trans (confirmLine_moved hs i true hz hp))
  have fell (z : Bay) (hh : high = true) (hz : Bay.confirmFell y = z)
      (hp : z.solenoidPin = y.solenoidPin) : after (.lockConfirmFall i) (line false) s.flags z :=
    congrArg Host.Outcome.next ((if_neg (by simpa using hh)).trans (confirmLine_moved hs i false hz hp))
  refine ⟨fun hh => congrArg _ (if_pos hh), fun hh => ⟨fun hl => ?_, fun hl => ?_⟩,
    fun hh => congrArg _ (if_pos (by simpa using hh)),
    fun hh => ⟨fun hl => ?_, fun hl hr => ?_, fun hl => ?_⟩, fun hn => ⟨?_, ?_⟩,
    fun hp hl => ?_, fun hp hl => ?_⟩
  · exact rose _ hh (by simp [Bay.confirmRose, hl]) rfl
  · exact rose _ hh (by cases h : y.latch <;> simp_all [Bay.confirmRose]) rfl
  · exact fell _ hh (by simp [Bay.confirmFell, hl]) rfl
  · exact fell _ hh (by simp [Bay.confirmFell, hl, hr, Bay.engage]; rfl) rfl
  · exact fell _ hh (by obtain hl | hl | hl := hl <;> simp [Bay.confirmFell, hl]) rfl
  · exact congrArg _ (if_neg (by simp [show (s.bay i).latchLimit = none from hn]))
  · exact congrArg _ (if_neg (by simp [show (s.bay i).latchLimit = none from hn]))
  · exact congrArg Host.Outcome.next ((if_pos (by
      simpa using And.intro hl hp)).trans (latchFault_moved hs i rfl rfl))
  · exact congrArg Host.Outcome.next ((if_pos (by
      simpa using And.intro hl hp)).trans (latchFault_moved hs i rfl rfl))

end Sys2Proof.Proofs
end

section
/-!
PROOFS. What the work of the bay managers leaves as it is: every other block, and between the two bays
the one that does not move.
-/

namespace Sys2Proof.Proofs
open Sys2Proof.Machine

/-- `t` differs from `s` in what a move of a bay and the end of its event may touch: the bays, the
supply controller, the panel, the mode controller, the flags, the PARK pin, and the re-evaluation
owed. -/
def BayWork (s t : State) : Prop :=
  { t with bays := s.bays, supply := s.supply, back := s.back, ctl := s.ctl, flags := s.flags,
           due := s.due, drop := { t.drop with parkPin := s.drop.parkPin } } = s

namespace BayWork
variable {s t u : State}

theorem refl (s : State) : BayWork s s := rfl

theorem trans (h : BayWork s t) (g : BayWork t u) : BayWork s u := by
  have h' := congrArg (fun x : State => { x with
    bays := s.bays, supply := s.supply, back := s.back, ctl := s.ctl, flags := s.flags,
    due := s.due, drop := { x.drop with parkPin := s.drop.parkPin } }) g
  exact h'.trans h

theorem onBay (i : BayId) (f : Bay → Bay) (h : BayWork s t) : BayWork s (t.onBay i f) :=
  h.trans (by rfl)

theorem raise (sp : Space) (f : Flag) (h : BayWork s t) : BayWork s (t.raise sp f) :=
  h.trans (by rfl)

theorem wakeEvent (k : WakeKind) (h : BayWork s t) : BayWork s (t.wakeEvent k) :=
  h.trans (by rfl)

theorem owe (e : SupplyEvent) (h : BayWork s t) : BayWork s (t.owe e) :=
  h.trans (by unfold State.owe; (repeat' split) <;> rfl)

theorem syncPins (h : BayWork s t) : BayWork s t.syncPins :=
  h.trans (by rw [syncPins_eq]; rfl)

theorem onIndications (i : BayId) (f : Bay → Bay) (h : BayWork s t) :
    BayWork s (t.onIndications i f) :=
  (h.onBay i f).owe .other

theorem moveBay (i : BayId) (n : BayState) (h : BayWork s t) : BayWork s (t.moveBay i n) := by
  unfold State.moveBay
  dsimp only
  split
  · exact (h.onBay i _).syncPins.owe .other
  · exact ((h.onBay i _).syncPins.owe .other).raise _ _

theorem closeEvent (hn : t.NoTrips) (h : BayWork s t) : BayWork s t.closeEvent := by
  refine h.trans ?_
  have e := closeEvent_state hn
  dsimp only at e
  unfold BayWork
  rw [e]

/-- The state after such work with nothing owed. -/
theorem ends (h : BayWork s t) (hd : t.due = s.due) : t = { s with
    bays := t.bays, supply := t.supply, back := t.back, ctl := t.ctl, flags := t.flags,
    drop := { s.drop with parkPin := t.drop.parkPin } } := by
  have h' := congrArg (fun x : State => { x with
    bays := t.bays, supply := t.supply, back := t.back, ctl := t.ctl, flags := t.flags,
    due := t.due, drop := { x.drop with parkPin := t.drop.parkPin } }) h
  exact h'.trans (by rw [hd])

theorem inForce (h : BayWork s t) : t.drop.inForce = s.drop.inForce :=
  (congrArg (·.drop.inForce) h :)

theorem policy (h : BayWork s t) : t.policy = s.policy := (congrArg State.policy h :)

theorem frozen_eq (h : BayWork s t) : frozen t = frozen s :=
  congrArg (hasAction · .freeze) h.inForce

theorem guardActive_eq (h : BayWork s t) : guardActive t = guardActive s :=
  (congrArg guardActive h :)

end BayWork

/-! ### A bay at rest -/

/-- `z` differs from `y` in the gates and the latch alone. -/
def BayStill (y z : Bay) : Prop :=
  { z with role := y.role, charging := y.charging, latch := y.latch, latchLimit := y.latchLimit,
           solenoid := y.solenoid, solenoidPin := y.solenoidPin, reasons := y.reasons } = y

namespace BayStill
variable {w y z : Bay}

theorem refl (y : Bay) : BayStill y y := rfl

theorem trans (h : BayStill w y) (g : BayStill y z) : BayStill w z := by
  have h' := congrArg (fun x : Bay => { x with
    role := w.role, charging := w.charging, latch := w.latch, latchLimit := w.latchLimit,
    solenoid := w.solenoid, solenoidPin := w.solenoidPin, reasons := w.reasons }) g
  exact h'.trans h

theorem state (h : BayStill y z) : z.state = y.state := (congrArg Bay.state h :)
theorem record (h : BayStill y z) : z.record = y.record := (congrArg Bay.record h :)
theorem timer (h : BayStill y z) : z.timer = y.timer := (congrArg Bay.timer h :)
theorem intent (h : BayStill y z) : z.intent = y.intent := (congrArg Bay.intent h :)
theorem traffic (h : BayStill y z) : z.traffic = y.traffic := (congrArg Bay.traffic h :)
theorem contact (h : BayStill y z) : z.contact = y.contact := (congrArg Bay.contact h :)
theorem loss (h : BayStill y z) : z.loss = y.loss := (congrArg Bay.loss h :)
theorem intentFilter (h : BayStill y z) : z.intentFilter = y.intentFilter :=
  (congrArg Bay.intentFilter h :)
theorem tripDeferred (h : BayStill y z) : z.tripDeferred = y.tripDeferred :=
  (congrArg Bay.tripDeferred h :)
theorem returnPending (h : BayStill y z) : z.returnPending = y.returnPending :=
  (congrArg Bay.returnPending h :)
theorem decisionDeferred (h : BayStill y z) : z.decisionDeferred = y.decisionDeferred :=
  (congrArg Bay.decisionDeferred h :)

end BayStill

theorem pinned_still (u : Bool) (y : Bay) : BayStill y (pinned u y) := rfl

section
variable {s : State} {i j : BayId}

theorem closeEvent_still (hn : s.NoTrips) (i : BayId) :
    BayStill (s.bay i) (s.closeEvent.bay i) := by
  have h := closeEvent_bay hn i
  dsimp only at h
  unfold BayStill
  rw [h]

theorem moveBay_still (hj : j ≠ i) (n : BayState) : BayStill (s.bay j) ((s.moveBay i n).bay j) := by
  rw [moveBay_bay_ne s hj]
  exact pinned_still _ _

theorem onBay_still (hj : j ≠ i) (f : Bay → Bay) : BayStill (s.bay j) ((s.onBay i f).bay j) := by
  rw [State.onBay_bay_ne s hj]
  exact .refl _

theorem noTrips_iff : s.NoTrips ↔ ∀ i, (s.bay i).tripDeferred = false :=
  ⟨noTrips_bay, fun h => ⟨h .a, h .b⟩⟩

theorem otherBay_ne (i : BayId) : otherBay i ≠ i := by cases i <;> decide

theorem forall_bay_iff (i : BayId) {P : BayId → Prop} : (∀ j, P j) ↔ P i ∧ P (otherBay i) := by
  cases i
  · exact ⟨fun h => ⟨h _, h _⟩, fun ⟨ha, hb⟩ j => by cases j <;> assumption⟩
  · exact ⟨fun h => ⟨h _, h _⟩, fun ⟨ha, hb⟩ j => by cases j <;> assumption⟩

end

/-! ### A bay that enters a state -/

section
variable (p : Policy) (m : PartMode) (c : Bool) (n : BayState) (y : Bay)

theorem afterReleasing_still : BayStill y (y.afterReleasing c) := by
  unfold Bay.afterReleasing Bay.engage
  (repeat' split) <;> rfl

/-- A bay as it enters a state, but for its latch (R39, R43, R48). -/
def entered : Bay :=
  { y with
    state := n
    timer := if y.state = n then y.timer else none
    returnPending := y.returnPending && n = .releasing
    decisionDeferred := y.decisionDeferred && n = .identifying
    traffic := y.traffic.onMove p m y.state n }

theorem enter_eq : y.enter p m c n =
    if y.state = .releasing ∧ n ≠ .releasing then (entered p m n y).afterReleasing c
    else entered p m n y := by
  simp only [Bay.enter, Bool.and_eq_true, decide_eq_true_eq]
  rfl

theorem enter_still : BayStill (entered p m n y) (y.enter p m c n) := by
  rw [enter_eq]
  split
  · exact afterReleasing_still _ _
  · exact .refl _

end

theorem moveBay_entered (s : State) (i : BayId) (n : BayState) :
    BayStill (entered s.policy s.ctl.mode n (s.bay i)) ((s.moveBay i n).bay i) := by
  rw [moveBay_bay]
  exact (enter_still _ _ _ _ _).trans (pinned_still _ _)

/-- A gate is open only at a bay that is ONLINE, or IDENTIFYING with its path kept (R79 to R83). -/
theorem gates_closed {s : State} {i : BayId} (g : s.GateSound i)
    (ho : (s.bay i).state ≠ .online) (hi : (s.bay i).state ≠ .identifying) :
    (s.bay i).role = .off ∧ (s.bay i).charging = false := by
  constructor
  · cases hr : (s.bay i).role with
    | off => rfl
    | candidate => simpa [Bay.eligible, ho] using g.candidate hr
    | kept => simpa [Bay.keepsPath, hi] using g.kept hr
  · by_contra hc
    have := g.charging (by simpa using hc)
    simp [chargeCandidate, ho] at this

theorem gates_closed_closeEvent {s : State} {i : BayId} (h : s.due.isSome = true) (hn : s.NoTrips)
    (ho : (s.bay i).state ≠ .online) (hi : (s.bay i).state ≠ .identifying) :
    (s.closeEvent.bay i).role = .off ∧ (s.closeEvent.bay i).charging = false := by
  have hc := supplyCurrent_closeEvent (.inl h)
  have hs := (closeEvent_still hn i).state
  have g : s.closeEvent.GateSound i := by
    cases i
    · exact hc.a
    · exact hc.b
  exact gates_closed g (by rw [hs]; exact ho) (by rw [hs]; exact hi)

end Sys2Proof.Proofs
end

section
/-!
PROOFS. Release intent and the release timer (R46 to R48, R54).
-/

namespace Sys2Proof.Proofs
open Sys2Proof.Machine

section
variable {s t : State} {i : BayId}

theorem opens_iff (l : LatchState) : l.opens = true ↔ l = .unlocked ∨ l = .lockFailed := by
  cases l <;> simp [LatchState.opens]

/-- The intent filter's change taken (R46). -/
def intentTaken (s : State) (i : BayId) (closed : Bool) : State :=
  s.onBay i fun y => { y with intentFilter := none, intent := closed }

theorem intentTaken_bay (s : State) (i : BayId) (b : Bool) :
    (intentTaken s i b).bay i = { s.bay i with intentFilter := none, intent := b } :=
  State.onBay_bay s i _

/-- The intent filter's expiry takes the change, and judges it (R46 to R48). -/
theorem intentFilter_closing (hf : (s.bay i).intentFilter.isSome = true)
    (hc : s.lines.intent.get i = true) : exec (.intentFilterExpiry i) s =
      .next (((intentTaken s i true).intentClosing i).wakeEvent .releaseIntent).closeEvent := by
  unfold intentTaken
  rw [← hc]
  exact congrArg Host.Outcome.next ((if_neg (by rw [← Option.not_isSome, hf]; simp)).trans (if_pos hc))

theorem intentFilter_reopening (hf : (s.bay i).intentFilter.isSome = true)
    (hc : s.lines.intent.get i = false) : exec (.intentFilterExpiry i) s =
      .next ((intentTaken s i false).intentReopening i).closeEvent := by
  unfold intentTaken
  rw [← hc]
  exact congrArg Host.Outcome.next ((if_neg (by rw [← Option.not_isSome, hf]; simp)).trans
    (if_neg (by simp [hc])))

/-- An intent closing, by the latch and the state of the bay (R47, R48). -/
theorem intentClosing_denied (ho : (t.bay i).latch.opens = false) :
    t.intentClosing i = t.raise (baySpace i) .releaseDenied := if_pos (by simp [ho])

theorem intentClosing_online (ho : (t.bay i).latch.opens = true) (hst : (t.bay i).state = .online) :
    t.intentClosing i = (t.moveBay i .releasing).startRelease i :=
  (if_neg (by simp [ho])).trans (if_pos hst)

/-- A bay whose held return is taken back (R48). -/
def unheld (y : Bay) : Bay := { y with returnPending := false }

theorem intentClosing_held (ho : (t.bay i).latch.opens = true)
    (hst : (t.bay i).state = .releasing) (hr : (t.bay i).returnPending = true) :
    t.intentClosing i = (t.onIndications i unheld).startRelease i :=
  (if_neg (by simp [ho])).trans ((if_neg (by simp [hst])).trans (if_pos (by simp [hst, hr])))

theorem intentClosing_other (ho : (t.bay i).latch.opens = true) (hst : (t.bay i).state ≠ .online)
    (hr : (t.bay i).state ≠ .releasing ∨ (t.bay i).returnPending = false) :
    t.intentClosing i = t :=
  (if_neg (by simp [ho])).trans ((if_neg hst).trans (if_neg (by
    obtain hr | hr := hr <;> simp [hr])))

theorem releaseTimer_expired (ht : (s.bay i).timerRuns .release = true)
    (hr : (s.bay i).state = .releasing) (hc : (s.bay i).contact = true) :
    exec (.releaseTimerExpiry i) s = .next (s.returnFromRelease i).closeEvent :=
  congrArg Host.Outcome.next (if_pos (by simp [ht, hr, hc]))

theorem timerRuns_iff (y : Bay) (k : BayTimerKind) : y.timerRuns k = true ↔
    ∃ t, y.timer = some t ∧ t.kind = k ∧ t.paused = false := by
  unfold Bay.timerRuns
  cases y.timer <;> simp

/-- A bay that was returned from its release: ONLINE, or held back while the guard is active (R48,
R54). -/
theorem returned_online (hc : guardActive t = false) (i : BayId) :
    t.returnFromRelease i = t.moveBay i .online := if_neg (by simp [hc])

/-- A bay whose return is held back (R54). -/
def heldBack (y : Bay) : Bay := { y with returnPending := true, timer := none }

theorem returned_held (hc : guardActive t = true) (i : BayId) :
    t.returnFromRelease i = t.onIndications i heldBack := if_pos hc


theorem guardActive_iff : guardActive s = false ↔ s.motion.guard = .calm := by
  simp [guardActive]

/-- What a move of bay `i` leaves: it is the work of its own bay, whose record and trip stay. -/
structure BayMoved (s : State) (i : BayId) (r : State) : Prop where
  work  : BayWork s r
  other : BayStill (s.bay (otherBay i)) (r.bay (otherBay i))
  record : (r.bay i).record = (s.bay i).record
  trip  : (r.bay i).tripDeferred = (s.bay i).tripDeferred

namespace BayMoved

theorem refl (s : State) (i : BayId) : BayMoved s i s := ⟨.refl _, .refl _, rfl, rfl⟩

theorem moveBay (h : BayMoved s i t) (n : BayState) : BayMoved s i (t.moveBay i n) := by
  have e := moveBay_entered t i n
  exact ⟨h.work.moveBay i n, h.other.trans (moveBay_still (otherBay_ne i) n),
    e.record.trans h.record, e.tripDeferred.trans h.trip⟩

theorem onBay (h : BayMoved s i t) {f : Bay → Bay} (hr : (f (t.bay i)).record = (t.bay i).record)
    (ht : (f (t.bay i)).tripDeferred = (t.bay i).tripDeferred) : BayMoved s i (t.onBay i f) := by
  have e := State.onBay_bay t i f
  exact ⟨h.work.onBay i f, h.other.trans (onBay_still (otherBay_ne i) f),
    (congrArg Bay.record e).trans (hr.trans h.record),
    (congrArg Bay.tripDeferred e).trans (ht.trans h.trip)⟩

theorem owe (h : BayMoved s i t) (e : SupplyEvent) : BayMoved s i (t.owe e) :=
  ⟨h.work.owe e, h.other, h.record, h.trip⟩

theorem wakeEvent (h : BayMoved s i t) (k : WakeKind) : BayMoved s i (t.wakeEvent k) :=
  ⟨h.work.wakeEvent k, h.other, h.record, h.trip⟩

theorem noTrips (h : BayMoved s i t) (hn : s.NoTrips) : t.NoTrips :=
  noTrips_iff.2 ((forall_bay_iff i).2 ⟨h.trip.trans (noTrips_bay hn i),
    h.other.tripDeferred.trans (noTrips_bay hn _)⟩)

/-- What the end of the event of such a move leaves. -/
theorem ends (h : BayMoved s i t) (hs : s.due = none) (hn : s.NoTrips) :
    let u := t.closeEvent
    u = { s with bays := u.bays, supply := u.supply, back := u.back, ctl := u.ctl,
                 flags := u.flags, drop := { s.drop with parkPin := u.drop.parkPin } } ∧
    (u.bay i).record = (s.bay i).record ∧
    (u.bay (otherBay i)).state = (s.bay (otherBay i)).state ∧
    (u.bay (otherBay i)).record = (s.bay (otherBay i)).record := by
  have hn' := h.noTrips hn
  have still := closeEvent_still hn'
  exact ⟨(h.work.closeEvent hn').ends (by rw [State.closeEvent_due, hs]),
    (still i).record.trans h.record, (h.other.trans (still _)).state,
    (h.other.trans (still _)).record⟩

end BayMoved

/-- A bay that has returned from its release, at the end of the event (R48, R54). -/
theorem returned_ends (hn : t.NoTrips) (hr : (t.bay i).state = .releasing) :
    let z := (t.returnFromRelease i).closeEvent.bay i
    z.intent = (t.bay i).intent ∧ z.timer = none ∧
    (guardActive t = false → z.state = .online) ∧
    (guardActive t = true → z.state = .releasing ∧ z.returnPending = true) := by
  cases hg : guardActive t with
  | false =>
    rw [returned_online hg]
    have m := (BayMoved.refl t i).moveBay .online
    have h := (moveBay_entered t i .online).trans (closeEvent_still (m.noTrips hn) i)
    exact ⟨h.intent, h.timer.trans (if_neg (by rw [hr]; decide)), fun _ => h.state, nofun⟩
  | true =>
    rw [returned_held hg]
    have m := (BayMoved.refl t i).onBay (f := heldBack) rfl rfl
    have h := closeEvent_still ((m.owe .other).noTrips hn) i
    rw [show ((t.onBay i heldBack).owe .other).bay i = _ from State.onBay_bay t i heldBack] at h
    exact ⟨h.intent, h.timer, nofun, fun _ => ⟨h.state.trans hr, h.returnPending⟩⟩

theorem BayMoved.returned (h : BayMoved s i t) : BayMoved s i (t.returnFromRelease i) := by
  unfold State.returnFromRelease
  split
  · exact (h.onBay rfl rfl).owe .other
  · exact h.moveBay .online

theorem BayMoved.startRelease (h : BayMoved s i t) : BayMoved s i (t.startRelease i) :=
  h.onBay rfl rfl

theorem BayMoved.intentTaken (s : State) (i : BayId) (b : Bool) : BayMoved s i (intentTaken s i b) :=
  (BayMoved.refl s i).onBay rfl rfl

/-- A bay with its release timer started afresh (R47, R55). -/
def releaseStarted (p : Policy) (frozen : Bool) (y : Bay) : Bay :=
  { y with timer := some ⟨.release, Timer.start (1000 * p.releaseTime), frozen⟩ }

/-- A release timer started within an event, at its end (R47, R55). -/
theorem startRelease_ends (h : BayMoved s i t) (hn : s.NoTrips) (k : WakeKind) :
    BayStill (releaseStarted s.policy (frozen s) (t.bay i))
      (((t.startRelease i).wakeEvent k).closeEvent.bay i) := by
  have e := closeEvent_still ((h.startRelease.wakeEvent k).noTrips hn) i
  have hb : ((t.startRelease i).wakeEvent k).bay i =
      releaseStarted t.policy (frozen t) (t.bay i) :=
    State.onBay_bay t i (releaseStarted t.policy (frozen t))
  rw [hb, h.work.policy, h.work.frozen_eq] at e
  exact e

end

/-- Settles O46, by the level the filter takes and the state of the bay. -/
theorem releaseFollowsIntent : Obligations.ReleaseFollowsIntent := by
  unfold Obligations.ReleaseFollowsIntent
  intro s i hs hn y closed opens calm taken woken filter moves
  have took (b : Bool) := BayMoved.intentTaken s i b
  have bay (b : Bool) := intentTaken_bay s i b
  have opened (ho : opens) : ((intentTaken s i true).bay i).latch.opens = true := by
    rw [bay]
    exact (opens_iff _).2 ho
  have closing {r : State} (hf : y.intentFilter.isSome = true) (hc : closed = true)
      (hr : (intentTaken s i true).intentClosing i = r) :
      exec filter s = .next (r.wakeEvent .releaseIntent).closeEvent :=
    hr ▸ intentFilter_closing hf hc
  have reopening {r : State} (hf : y.intentFilter.isSome = true) (hc : closed = false)
      (hr : (intentTaken s i false).intentReopening i = r) :
      exec filter s = .next r.closeEvent :=
    hr ▸ intentFilter_reopening hf hc
  refine ⟨fun v => ⟨fun hv => congrArg _ (if_pos hv), fun hv => congrArg _ (if_neg hv)⟩,
    fun hf => congrArg _ (if_pos (by simp [show (s.bay i).intentFilter = none from hf])),
    fun hf hc ho => ?denied, fun hf hc ho hst hrel => ?other, fun hf hc ho hst hp => ?held,
    fun hf hc ho hst => ?online, fun hf hc hst => ?reopened,
    fun hf hc hst => ⟨fun hg => ?returned, fun hg => ?returnHeld⟩, fun ht => ?noTimer,
    fun ht hst hcon => ⟨fun hg => ?expired, fun hg => ?expiredHeld⟩⟩
  case denied =>
    have hop : ((intentTaken s i true).bay i).latch.opens = false := by
      rw [bay, Bool.eq_false_iff]
      exact fun h => ho ((opens_iff _).1 h)
    refine (closing hf hc (intentClosing_denied hop)).trans (congrArg _
      ((State.closeEvent_of_settled (by exact hs)).trans ?_))
    simp only [woken, taken, hc]
    rfl
  case other =>
    refine (closing hf hc (intentClosing_other (opened ho) (by rw [bay]; exact hst)
      (by rw [bay]; exact hrel))).trans (congrArg _
        ((State.closeEvent_of_settled (by exact hs)).trans ?_))
    simp only [woken, taken, hc]
    rfl
  case held =>
    have hm := ((took true).onBay (f := unheld) rfl rfl).owe .other
    have e := startRelease_ends hm hn .releaseIntent
    have hb : ((intentTaken s i true).onIndications i unheld).bay i = _ :=
      State.onBay_bay (intentTaken s i true) i unheld
    rw [bay] at hb
    rw [show (((intentTaken s i true).onBay i unheld).owe .other).bay i = _ from hb] at e
    obtain ⟨kept, record, other, otherRecord⟩ := (hm.startRelease.wakeEvent .releaseIntent).ends hs hn
    have hx := closing hf hc
      (intentClosing_held (opened ho) (by rw [bay]; exact hst) (by rw [bay]; exact hp))
    exact ⟨_, hx, kept, record, other, otherRecord, e.state.trans hst, e.returnPending, e.timer⟩
  case online =>
    have hm := (took true).moveBay .releasing
    have e := startRelease_ends hm hn .releaseIntent
    have b := moveBay_entered (intentTaken s i true) i .releasing
    rw [bay] at b
    have g := gates_closed_closeEvent (i := i)
      (s := (((intentTaken s i true).moveBay i .releasing).startRelease i).wakeEvent .releaseIntent)
      (moveBay_isSome _ _ _) ((hm.startRelease.wakeEvent _).noTrips hn)
    have hr : (((((intentTaken s i true).moveBay i .releasing).startRelease i).wakeEvent
        .releaseIntent).bay i).state = .releasing :=
      (congrArg Bay.state (State.onBay_bay ((intentTaken s i true).moveBay i .releasing) i
        (releaseStarted _ _))).trans b.state
    obtain ⟨role, charging⟩ := g (by rw [hr]; decide) (by rw [hr]; decide)
    obtain ⟨kept, record, other, otherRecord⟩ := (hm.startRelease.wakeEvent .releaseIntent).ends hs hn
    have hx := closing hf hc (intentClosing_online (opened ho) (by rw [bay]; exact hst))
    exact ⟨_, hx, kept, record, other, otherRecord, e.state.trans b.state, e.intent.trans b.intent,
      e.intentFilter.trans b.intentFilter, role,
        charging, e.timer⟩
  case reopened =>
    refine (reopening hf hc (if_neg (by rw [bay]; exact hst))).trans (congrArg _
        ((State.closeEvent_of_settled (by exact hs)).trans ?_))
    simp only [taken, hc]
    rfl
  case returned =>
    have r := returned_ends (took false |>.noTrips hn) (by rw [bay]; exact hst)
    obtain ⟨kept, record, other, otherRecord⟩ := (took false).returned.ends hs hn
    have hx := reopening hf hc (if_pos (by rw [bay]; exact hst))
    exact ⟨_, hx, kept, record, other, otherRecord, r.2.2.1 (guardActive_iff.2 hg),
      r.1.trans (by rw [bay]), r.2.1⟩
  case returnHeld =>
    have r := returned_ends (took false |>.noTrips hn) (by rw [bay]; exact hst)
    obtain ⟨intent, timer, -, held⟩ := r
    obtain ⟨state, pending⟩ := held (by rw [← Bool.not_eq_false]; exact fun h => hg (guardActive_iff.1 h))
    obtain ⟨kept, record, other, otherRecord⟩ := (took false).returned.ends hs hn
    have hx := reopening hf hc (if_pos (by rw [bay]; exact hst))
    exact ⟨_, hx, kept, record, other, otherRecord, state, intent.trans (by rw [bay]), pending, timer⟩
  case noTimer =>
    refine congrArg Host.Outcome.next (if_neg ?_)
    have hr : (s.bay i).timerRuns .release ≠ true := by
      rw [Ne, timerRuns_iff]
      rintro ⟨x, hx, hk, hp⟩
      obtain h | ⟨w, hw, hw'⟩ := ht
      · simp_all [y]
      · obtain rfl : w = x := by simpa [y, hx] using hw.symm
        simp_all
    simp [hr]
  case expired =>
    obtain ⟨-, timer, online, -⟩ := returned_ends hn hst
    obtain ⟨kept, record, other, otherRecord⟩ := (BayMoved.refl s i).returned.ends hs hn
    have hx := releaseTimer_expired ((timerRuns_iff _ _).2 ht) hst hcon
    exact ⟨_, hx, kept, record, other, otherRecord, online (guardActive_iff.2 hg), timer⟩
  case expiredHeld =>
    obtain ⟨-, timer, -, held⟩ := returned_ends hn hst
    obtain ⟨state, pending⟩ := held (by rw [← Bool.not_eq_false]; exact fun h => hg (guardActive_iff.1 h))
    obtain ⟨kept, record, other, otherRecord⟩ := (BayMoved.refl s i).returned.ends hs hn
    have hx := releaseTimer_expired ((timerRuns_iff _ _).2 ht) hst hcon
    exact ⟨_, hx, kept, record, other, otherRecord, state, pending, timer⟩

end Sys2Proof.Proofs
end

section
/-!
PROOFS. CLEAR_INHIBIT and CLEAR_SUSPECT (R30, R50).
-/

namespace Sys2Proof.Proofs
open Sys2Proof.Machine

section
variable {s : State} {i : BayId}

theorem onBay_of_same {f : Bay → Bay} (h : f (s.bay i) = s.bay i) : s.onBay i f = s := by
  have hb : s.bays.set i (s.bay i) = s.bays := by cases i <;> rfl
  have h' : s.bays.set i (f (s.bays.get i)) = s.bays := by
    rw [show f (s.bays.get i) = s.bay i from h, hb]
  rw [State.onBay, h']

theorem clearInhibitAllowed_iff : clearInhibitAllowed s i = true ↔
    (s.bay i).state = .inhibited ∧ s.motion.guard = .calm ∧
    (∃ e t, classLimits s.policy (s.bay i).record = some e ∧
      (s.bay i).record.temperature = some t ∧ t.value ≤ e.dMax.toInt - 50) ∧
    (s.bay i).record.alarmWord &&& 0b1001 = 0 := by
  have alarm (w : BitVec 4) : alarmCellFault w = false ∧ alarmOverTemp w = false ↔
      w &&& 0b1001 = 0 := by
    revert w
    decide
  simp only [clearInhibitAllowed, ← alarm]
  cases classLimits s.policy (s.bay i).record <;> cases (s.bay i).record.temperature <;>
    simp [guardActive, Config.clearInhibitBand, and_assoc]
  exact fun _ _ _ _ => decide_eq_true_iff

/-- A bay whose IMPACT_SUSPECT is cleared (R30). -/
def unsuspected (y : Bay) : Bay := { y with record := { y.record with suspect := false } }

end

/-- Settles O30, each action refused or idle first, then taken. -/
theorem inhibitAndSuspectAreCleared : Obligations.InhibitAndSuspectAreCleared := by
  unfold Obligations.InhibitAndSuspectAreCleared
  intro s tag i h y d may
  have run {a : Action} (ha : ActionAt (baySpace i) a) :
      (Host.Outcome.next (s.receivePacket (actionPacket tag (baySpace i) a)) : Result) =
        .next (conclude (baySpace i) (actionPacket tag (baySpace i) a) (s.heard.act i a)) := by
    rw [receivePacket_action h tag ha, spaceBay_baySpace]
  have inhibit := run (a := .clearInhibit) (actionAt_bay i _ (by simp))
  have suspect := run (a := .clearSuspect) (actionAt_bay i _ (by simp))
  have settled := h.settled
  refine ⟨fun hm => ?_, fun hm hn => ?_, fun hs => ?_, fun hs hn => ?_⟩
  · have hx : s.heard.act i .clearInhibit = (s.heard, .refused) :=
      if_neg (by exact fun hc => hm (clearInhibitAllowed_iff.1 hc))
    rw [hx, conclude_of_settled settled] at inhibit
    exact inhibit
  · have hx : s.heard.act i .clearInhibit = (s.heard.moveBay i .online, .ok) :=
      if_pos (by exact clearInhibitAllowed_iff.2 hm)
    rw [hx] at inhibit
    have hb := (BayMoved.refl s.heard i).moveBay .online
    obtain ⟨kept, record, other, otherRecord⟩ := hb.ends settled hn
    refine ⟨_, inhibit, kept, ?_, record, other, otherRecord⟩
    exact (closeEvent_still (hb.noTrips hn) i).state.trans (moveBay_entered _ _ _).state
  · have hx : s.heard.act i .clearSuspect = (s.heard, .ok) := by
      have keep : s.heard.onRecord i (fun r => { r with suspect := false }) = s.heard :=
        onBay_of_same (by rw [← hs]; rfl)
      exact Prod.ext ((if_neg (by exact Bool.eq_false_iff.1 hs)).trans keep) rfl
    rw [hx, conclude_of_settled settled] at suspect
    exact suspect
  · let u := (s.heard.onBay i unsuspected).owe .other
    have hx : s.heard.act i .clearSuspect = (u, .ok) :=
      Prod.ext (if_pos (by exact hs)) rfl
    rw [hx] at suspect
    have bay : u.bay i = unsuspected (s.bay i) := State.onBay_bay s.heard i unsuspected
    have rest : BayStill (s.bay (otherBay i)) (u.bay (otherBay i)) :=
      onBay_still (otherBay_ne i) unsuspected
    have hn' : u.NoTrips := noTrips_iff.2 ((forall_bay_iff i).2
      ⟨by rw [bay]; exact noTrips_bay hn i, rest.tripDeferred.trans (noTrips_bay hn _)⟩)
    have still := closeEvent_still hn'
    have work : BayWork s.heard u := ((BayWork.refl s.heard).onBay i unsuspected).owe .other
    refine ⟨u.closeEvent, suspect, (work.closeEvent hn').ends ?_, ?_, ?_,
      (rest.trans (still _)).state, (rest.trans (still _)).record⟩
    · rw [State.closeEvent_due]
      exact settled.symm
    · rw [(still i).record, bay]
      rfl
    · rw [(still i).state, bay]
      rfl

end Sys2Proof.Proofs
end

section
/-!
PROOFS. The arbiter of a bay (R12): one rule for each thing that a look may find.
-/

namespace Sys2Proof.Proofs
open Sys2Proof.Machine

section
variable {s : State} {i j : BayId}

/-! ### Traffic and record changes seen from a bay -/

theorem onTraffic_bay (s : State) (i : BayId) (f : Traffic → Traffic) :
    (s.onTraffic i f).bay i = { s.bay i with traffic := f (s.bay i).traffic } :=
  State.onBay_bay s i _

theorem onRecord_bay (s : State) (i : BayId) (f : PackRecord → PackRecord) :
    (s.onRecord i f).bay i = { s.bay i with record := f (s.bay i).record } :=
  State.onBay_bay s i _

theorem report_bay (s : State) (i j : BayId) (d : ReverifyDest) (o : VerifyOutcome) :
    (s.report i d o).bay j = s.bay j := by
  cases d <;> rfl

theorem onBay_onBay (s : State) (i : BayId) (f g : Bay → Bay) :
    (s.onBay i f).onBay i g = s.onBay i fun y => g (f y) := by
  cases i <;> rfl

theorem onBay_congr {f g : Bay → Bay} (h : f (s.bay i) = g (s.bay i)) :
    s.onBay i f = s.onBay i g := by
  simp only [State.onBay, show f (s.bays.get i) = g (s.bays.get i) from h]

theorem onBay_eq (s : State) (i : BayId) (f : Bay → Bay) :
    s.onBay i f = { s with bays := s.bays.set i (f (s.bay i)) } := rfl

/-! ### A look and the looks after it -/

/-- The maintenance kinds that a bay's traffic has pending (R11). -/
def pendingKinds (t : Traffic) : Nat :=
  t.alert.toNat + t.ident.isSome.toNat + t.reverify.isSome.toNat + t.round.isSome.toNat

theorem pendingKinds_le (t : Traffic) : pendingKinds t ≤ 4 := by
  unfold pendingKinds
  have (b : Bool) : b.toNat ≤ 1 := Bool.toNat_le b
  have := this t.alert
  have := Bool.toNat_le t.ident.isSome
  have := Bool.toNat_le t.reverify.isSome
  have := Bool.toNat_le t.round.isSome
  omega

theorem onMove_kinds (p : Policy) (m : PartMode) (o n : BayState) (t : Traffic) :
    (t.onMove p m o n).alert = t.alert ∧
    (t.onMove p m o n).ident = (if n = .identifying then t.ident else none) ∧
    (t.onMove p m o n).reverify = t.reverify ∧
    (t.onMove p m o n).round = (if n.polls = true then t.round else none) := by
  simp only [Traffic.onMove]
  cases n.polls <;> cases o.polls <;> by_cases h : n = .identifying <;> simp [h]

theorem tableIncomplete_traffic (s : State) (i : BayId) :
    ((s.tableIncomplete i).bay i).traffic =
      (s.bay i).traffic.onMove s.policy s.ctl.mode (s.bay i).state .quarantined := by
  unfold State.tableIncomplete
  rw [(moveBay_entered _ i .quarantined).traffic, onRecord_bay]
  rfl

/-- A maintenance kind that ends without a read is no longer pending. -/
theorem serveMaintenance_kinds (h : (s.serveMaintenance i).2 = false) :
    pendingKinds ((s.serveMaintenance i).1.bay i).traffic < pendingKinds (s.bay i).traffic := by
  unfold State.serveMaintenance at h ⊢
  dsimp only at h ⊢
  split at h
  next d hd =>
    split at h
    · cases h
    next he =>
      obtain ⟨ha, hi, hr, hp⟩ := onMove_kinds s.policy s.ctl.mode (s.bay i).state .quarantined
        (s.bay i).traffic
      simp only [tableIncomplete_traffic, pendingKinds, ha, hi, hr, hp, hd]
      simp [BayState.polls]
  next dest hd hr =>
    split at h
    · cases h
    next he =>
      simp [report_bay, pendingKinds, hd, hr]
  next n hd hr hp =>
    split at h
    · cases h
    next he =>
      simp [pendingKinds, hd, hr, hp]
  · cases h

theorem arbitrateOnce_kinds (h : (s.arbitrateOnce i).2 = false) :
    pendingKinds ((s.arbitrateOnce i).1.bay i).traffic < pendingKinds (s.bay i).traffic := by
  unfold State.arbitrateOnce at h ⊢
  dsimp only at h ⊢
  split at h
  · cases h
  next hb =>
    rw [if_neg hb]
    split at h
    next ha =>
      rw [if_pos ha]
      split at h
      · cases h
      next he =>
        simp [pendingKinds, ha]
    next ha =>
      rw [if_neg ha]
      split at h
      next r rest hr =>
        split at h
        next hm =>
          rw [if_pos hm]
          exact serveMaintenance_kinds h
        · cases h
      next hr => exact serveMaintenance_kinds h

/-- Enough looks make any further look idle. -/
theorem arbitrateIn_enough (n m : Nat) (hn : pendingKinds (s.bay i).traffic < n)
    (hm : pendingKinds (s.bay i).traffic < m) : s.arbitrateIn i n = s.arbitrateIn i m := by
  induction n generalizing s m with
  | zero => omega
  | succ n ih =>
    obtain ⟨m, rfl⟩ : ∃ k, m = k + 1 := ⟨m - 1, by omega⟩
    simp only [State.arbitrateIn]
    split
    · rfl
    next h =>
      have := arbitrateOnce_kinds (by simpa using h)
      exact ih m (by omega) (by omega)

/-- The arbiter's looks: one, and another where it ended without a read (R12). -/
theorem arbitrate_eq (s : State) (i : BayId) : s.arbitrate i =
    if (s.arbitrateOnce i).2 = true then (s.arbitrateOnce i).1
    else (s.arbitrateOnce i).1.arbitrate i := by
  have h8 := pendingKinds_le ((s.arbitrateOnce i).1.bay i).traffic
  have e : State.arbitrateIn i 7 (s.arbitrateOnce i).1 = (s.arbitrateOnce i).1.arbitrate i :=
    arbitrateIn_enough 7 8 (by omega) (by omega)
  rw [← e]
  rfl

/-! ### What a look finds -/

/-- The arbiter of a bay may grant: its traffic runs, its bus is free, no trip is deferred (R11). -/
structure Looks (s : State) (i : BayId) : Prop where
  bus : (s.bay i).traffic.bus = none
  runs : (s.bay i).state.traffic = true
  trip : (s.bay i).tripDeferred = false

theorem Looks.free (h : Looks s i) : arbiterBlocked s i = false := by
  simp [arbiterBlocked, h.bus, h.runs, h.trip]

theorem arbitrate_blocked (h : arbiterBlocked s i = true) : s.arbitrate i = s := by
  have : s.arbitrateOnce i = (s, true) := if_pos h
  rw [arbitrate_eq, this]
  exact if_pos rfl

theorem arbitrate_busy (h : (s.bay i).traffic.bus.isSome = true) : s.arbitrate i = s :=
  arbitrate_blocked (by simp [arbiterBlocked, h])

/-- An alert read goes before all, the mark kept (R12). -/
theorem arbitrate_alert (h : Looks s i) (ha : (s.bay i).traffic.alert = true) {e : CommandEntry}
    (he : s.policy.ownEntry .alarms = some e) : s.arbitrate i =
      s.grant i (ownTransaction s.policy .alert e .alarms) fun t => { t with alert := false } := by
  rw [arbitrate_eq]
  simp only [State.arbitrateOnce, h.free, ha, he]
  rfl

theorem arbitrate_alert_missing (h : Looks s i) (ha : (s.bay i).traffic.alert = true)
    (he : s.policy.ownEntry .alarms = none) :
    s.arbitrate i = (s.onTraffic i fun t => { t with alert := false }).arbitrate i := by
  rw [arbitrate_eq]
  simp only [State.arbitrateOnce, h.free, ha, he]
  rfl

/-- The oldest request that is not held, unless maintenance has its turn (R10, R12). -/
theorem arbitrate_request (h : Looks s i) (ha : (s.bay i).traffic.alert = false) {r : HostRequest}
    {rest : List HostRequest}
    (hr : takeEligible s.holdMask (s.bay i).traffic.waiting = some (r, rest))
    (hm : (s.bay i).traffic.maintains = false ∨ (s.bay i).traffic.lastServed = .maintenance) :
    s.arbitrate i = s.grant i (hostTransaction s.policy r)
      fun t => { t with waiting := rest, lastServed := .host } := by
  have turn : ((s.bay i).traffic.maintains && (s.bay i).traffic.lastServed == .host) = false := by
    obtain hm | hm := hm <;> simp [hm]
  rw [arbitrate_eq]
  simp only [State.arbitrateOnce, h.free, ha, hr, turn]
  rfl

/-- Maintenance has its turn: no request may go, or the mark is HOST (R12). -/
def MaintenanceTurn (s : State) (i : BayId) : Prop :=
  takeEligible s.holdMask (s.bay i).traffic.waiting = none ∨
    ((s.bay i).traffic.maintains = true ∧ (s.bay i).traffic.lastServed = .host)

theorem arbitrate_maintenance (h : Looks s i) (ha : (s.bay i).traffic.alert = false)
    (hm : MaintenanceTurn s i) : s.arbitrate i =
      if (s.serveMaintenance i).2 = true then (s.serveMaintenance i).1
      else (s.serveMaintenance i).1.arbitrate i := by
  have e : s.arbitrateOnce i = s.serveMaintenance i := by
    simp only [State.arbitrateOnce, h.free, ha]
    obtain hm | ⟨hm, hl⟩ := hm
    · rw [hm]
      rfl
    · cases takeEligible s.holdMask (s.bay i).traffic.waiting <;> simp [hm, hl]
  rw [arbitrate_eq, e]

theorem arbitrate_ident (h : Looks s i) (ha : (s.bay i).traffic.alert = false)
    (hm : MaintenanceTurn s i) {d : Identification} (hd : (s.bay i).traffic.ident = some d)
    {e : CommandEntry} (he : s.policy.ownEntry (identField d.next) = some e) : s.arbitrate i =
      s.grant i (ownTransaction s.policy (.identification d.next) e (identField d.next))
        fun t => { t with lastServed := .maintenance } := by
  rw [arbitrate_maintenance h ha hm]
  simp only [State.serveMaintenance, hd, he]
  rfl

theorem arbitrate_ident_missing (h : Looks s i) (ha : (s.bay i).traffic.alert = false)
    (hm : MaintenanceTurn s i) {d : Identification} (hd : (s.bay i).traffic.ident = some d)
    (he : s.policy.ownEntry (identField d.next) = none) :
    s.arbitrate i = (s.tableIncomplete i).arbitrate i := by
  rw [arbitrate_maintenance h ha hm]
  simp only [State.serveMaintenance, hd, he]
  rfl

theorem arbitrate_reverify (h : Looks s i) (ha : (s.bay i).traffic.alert = false)
    (hm : MaintenanceTurn s i) (hd : (s.bay i).traffic.ident = none) {dest : ReverifyDest}
    (hr : (s.bay i).traffic.reverify = some dest) {e : CommandEntry}
    (he : s.policy.ownEntry .serial = some e) : s.arbitrate i =
      s.grant i (ownTransaction s.policy (.reverify dest) e .serial)
        fun t => { t with reverify := none, lastServed := .maintenance } := by
  rw [arbitrate_maintenance h ha hm]
  simp only [State.serveMaintenance, hd, hr, he]
  rfl

theorem arbitrate_poll (h : Looks s i) (ha : (s.bay i).traffic.alert = false)
    (hm : MaintenanceTurn s i) (hd : (s.bay i).traffic.ident = none)
    (hr : (s.bay i).traffic.reverify = none) {n k : Nat} (hn : (s.bay i).traffic.round = some n)
    {e : CommandEntry} (he : nextPoll n s.policy.commands = some (k, e)) : s.arbitrate i =
      s.grant i (ownTransaction s.policy .poll e e.snoopField)
        fun t => { t with round := some (k + 1), lastServed := .maintenance } := by
  rw [arbitrate_maintenance h ha hm]
  simp only [State.serveMaintenance, hd, hr, hn, he]
  rfl

theorem arbitrate_poll_ended (h : Looks s i) (ha : (s.bay i).traffic.alert = false)
    (hm : MaintenanceTurn s i) (hd : (s.bay i).traffic.ident = none)
    (hr : (s.bay i).traffic.reverify = none) {n : Nat} (hn : (s.bay i).traffic.round = some n)
    (he : nextPoll n s.policy.commands = none) :
    s.arbitrate i = (s.onTraffic i fun t => { t with round := none }).arbitrate i := by
  rw [arbitrate_maintenance h ha hm]
  simp only [State.serveMaintenance, hd, hr, hn, he]
  rfl

/-- Nothing that may go: the bus stays free (R12). -/
theorem arbitrate_idle (h : Looks s i) (ha : (s.bay i).traffic.alert = false)
    (hr : takeEligible s.holdMask (s.bay i).traffic.waiting = none)
    (hm : (s.bay i).traffic.maintains = false) : s.arbitrate i = s := by
  obtain ⟨hd, hv, hn⟩ : (s.bay i).traffic.ident = none ∧ (s.bay i).traffic.reverify = none ∧
      (s.bay i).traffic.round = none := by
    simpa [Traffic.maintains, and_assoc] using hm
  rw [arbitrate_maintenance h ha (.inl hr)]
  simp only [State.serveMaintenance, hd, hv, hn]
  rfl

/-! ### The oldest request that is not held -/

theorem takeEligible_none {m : BitVec 4} {l : List HostRequest} :
    takeEligible m l = none ↔ ∀ r ∈ l, m.getLsbD r.cls = true := by
  induction l with
  | nil => simp [takeEligible]
  | cons r rs ih =>
    cases h : r.held m with
    | true =>
      simp only [HostRequest.held] at h
      simp [takeEligible, HostRequest.held, h, ih]
    | false =>
      simp only [HostRequest.held] at h
      simp [takeEligible, HostRequest.held, h]

theorem takeEligible_append {m : BitVec 4} {l : List HostRequest} {r : HostRequest}
    (rest : List HostRequest) (hl : ∀ q ∈ l, m.getLsbD q.cls = true)
    (hr : m.getLsbD r.cls = false) :
    takeEligible m (l ++ r :: rest) = some (r, l ++ rest) := by
  induction l with
  | nil => simp [takeEligible, HostRequest.held, hr]
  | cons q qs ih =>
    simp [takeEligible, HostRequest.held, hl q (by simp), ih fun x hx => hl x (by simp [hx])]

end

end Sys2Proof.Proofs
end

section
/-!
PROOFS. A bay that enters identification, and READMIT (R27, R44, R45).
-/

namespace Sys2Proof.Proofs
open Sys2Proof.Machine

section
variable {s t : State} {i : BayId} {y z : Bay}

/-! ### Flags at the end of an event -/

theorem enterStandby_flags (s : State) (c : StopCause) {sp : Space} (h : sp ≠ .supply) :
    (s.enterStandby c).flags.get sp = s.flags.get sp := by
  unfold State.enterStandby
  dsimp only
  split
  · rfl
  · rw [State.raise_flags, SpaceFlags.get_set_ne _ h]
    rfl

/-- The supply controller sets flags of its own space alone. -/
theorem supplyTransition_flags (ev : SupplyEvent) (s : State) {sp : Space} (h : sp ≠ .supply) :
    (s.supplyTransition ev).flags.get sp = s.flags.get sp := by
  unfold State.supplyTransition
  (repeat' split) <;>
    simp [enterStandby_flags, State.enterSave, SpaceFlags.get_set_ne _ h, h]

theorem closeEvent_flags (hn : s.NoTrips) {sp : Space} (h : sp ≠ .supply) :
    s.closeEvent.flags.get sp = s.flags.get sp := by
  cases hd : s.due with
  | none => rw [State.closeEvent_of_settled hd]
  | some ev =>
    rw [closeEvent_noTrips hd hn, reevaluate_flags, supplyTransition_flags ev _ h]
    rfl

theorem or_and_self {n : Nat} (v m : BitVec n) : (v ||| m) &&& m = m := by
  ext k hk
  simp +contextual

theorem baySpace_ne_supply (i : BayId) : baySpace i ≠ .supply := by cases i <;> decide

theorem moveBay_flags (h : (s.bay i).state ≠ n) :
    (s.moveBay i n).flags = s.flags.raised (baySpace i) 0x10 := by
  unfold State.moveBay
  dsimp only
  rw [if_neg h, raise_eq, syncPins_eq]
  rfl

/-! ### A bay at rest under a change of the bay's own -/

namespace BayStill

/-- A bay at rest, but for its gates and its latch. -/
theorem eq (h : BayStill y z) : z = { y with
    role := z.role, charging := z.charging, latch := z.latch, latchLimit := z.latchLimit,
    solenoid := z.solenoid, solenoidPin := z.solenoidPin, reasons := z.reasons } :=
  (congrArg (fun x : Bay => { x with
    role := z.role, charging := z.charging, latch := z.latch, latchLimit := z.latchLimit,
    solenoid := z.solenoid, solenoidPin := z.solenoidPin, reasons := z.reasons }) h :)

end BayStill

/-! ### Identification begins (R44, R45) -/

/-- A bay as it enters identification (R27, R44, R45). -/
def reidentified (p : Policy) (m : PartMode) (y : Bay) : Bay :=
  { y with
    state := .identifying, timer := none, returnPending := false, decisionDeferred := false,
    record := y.record.reidentify,
    traffic := { y.traffic.onMove p m y.state .identifying with ident := some .first } }

/-- What the bay manager sets as the bay has moved to IDENTIFYING. -/
def identifies (y : Bay) : Bay :=
  { y with
    decisionDeferred := false, timer := none, record := y.record.reidentify,
    traffic := { y.traffic with ident := some .first } }

theorem enterIdentifying_eq (s : State) (i : BayId) :
    s.enterIdentifying i = (s.moveBay i .identifying).onBay i identifies := rfl

theorem enterIdentifying_bay (s : State) (i : BayId) :
    BayStill (reidentified s.policy s.ctl.mode (s.bay i)) ((s.enterIdentifying i).bay i) := by
  have h := (congrArg identifies (moveBay_entered s i .identifying) :)
  rw [enterIdentifying_eq, State.onBay_bay]
  have e : identifies (entered s.policy s.ctl.mode .identifying (s.bay i)) =
      reidentified s.policy s.ctl.mode (s.bay i) := by
    simp [identifies, entered, reidentified]
  rw [e] at h
  exact h

theorem enterIdentifying_still (h : j ≠ i) :
    BayStill (s.bay j) ((s.enterIdentifying i).bay j) :=
  (moveBay_still h .identifying).trans (onBay_still h identifies)

theorem enterIdentifying_work (s : State) (i : BayId) : BayWork s (s.enterIdentifying i) :=
  ((BayWork.refl s).moveBay i .identifying).onBay i identifies

/-! ### The arbiter of a bay that is identified (R11, R12) -/

/-- What a grant leaves of a traffic unit whose identification waits. -/
structure IdentWaits (d : Identification) (t u : Traffic) : Prop where
  ident : u.ident = some d
  failures : u.failures = t.failures
  tripRaised : u.tripRaised = t.tripRaised
  bus : u.bus.isSome = true

theorem onTraffic_fixed (s : State) (i : BayId) (f : Traffic → Traffic) :
    s.onTraffic i f = s.onTraffic i fun _ => f (s.bay i).traffic := by
  cases i <;> rfl

theorem grant_fixed (s : State) (i : BayId) (x : Transaction) (f : Traffic → Traffic) :
    s.grant i x f = s.onTraffic i fun _ => { f (s.bay i).traffic with bus := some x } :=
  onTraffic_fixed s i _

theorem arbitrate_identifying_quiet (h : Looks s i) (ha : (s.bay i).traffic.alert = false)
    {d : Identification} (hd : (s.bay i).traffic.ident = some d)
    (he : (s.policy.ownEntry (identField d.next)).isSome = true) :
    ∃ t, s.arbitrate i = s.onTraffic i (fun _ => t) ∧ IdentWaits d (s.bay i).traffic t := by
  obtain ⟨e, he⟩ := Option.isSome_iff_exists.1 he
  have granted {x : Transaction} {f : Traffic → Traffic} (hx : s.arbitrate i = s.grant i x f)
      (hf : ∀ t : Traffic, (f t).ident = t.ident ∧ (f t).failures = t.failures ∧
        (f t).tripRaised = t.tripRaised) :
      ∃ t, s.arbitrate i = s.onTraffic i (fun _ => t) ∧ IdentWaits d (s.bay i).traffic t := by
    obtain ⟨hi, hc, ht⟩ := hf (s.bay i).traffic
    exact ⟨{ f (s.bay i).traffic with bus := some x }, hx.trans (grant_fixed ..),
      hi.trans hd, hc, ht, rfl⟩
  by_cases hm : MaintenanceTurn s i
  · exact granted (arbitrate_ident h ha hm hd he) fun _ => ⟨rfl, rfl, rfl⟩
  · obtain ⟨hr, hm⟩ := not_or.1 hm
    obtain ⟨⟨r, rest⟩, hr⟩ := Option.ne_none_iff_exists'.1 hr
    refine granted (arbitrate_request h ha hr (.inr ?_)) fun _ => ⟨rfl, rfl, rfl⟩
    have : (s.bay i).traffic.maintains = true := by simp [Traffic.maintains, hd]
    cases hl : (s.bay i).traffic.lastServed with
    | maintenance => rfl
    | host => exact absurd ⟨this, hl⟩ hm

/-- A bay whose identification waits with an entry to read: the bus is taken, the identification
waits on. -/
theorem arbitrate_identifying (h : Looks s i) {d : Identification}
    (hd : (s.bay i).traffic.ident = some d)
    (he : (s.policy.ownEntry (identField d.next)).isSome = true) :
    ∃ t, s.arbitrate i = s.onTraffic i (fun _ => t) ∧ IdentWaits d (s.bay i).traffic t := by
  cases ha : (s.bay i).traffic.alert with
  | false => exact arbitrate_identifying_quiet h ha hd he
  | true =>
    cases hx : s.policy.ownEntry .alarms with
    | some x =>
      exact ⟨{ (s.bay i).traffic with
        alert := false, bus := some (ownTransaction s.policy .alert x .alarms) },
        (arbitrate_alert h ha hx).trans (grant_fixed ..), hd, rfl, rfl, rfl⟩
    | none =>
      have hb := onTraffic_bay s i fun t => { t with alert := false }
      have hl : Looks (s.onTraffic i fun t => { t with alert := false }) i :=
        ⟨by rw [hb]; exact h.bus, by rw [hb]; exact h.runs, by rw [hb]; exact h.trip⟩
      obtain ⟨t, ht, hw⟩ := arbitrate_identifying_quiet hl (by rw [hb]) (d := d)
          (by rw [hb]; exact hd) he
      rw [hb] at hw
      refine ⟨t, (arbitrate_alert_missing h ha hx).trans (ht.trans ?_),
        hw.ident, hw.failures, hw.tripRaised, hw.bus⟩
      exact (onBay_onBay s i _ _)

/-- What the arbiter's look leaves where the identification waits with an entry to read, on a bus
that is free or not. -/
theorem arbitrate_waits (hr : (s.bay i).state.traffic = true)
    (ht : (s.bay i).tripDeferred = false) {d : Identification}
    (hd : (s.bay i).traffic.ident = some d)
    (he : (s.policy.ownEntry (identField d.next)).isSome = true) :
    ∃ t, s.arbitrate i = s.onTraffic i (fun _ => t) ∧ IdentWaits d (s.bay i).traffic t := by
  cases hb : (s.bay i).traffic.bus with
  | none => exact arbitrate_identifying ⟨hb, hr, ht⟩ hd he
  | some x =>
    have busy := arbitrate_busy (s := s) (i := i) (by rw [hb]; rfl)
    exact ⟨(s.bay i).traffic, busy.trans (onBay_of_same rfl).symm, hd, rfl, rfl, by rw [hb]; rfl⟩

/-! ### READMIT (R45) -/

/-- A bay whose failure count and deferred trip READMIT clears. -/
def recounted (y : Bay) : Bay :=
  { y with tripDeferred := false,
           traffic := { y.traffic with failures := 0, tripRaised := false } }

theorem readmit_eq (s : State) (i : BayId)
    (h : (s.bay i).state = .quarantined ∨ (s.bay i).state = .silent)
    (hc : (s.bay i).contact = true) :
    s.readmit i = (((s.onBay i recounted).enterIdentifying i).arbitrate i, .ok) := by
  have e : (s.onTraffic i fun t => { t with failures := 0, tripRaised := false }).onBay i
      (fun y => { y with tripDeferred := false }) = s.onBay i recounted := onBay_onBay s i _ _
  unfold State.readmit
  rw [e]
  exact if_pos (by simpa [hc] using h)

end

/-- Settles O29: what keeps a READMIT out, and the bay that it sends to identification. -/
theorem readmitStartsIdentification : Obligations.ReadmitStartsIdentification := by
  unfold Obligations.ReadmitStartsIdentification
  intro s tag i h y c d
  have settled := h.settled
  have run : exec c s = .next (conclude (baySpace i)
      (actionPacket tag (baySpace i) .readmit) (s.heard.readmit i)) :=
    congrArg Host.Outcome.next ((receivePacket_action h tag (actionAt_bay i .readmit (by simp))).trans
      (by rw [spaceBay_baySpace]; rfl))
  refine ⟨fun hm => ?_, fun hst hc he hn => ?_⟩
  · have hx : s.heard.readmit i = (s.heard, .refused) := by
      refine if_neg ?_
      have : ¬ (((y.state = .quarantined ∨ y.state = .silent)) ∧ y.contact = true) := by
        obtain ⟨hq, hs⟩ | hc := hm
        · simp [hq, hs]
        · simp [hc]
      rw [Bool.and_eq_true, Bool.or_eq_true, decide_eq_true_eq, decide_eq_true_eq]
      exact this
    rw [hx, conclude_of_settled settled] at run
    exact run
  · rw [readmit_eq s.heard i hst hc] at run
    let s1 := s.heard.onBay i recounted
    have hb1 : s1.bay i = recounted y := State.onBay_bay s.heard i recounted
    have hb2 := enterIdentifying_bay s1 i
    rw [hb1] at hb2
    have hpol : (s1.enterIdentifying i).policy = s.policy := (enterIdentifying_work s1 i).policy
    obtain ⟨t, ht, hw⟩ := arbitrate_waits (s := s1.enterIdentifying i) (d := .first)
      (by rw [hb2.state]; rfl) (by rw [hb2.tripDeferred]; rfl) (by rw [hb2.traffic]; rfl)
      (by rw [hpol]; exact he)
    let s2 := s1.enterIdentifying i
    let r := s2.onTraffic i fun _ => t
    have run' : exec c s = .next (r.closeEvent.answered tag d 4 .ok []) :=
      run.trans (congrArg (fun x => Host.Outcome.next (conclude _ _ (x, Answer.ok))) ht)
    have work : BayWork s.heard r :=
      (((BayWork.refl s.heard).onBay i recounted).trans (enterIdentifying_work s1 i)).onBay i _
    have other : BayStill (s.bay (otherBay i)) (r.bay (otherBay i)) :=
      ((onBay_still (s := s.heard) (otherBay_ne i) recounted).trans
        (enterIdentifying_still (otherBay_ne i))).trans (onBay_still (otherBay_ne i) _)
    have bay : BayStill { reidentified s.policy s.ctl.mode (recounted y) with traffic := t }
        (r.bay i) := by
      rw [onTraffic_bay]
      exact (congrArg (fun x : Bay => { x with traffic := t }) hb2 :)
    have hn' : r.NoTrips := noTrips_iff.2 ((forall_bay_iff i).2
      ⟨bay.tripDeferred, other.tripDeferred.trans hn⟩)
    have still := closeEvent_still hn'
    have bay' := bay.trans (still i)
    have other' := other.trans (still _)
    have htr : (r.closeEvent.bay i).traffic = t := bay'.traffic
    refine ⟨r.closeEvent, run', (work.closeEvent hn').ends ?_, ?_, ?_, ?_, ?_, fun _ => ?_,
      other'.state, other'.record, other'.traffic, ?_⟩
    · rw [State.closeEvent_due]
      exact settled.symm
    · rw [htr]
      exact bay'.eq
    · rw [htr, hw.failures, hb2.traffic]
      rfl
    · rw [htr, hw.tripRaised, hb2.traffic]
      rfl
    · rw [htr, hw.ident]
      rfl
    · rw [htr, hw.bus]
    · have moved : (s1.bay i).state ≠ .identifying := by
        rw [hb1]
        obtain hst | hst := hst <;> exact fun hx => nomatch hst.symm.trans hx
      have hf : r.flags = s1.flags.raised (baySpace i) 0x10 := moveBay_flags moved
      rw [closeEvent_flags hn' (baySpace_ne_supply i), hf, SpaceFlags.raised, SpaceFlags.get_set]
      exact or_and_self _ _

end Sys2Proof.Proofs
end

section
/-!
PROOFS. Responses sent one after another (R188), and what the settling of a bay's traffic answers and
reports (R22).
-/

namespace Sys2Proof.Proofs
open Sys2Proof.Machine

section
variable {s t : State} {i : BayId}

/-! ### The transmitter's part of the state -/

theorem transmit_eq (s : State) : s.transmit = { s with link := s.transmit.link } := by
  unfold State.transmit
  split <;> rfl

/-- A response reaches the link and the hub's flags alone (R188). -/
theorem respond_eq (s : State) (r : Response) : s.respond r = { s with
    link := (s.respond r).link, flags := { s.flags with hub := (s.respond r).flags.hub } } := by
  unfold State.respond
  split
  · rfl
  · rw [transmit_eq]
    rfl

/-- Two states that the transmitter cannot tell apart. -/
structure SameLink (s t : State) : Prop where
  link : t.link = s.link
  resetN : t.lines.resetN = s.lines.resetN
  hub : t.flags.hub = s.flags.hub

theorem transmit_sameLink (h : SameLink s t) : SameLink s.transmit t.transmit := by
  unfold State.transmit
  rw [h.link, h.resetN]
  split
  · exact ⟨congrArg Link.choose h.link, h.resetN, h.hub⟩
  · exact h

theorem respond_sameLink (h : SameLink s t) (r : Response) :
    SameLink (s.respond r) (t.respond r) := by
  unfold State.respond
  rw [h.link]
  split
  · exact ⟨h.link, h.resetN, congrArg (· ||| Flag.overrun.mask) h.hub⟩
  · refine transmit_sameLink ⟨?_, h.resetN, h.hub⟩
    exact congrArg (fun l : Link => { l with responses := l.responses ++ [r] }) h.link

theorem respondAll_sameLink (h : SameLink s t) (rs : List Response) :
    SameLink (s.respondAll rs) (t.respondAll rs) := by
  induction rs generalizing s t with
  | nil => exact h
  | cons r rs ih => exact ih (respond_sameLink h r)

theorem respondAll_eq (s : State) (rs : List Response) : s.respondAll rs = { s with
    link := (s.respondAll rs).link,
    flags := { s.flags with hub := (s.respondAll rs).flags.hub } } := by
  induction rs generalizing s with
  | nil => rfl
  | cons r rs ih =>
    have h := respond_eq s r
    generalize (s.respond r).link = l, (s.respond r).flags.hub = f at h
    rw [State.respondAll, h]
    exact ih _

/-- Responses change nothing but the link and the hub's flags. -/
theorem respondAll_of_eq {l : Link} {f : Half} {rs : List Response}
    (hl : (s.respondAll rs).link = l) (hf : (s.respondAll rs).flags.hub = f) :
    s.respondAll rs = { s with link := l, flags := { s.flags with hub := f } } := by
  rw [respondAll_eq, hl, hf]

theorem respondAll_append (s : State) (l r : List Response) :
    s.respondAll (l ++ r) = (s.respondAll l).respondAll r := by
  induction l generalizing s with
  | nil => rfl
  | cons x xs ih => exact ih (s.respond x)

/-! ### The queue answered without a transaction (R7, R22) -/

/-- The response that a queued request gets without a transaction. -/
def queueAnswer (p : Policy) (rec : PackRecord) (i : BayId) (o : Answer) (r : HostRequest) :
    Response :=
  let a := if r.shadow = true ∧ r.write = false then shadowAnswer p rec r.code r.snoop else (o, [])
  hostResponse i r a.1 a.2

theorem answerFromRecord_eq (s : State) (i : BayId) (o : Answer) (r : HostRequest) :
    s.answerFromRecord i o r = s.respond (queueAnswer s.policy (s.bay i).record i o r) := by
  unfold State.answerFromRecord queueAnswer
  cases r.shadow <;> cases r.write <;> rfl

theorem respond_bay (s : State) (r : Response) (i : BayId) : (s.respond r).bay i = s.bay i := by
  simp [State.bay]

theorem respond_policy (s : State) (r : Response) : (s.respond r).policy = s.policy := by simp

theorem answerQueue_eq (s : State) (i : BayId) (o : Answer) (rs : List HostRequest) :
    s.answerQueue i o rs =
      s.respondAll (rs.map (queueAnswer s.policy (s.bay i).record i o)) := by
  induction rs generalizing s with
  | nil => rfl
  | cons r rs ih =>
    rw [State.answerQueue, ih, answerFromRecord_eq, respond_bay, respond_policy]
    rfl

/-- A record without values answers no SHADOW read (R28). -/
theorem shadowAnswer_absent (p : Policy) (code : Byte) (f : SnoopField) :
    shadowAnswer p .absent code f = (.noData, []) := by
  cases f <;> rfl

/-! ### Re-verifications reported as lost (R22, R152) -/

theorem onNewest_onNewest (f g : DropRecord → DropRecord) (l : List DropRecord) :
    onNewest f (onNewest g l) = onNewest (fun r => f (g r)) l := by
  induction l with
  | nil => rfl
  | cons r rs ih =>
    cases rs with
    | nil => rfl
    | cons q qs =>
      have h (f : DropRecord → DropRecord) : onNewest f (r :: q :: qs) = r :: onNewest f (q :: qs) :=
        rfl
      rw [h, h]
      cases hq : onNewest g (q :: qs) with
      | nil => cases qs <;> cases hq
      | cons x xs =>
        rw [← ih, hq]
        rfl

/-- An outcome once written stays (R152). -/
theorem writeVerify_again (i : BayId) (o o' : VerifyOutcome) (r : DropRecord) :
    DropRecord.writeVerify i o (DropRecord.writeVerify i o' r) = DropRecord.writeVerify i o' r := by
  unfold DropRecord.writeVerify DropRecord.closeIfVerified
  cases i <;> cases ho : r.isOpen <;> cases ha : r.verify.a <;> cases hb : r.verify.b <;>
    simp_all [Both.get, Both.set]

/-- A traffic unit has a re-verification to report (R22). -/
def Reverifies (t : Traffic) : Prop :=
  t.reverify = some .record ∨ ∃ x, t.bus = some x ∧ x.owner = .reverify .record

/-- One report of a lost re-verification (R152). -/
theorem report_eq (s : State) (i : BayId) (d : ReverifyDest) (o : VerifyOutcome) :
    s.report i d o = { s with drop := { s.drop with
      log := if d = .record then onNewest (DropRecord.writeVerify i o) s.drop.log
        else s.drop.log } } := by
  cases d <;> rfl

theorem reportLost_pending (s : State) (i : BayId) {t : Traffic} {d : ReverifyDest}
    (h : t.reverify = some d) :
    s.reportLost i t = (s.reportLost i { t with reverify := none }).report i d .noAnswer := by
  unfold State.reportLost
  rw [h]

theorem reportLost_bus (s : State) (i : BayId) {t : Traffic} (h : t.reverify = none) :
    ∃ l, s.reportLost i t = { s with drop := { s.drop with log := l } } ∧
      ((∃ x, t.bus = some x ∧ x.owner = .reverify .record) →
        l = onNewest (DropRecord.writeVerify i .noAnswer) s.drop.log) ∧
      ((¬ ∃ x, t.bus = some x ∧ x.owner = .reverify .record) → l = s.drop.log) := by
  unfold State.reportLost
  rw [h]
  cases t.bus with
  | none => exact ⟨_, rfl, by simp, by simp⟩
  | some x =>
    obtain ⟨o, -⟩ := x
    cases o with
    | reverify d => refine ⟨_, report_eq s i d .noAnswer, ?_, ?_⟩ <;> cases d <;> simp
    | host r b => exact ⟨_, rfl, by simp, by simp⟩
    | alert => exact ⟨_, rfl, by simp, by simp⟩
    | identification n => exact ⟨_, rfl, by simp, by simp⟩
    | poll => exact ⟨_, rfl, by simp, by simp⟩
    | orphan => exact ⟨_, rfl, by simp, by simp⟩

/-- The log after the reports of the re-verifications that are lost: a second report finds the
outcome written. -/
theorem reportLost_eq (s : State) (i : BayId) (t : Traffic) : ∃ l,
    s.reportLost i t = { s with drop := { s.drop with log := l } } ∧
    (Reverifies t → l = onNewest (DropRecord.writeVerify i .noAnswer) s.drop.log) ∧
    (¬ Reverifies t → l = s.drop.log) := by
  unfold Reverifies
  cases hr : t.reverify with
  | none => simpa using reportLost_bus s i hr
  | some d =>
    obtain ⟨l, hl, hy, hn⟩ := reportLost_bus s i (t := { t with reverify := none }) rfl
    rw [reportLost_pending s i hr, hl]
    refine ⟨_, report_eq _ i d .noAnswer, ?_, ?_⟩
    · cases d with
      | record =>
        intro _
        by_cases h : ∃ x, t.bus = some x ∧ x.owner = .reverify .record
        · rw [if_pos rfl, hy h, onNewest_onNewest]
          simp only [writeVerify_again]
        · rw [if_pos rfl, hn h]
      | removed => simpa using hy
      | withdrawn => simpa using hy
    · cases d with
      | record => simp
      | removed => simpa using hn
      | withdrawn => simpa using hn

/-! ### Traffic settled (R22) -/

/-- The state of a bay's block after its traffic was settled and its re-verifications reported. -/
theorem reportLost_bay (s : State) (i j : BayId) (t : Traffic) :
    (s.reportLost i t).bay j = s.bay j := by
  obtain ⟨l, h, -⟩ := reportLost_eq s i t
  rw [h]
  rfl

/-- What the entry to SILENT answers (R22). -/
def silentAnswers (s : State) (i : BayId) : List Response :=
  (s.bay i).traffic.waiting.map (queueAnswer s.policy (s.bay i).record i .silent)

theorem settleSilent_eq (s : State) (i : BayId) : s.settleSilent i =
    ((s.onTraffic i Traffic.settled).reportLost i (s.bay i).traffic).respondAll
      (silentAnswers s i) := by
  obtain ⟨l, h, -⟩ := reportLost_eq (s.onTraffic i Traffic.settled) i (s.bay i).traffic
  unfold State.settleSilent silentAnswers
  dsimp only
  rw [answerQueue_eq, reportLost_bay, onTraffic_bay, h]
  rfl

/-- A traffic unit after the contact loss of its bay (R2, R20, R22). -/
def emptiedTraffic (t : Traffic) : Traffic :=
  { t.settled with bus := none, failures := 0, tripRaised := false }

/-- What the entry to EMPTY answers: the host request on the bus, then the queue (R2, R22). -/
def emptyAnswers (s : State) (i : BayId) : List Response :=
  (match (s.bay i).traffic.bus.map Transaction.owner with
    | some (.host r true) => [hostResponse i r .bayAbsent []]
    | _ => []) ++
  (s.bay i).traffic.waiting.map (queueAnswer s.policy (s.bay i).record i .bayAbsent)

theorem respondAll_bay (s : State) (rs : List Response) (i : BayId) :
    (s.respondAll rs).bay i = s.bay i := by
  rw [respondAll_eq]
  rfl

theorem respondAll_policy (s : State) (rs : List Response) :
    (s.respondAll rs).policy = s.policy := by
  rw [respondAll_eq]

theorem settleEmpty_eq (s : State) (i : BayId) : s.settleEmpty i =
    ((s.onTraffic i emptiedTraffic).reportLost i (s.bay i).traffic).respondAll
      (emptyAnswers s i) := by
  obtain ⟨l, h, -⟩ := reportLost_eq (s.onTraffic i emptiedTraffic) i (s.bay i).traffic
  have queue (x : State) (l : List Response)
      (hx : x = ((s.onTraffic i emptiedTraffic).reportLost i (s.bay i).traffic).respondAll l) :
      x.answerQueue i .bayAbsent (s.bay i).traffic.waiting =
        ((s.onTraffic i emptiedTraffic).reportLost i (s.bay i).traffic).respondAll
          (l ++ (s.bay i).traffic.waiting.map
            (queueAnswer s.policy (s.bay i).record i .bayAbsent)) := by
    rw [answerQueue_eq, respondAll_append, hx, respondAll_policy, respondAll_bay, reportLost_bay,
      onTraffic_bay, h]
    rfl
  refine queue _ _ ?_
  change (match (s.bay i).traffic.bus with
    | some x => _
    | none => _) = _
  cases (s.bay i).traffic.bus with
  | none => rfl
  | some x =>
    obtain ⟨o, -⟩ := x
    cases o with
    | host r b => cases b <;> rfl
    | alert => rfl
    | identification n => rfl
    | reverify d => rfl
    | poll => rfl
    | orphan => rfl

end

end Sys2Proof.Proofs
end

section
/-!
PROOFS. Contact (R2, R22, R27, R40 to R43).
-/

namespace Sys2Proof.Proofs
open Sys2Proof.Machine

section
variable {s t : State} {i : BayId}

theorem reevaluate_ctl (ev : SupplyEvent) (s : State) :
    (s.reevaluate ev).ctl = (s.supplyTransition ev).ctl := by
  rw [reevaluate_eq_gated, gated_state]

/-- The end of an event that is no supply timer's and no sample leaves the mode controller alone. -/
theorem closeEvent_ctl (hd : s.due = some .other) (hn : s.NoTrips) :
    s.closeEvent.ctl = s.ctl := by
  rw [closeEvent_noTrips hd hn, reevaluate_ctl, (transition_other _).1]
  rfl

theorem moveBay_due (s : State) (i : BayId) (n : BayState) :
    (s.moveBay i n).due = (s.owe .other).due := by
  unfold State.moveBay
  dsimp only
  rw [syncPins_eq]
  split <;> rfl

theorem owe_other_due (h : s.due = none ∨ s.due = some .other) :
    (s.owe .other).due = some .other := by
  obtain h | h := h <;> simp [State.owe_due, h]

/-- Work of a bay's manager, with the answers and reports that the settling of its traffic gives. -/
theorem BayWork.sent (h : BayWork s t) (l : Link) (g : List DropRecord) (fs : SpaceFlags) :
    BayWork { s with link := l, drop := { s.drop with log := g } }
      { t with link := l, flags := fs, drop := { t.drop with log := g } } :=
  (congrArg (fun x : State => { x with link := l, drop := { x.drop with log := g } }) h :)

/-! ### Contact arrival (R42) -/

/-- The bay of a contact arrival: the filtered state present, no filter. -/
def touchedBay (y : Bay) : Bay := { y with contact := true, loss := none }

/-- A bay with its settle timer started (R42, R55). -/
def settleStarted (p : Policy) (frozen : Bool) (y : Bay) : Bay :=
  { y with timer := some ⟨.settle, Timer.start p.settleTime, frozen⟩ }

theorem contactArrival_eq (h : (s.bay i).state = .empty) : s.contactArrival i =
    ((((s.onBay i touchedBay).moveBay i .seated).startSettle i).wakeEvent .packSeated) := if_pos h

theorem contactArrival_moved (s : State) (i : BayId) :
    BayMoved s i ((((s.onBay i touchedBay).moveBay i .seated).startSettle i).wakeEvent
      .packSeated) :=
  ((((BayMoved.refl s i).onBay (f := touchedBay) rfl rfl).moveBay .seated).onBay
    (f := settleStarted _ _) rfl rfl).wakeEvent .packSeated

theorem contactArrival_bay (s : State) (i : BayId) : BayStill
    (settleStarted s.policy (frozen s) (entered s.policy s.ctl.mode .seated (touchedBay (s.bay i))))
    (((((s.onBay i touchedBay).moveBay i .seated).startSettle i).wakeEvent .packSeated).bay i) := by
  have h := moveBay_entered (s.onBay i touchedBay) i .seated
  have w : BayWork s ((s.onBay i touchedBay).moveBay i .seated) :=
    ((BayWork.refl s).onBay i _).moveBay i _
  generalize hm : (s.onBay i touchedBay).moveBay i .seated = m at *
  rw [State.onBay_bay] at h
  have e : ((m.startSettle i).wakeEvent .packSeated).bay i =
      settleStarted m.policy (frozen m) (m.bay i) :=
    State.onBay_bay m i (settleStarted m.policy (frozen m))
  rw [e, w.policy, w.frozen_eq]
  exact (congrArg (settleStarted s.policy (frozen s)) h :)

/-! ### Contact loss (R43) -/

/-- The bay of a contact loss before it moves. -/
def lostBay (y : Bay) : Bay :=
  { y with contact := false, loss := none, tripDeferred := false, record := .absent }

/-- The state of a contact loss before the bay moves, UNANNOUNCED set outside RELEASING (R43). -/
def contactLost (s : State) (i : BayId) : State :=
  if (s.bay i).state = .releasing then s.onBay i lostBay
  else (s.onBay i lostBay).raise (baySpace i) .unannounced

theorem contactLost_bay (s : State) (i j : BayId) :
    (contactLost s i).bay j = (s.onBay i lostBay).bay j := by
  unfold contactLost
  split <;> rfl

theorem contactLoss_eq (h : (s.bay i).state ≠ .empty) :
    s.contactLoss i = ((contactLost s i).moveBay i .empty).settleEmpty i := if_neg h

/-- The answers of a contact loss, from the traffic and the cleared record (R22, R27). -/
def lossAnswers (i : BayId) (t : Traffic) : List Response :=
  (match t.bus.map Transaction.owner with
    | some (.host r true) => [hostResponse i r .bayAbsent []]
    | _ => []) ++
  t.waiting.map fun r =>
    hostResponse i r (if r.shadow = true ∧ r.write = false then .noData else .bayAbsent) []

theorem queueAnswer_absent (p : Policy) (i : BayId) (r : HostRequest) :
    queueAnswer p .absent i .bayAbsent r =
      hostResponse i r (if r.shadow = true ∧ r.write = false then .noData else .bayAbsent) [] := by
  unfold queueAnswer
  dsimp only
  rw [shadowAnswer_absent]
  split <;> rfl

theorem onMove_traffic (p : Policy) (m : PartMode) (o n : BayState) (t : Traffic) :
    (t.onMove p m o n).waiting = t.waiting ∧ (t.onMove p m o n).bus = t.bus ∧
    (t.onMove p m o n).failures = t.failures ∧ (t.onMove p m o n).tripRaised = t.tripRaised ∧
    (t.onMove p m o n).lastServed = t.lastServed := by
  simp only [Traffic.onMove]
  (repeat' split) <;> simp

/-- A contact loss settles its traffic: what is sent, what is logged, and what is left of it. -/
theorem contactLoss_settles (h : (s.bay i).state ≠ .empty) : ∃ g,
    let m := (contactLost s i).moveBay i .empty
    s.contactLoss i = ((m.onTraffic i emptiedTraffic).reportLost i (m.bay i).traffic).respondAll
      (lossAnswers i (s.bay i).traffic) ∧
    (m.onTraffic i emptiedTraffic).reportLost i (m.bay i).traffic =
      { m.onTraffic i emptiedTraffic with drop := { m.drop with log := g } } ∧
    (Reverifies (s.bay i).traffic → g = onNewest (DropRecord.writeVerify i .noAnswer) s.drop.log) ∧
    (¬ Reverifies (s.bay i).traffic → g = s.drop.log) := by
  have hm := moveBay_entered (contactLost s i) i .empty
  rw [contactLost_bay, State.onBay_bay] at hm
  have hl : ((contactLost s i).moveBay i .empty).drop.log = s.drop.log := by
    have w : BayWork (contactLost s i) ((contactLost s i).moveBay i .empty) :=
      (BayWork.refl _).moveBay i _
    refine (congrArg (·.drop.log) w :).trans ?_
    unfold contactLost
    split <;> rfl
  rw [contactLoss_eq h]
  dsimp only
  generalize (contactLost s i).moveBay i .empty = m at *
  obtain ⟨hw, hb, -⟩ := onMove_traffic (contactLost s i).policy (contactLost s i).ctl.mode
    (s.bay i).state .empty (s.bay i).traffic
  obtain ⟨-, -, hv, -⟩ := onMove_kinds (contactLost s i).policy (contactLost s i).ctl.mode
    (s.bay i).state .empty (s.bay i).traffic
  have waiting : (m.bay i).traffic.waiting = (s.bay i).traffic.waiting := by rw [hm.traffic]; exact hw
  have bus : (m.bay i).traffic.bus = (s.bay i).traffic.bus := by rw [hm.traffic]; exact hb
  have reverify : (m.bay i).traffic.reverify = (s.bay i).traffic.reverify := by
    rw [hm.traffic]; exact hv
  obtain ⟨g, hg, hy, hn⟩ := reportLost_eq (m.onTraffic i emptiedTraffic) i (m.bay i).traffic
  refine ⟨g, ?_, hg, ?_, ?_⟩
  · rw [settleEmpty_eq, emptyAnswers, lossAnswers, waiting, bus, hm.record]
    exact congrArg (fun f => State.respondAll _ (_ ++ List.map f _))
      (funext fun r => queueAnswer_absent m.policy i r)
  · unfold Reverifies at *
    rw [bus, reverify] at hy
    exact fun h => (hy h).trans (congrArg _ hl)
  · unfold Reverifies at *
    rw [bus, reverify] at hn
    exact fun h => (hn h).trans hl

/-- The flags of a contact loss: STATE_CHANGED, and UNANNOUNCED outside RELEASING (R43). -/
theorem contactLost_flags (h : (s.bay i).state ≠ .empty) :
    ((contactLost s i).moveBay i .empty).flags =
      s.flags.raised (baySpace i) (if (s.bay i).state = .releasing then 0x10 else 0x30) := by
  have hst : ((contactLost s i).bay i).state ≠ .empty := by
    rw [contactLost_bay, State.onBay_bay]
    exact h
  rw [moveBay_flags hst]
  unfold contactLost
  split
  · rfl
  · exact raised_raised _ _ _ _

theorem raised_hub (fs : SpaceFlags) (i : BayId) (m : Half) :
    (fs.raised (baySpace i) m).hub = fs.hub := by cases i <;> rfl

theorem contactLost_work (s : State) (i : BayId) :
    BayWork s ((contactLost s i).moveBay i .empty) := by
  refine BayWork.moveBay i .empty ?_
  unfold contactLost
  split <;> rfl

theorem contactLost_sameLink (h : (s.bay i).state ≠ .empty) :
    SameLink s ((contactLost s i).moveBay i .empty) where
  link := (congrArg State.link (contactLost_work s i) :)
  resetN := (congrArg (·.lines.resetN) (contactLost_work s i) :)
  hub := by rw [contactLost_flags h, raised_hub]

end

/-- Settles O45: the loss filter, the arrival, and the loss with its answers and reports. -/
theorem contactMovesTheBay : Obligations.ContactMovesTheBay := by
  unfold Obligations.ContactMovesTheBay
  intro s i hs y line lines other
  refine ⟨fun hl => congrArg _ (if_pos hl),
    fun hl hc => congrArg _ ((if_neg (by simp [show s.lines.contact.get i = false from hl])).trans
      (if_pos hc)),
    fun hl hc he ho ht => ?arrival,
    fun hl => congrArg _ (if_pos (by simp [show s.lines.contact.get i = false from hl])),
    fun hl hc => congrArg _ ((if_neg (by simp [show s.lines.contact.get i = true from hl])).trans
      (if_neg (by simp [show (s.bay i).contact = false from hc]))),
    fun hl hc => ?falls, fun h => congrArg _ (if_neg ?_), fun hf hl he ho => ?loss⟩
  case arrival =>
    let s1 := s.setContactLine i true
    have hn : s1.NoTrips := noTrips_iff.2 ((forall_bay_iff i).2 ⟨ht, ho⟩)
    have moved := contactArrival_moved s1 i
    have hx : exec (.contactRise i) s = .next (s1.contactArrival i).closeEvent :=
      congrArg Host.Outcome.next ((if_neg (by simp [show s.lines.contact.get i = false from hl])).trans
        (if_neg (by simp [show (s.bay i).contact = false from hc])))
    rw [contactArrival_eq (by exact he)] at hx
    have bay := (contactArrival_bay s1 i).trans (closeEvent_still (moved.noTrips hn) i)
    have due : (((((s1.onBay i touchedBay).moveBay i .seated).startSettle i).wakeEvent
        .packSeated)).due = some .other := by
      refine (moveBay_due _ _ _).trans (owe_other_due (.inl hs))
    have ctl := closeEvent_ctl due (moved.noTrips hn)
    have ctl' : (((((s1.onBay i touchedBay).moveBay i .seated).startSettle i).wakeEvent
        .packSeated)).ctl = s.ctl.wakeEvent .packSeated :=
      congrArg (ModeCtl.wakeEvent .packSeated) (by simp [s1, State.setContactLine, State.onLines])
    obtain ⟨kept, -, other', -⟩ := moved.ends (by exact hs) hn
    refine ⟨_, hx, kept, bay.state, bay.contact, bay.loss, bay.timer, other', fun hm => ?_,
      fun hm hen => ?_⟩
    · rw [ctl, ctl']
      simp [ModeCtl.wakeEvent, hm]
    · rw [ctl, ctl']
      exact (wakeEvent_taken (k := .packSeated) hm hen).1
  case falls =>
    have long : guardActive s = decide (s.motion.guard ≠ .calm) := by
      cases hg : s.motion.guard <;> simp [guardActive, hg]
    refine congrArg Host.Outcome.next ((if_neg (by simp [show s.lines.contact.get i = true from hl])).trans
      ((if_pos hc).trans ?_))
    rw [← long]
    rfl
  case loss =>
    have hx : exec (.lossFilterExpiry i) s = .next (s.contactLoss i).closeEvent :=
      congrArg Host.Outcome.next (if_pos (by
        simp [show (s.bay i).loss.isSome = true from hf, show s.lines.contact.get i = false from hl]))
    obtain ⟨g, hr, hp, hy, hng⟩ := contactLoss_settles (i := i) (s := s) he
    have hb := moveBay_entered (contactLost s i) i .empty
    rw [contactLost_bay, State.onBay_bay] at hb
    have hflags := contactLost_flags (i := i) (s := s) he
    have hwork := contactLost_work s i
    have same := contactLost_sameLink (i := i) (s := s) he
    have hother : BayStill (s.bay (otherBay i))
        (((contactLost s i).moveBay i .empty).bay (otherBay i)) := by
      refine BayStill.trans ?_ (moveBay_still (otherBay_ne i) .empty)
      rw [contactLost_bay]
      exact onBay_still (otherBay_ne i) lostBay
    have hdue : ((contactLost s i).moveBay i .empty).due.isSome = true := moveBay_isSome _ _ _
    generalize (contactLost s i).moveBay i .empty = m at *
    rw [hp] at hr
    let sent := s.respondAll (lossAnswers i (s.bay i).traffic)
    obtain ⟨link, -, hub⟩ := respondAll_sameLink
      (t := { m.onTraffic i emptiedTraffic with drop := { m.drop with log := g } })
      ⟨same.link, same.resetN, same.hub⟩ (lossAnswers i (s.bay i).traffic)
    rw [respondAll_of_eq link hub] at hr
    have work := (hwork.onBay i fun x => { x with traffic := emptiedTraffic x.traffic }).sent
      sent.link g { m.flags with hub := sent.flags.hub }
    have bay := onTraffic_bay m i emptiedTraffic
    have bay' : BayStill { entered (contactLost s i).policy (contactLost s i).ctl.mode .empty
        (lostBay (s.bay i)) with traffic := emptiedTraffic (entered (contactLost s i).policy
          (contactLost s i).ctl.mode .empty (lostBay (s.bay i))).traffic }
        ((m.onTraffic i emptiedTraffic).bay i) := by
      rw [bay]
      exact (congrArg (fun x : Bay => { x with traffic := emptiedTraffic x.traffic }) hb :)
    have other' := hother.trans (onBay_still (s := m) (otherBay_ne i) fun x =>
      { x with traffic := emptiedTraffic x.traffic })
    let r : State := { m.onTraffic i emptiedTraffic with
      link := sent.link, flags := { m.flags with hub := sent.flags.hub },
      drop := { m.drop with log := g } }
    replace hx : exec (.lossFilterExpiry i) s = .next r.closeEvent :=
      hx.trans (congrArg (fun x : State => Host.Outcome.next x.closeEvent) hr)
    have hn' : r.NoTrips := noTrips_iff.2 ((forall_bay_iff i).2
      ⟨bay'.tripDeferred, other'.tripDeferred.trans ho⟩)
    have still := closeEvent_still hn'
    have z := bay'.trans (still i)
    have zo := other'.trans (still _)
    have hst : (r.bay i).state = .empty := bay'.state
    obtain ⟨role, charging⟩ := gates_closed_closeEvent (i := i) (s := r) hdue hn'
      (by rw [hst]; decide) (by rw [hst]; decide)
    have kept := (BayWork.closeEvent hn' work).ends (by rw [State.closeEvent_due]; exact hs.symm)
    have timer : (r.closeEvent.bay i).timer = none := z.timer.trans (if_neg he)
    have pending : (r.closeEvent.bay i).returnPending = false :=
      z.returnPending.trans (by simp [entered])
    have decision : (r.closeEvent.bay i).decisionDeferred = false :=
      z.decisionDeferred.trans (by simp [entered])
    have logged : g = (if y.traffic.reverify = some .record ∨
        ∃ x, y.traffic.bus = some x ∧ x.owner = .reverify .record
      then onNewest (DropRecord.writeVerify i .noAnswer) s.drop.log else s.drop.log) := by
      split
      · exact hy ‹_›
      · exact hng ‹_›
    rw [logged] at kept
    refine ⟨r.closeEvent, hx, kept, ?_, ?_, ⟨z.state, z.contact, z.loss, timer, z.record,
      z.tripDeferred, decision, pending, role, charging, ?_, ?_, ?_, ?_, ?_⟩, zo.state, zo.record⟩
    · exact closeEvent_flags (sp := .hub) hn' (by decide)
    · rw [closeEvent_flags hn' (baySpace_ne_supply i)]
      have : r.flags.get (baySpace i) = m.flags.get (baySpace i) := by cases i <;> rfl
      rw [this, hflags, SpaceFlags.raised, SpaceFlags.get_set]
    all_goals
      rw [z.traffic]
      rfl
  · have h' : ¬ ((s.bay i).loss.isSome = true ∧ s.lines.contact.get i = false) := by
      rintro ⟨hf, hl⟩
      obtain hn | hn := h
      · rw [show (s.bay i).loss = none from hn] at hf
        cases hf
      · exact nomatch (show s.lines.contact.get i = true from hn).symm.trans hl
    simpa using h'

end Sys2Proof.Proofs
end

section
/-!
PROOFS. A lockout trip taken (R22, R51 to R53), and LOCKOUT_LIMIT_WRITE (R21).
-/

namespace Sys2Proof.Proofs
open Sys2Proof.Machine

section
variable {s t : State} {i : BayId}

/-! ### A trip taken (R22, R52) -/

/-- A bay with no trip deferred. -/
def undeferred (y : Bay) : Bay := { y with tripDeferred := false }

/-- The state of a trip taken before the traffic is settled. -/
def silenced (s : State) (i : BayId) : State := (s.onBay i undeferred).moveBay i .silent

/-- The bay of a trip taken, but for its gates and its latch (R22, R52). -/
def silentBay (p : Policy) (m : PartMode) (y : Bay) : Bay :=
  let z := entered p m .silent (undeferred y)
  { z with traffic := z.traffic.settled }

/-- What a trip taken leaves: `g` is the drop log after the reports (R22, R52). -/
structure TripTaken (s : State) (i : BayId) (g : List DropRecord) (r : State) : Prop where
  work : BayWork { s with
    link := (s.respondAll (silentAnswers s i)).link, drop := { s.drop with log := g } } r
  bay : BayStill (silentBay s.policy s.ctl.mode (s.bay i)) (r.bay i)
  other : BayStill (s.bay (otherBay i)) (r.bay (otherBay i))
  hub : r.flags.hub = (s.respondAll (silentAnswers s i)).flags.hub
  flags : (s.bay i).state ≠ .silent →
    r.flags.get (baySpace i) = s.flags.get (baySpace i) ||| 0x10
  due : r.due = (s.owe .other).due
  reported : Reverifies (s.bay i).traffic →
    g = onNewest (DropRecord.writeVerify i .noAnswer) s.drop.log
  unreported : ¬ Reverifies (s.bay i).traffic → g = s.drop.log

theorem silenced_work (s : State) (i : BayId) : BayWork s (silenced s i) :=
  ((BayWork.refl s).onBay i undeferred).moveBay i .silent

theorem silenced_bay (s : State) (i : BayId) :
    BayStill (entered s.policy s.ctl.mode .silent (undeferred (s.bay i)))
      ((silenced s i).bay i) := by
  have h := moveBay_entered (s.onBay i undeferred) i .silent
  rw [State.onBay_bay] at h
  exact h

theorem silenced_other (s : State) (i : BayId) :
    BayStill (s.bay (otherBay i)) ((silenced s i).bay (otherBay i)) :=
  (onBay_still (otherBay_ne i) undeferred).trans (moveBay_still (otherBay_ne i) .silent)

theorem silenced_flags (h : (s.bay i).state ≠ .silent) :
    (silenced s i).flags = s.flags.raised (baySpace i) 0x10 :=
  moveBay_flags (s := s.onBay i undeferred) (by rw [State.onBay_bay]; exact h)

theorem silenced_hub (s : State) (i : BayId) : (silenced s i).flags.hub = s.flags.hub := by
  by_cases h : (s.bay i).state = .silent
  · have h' : ((s.onBay i undeferred).bay i).state = .silent := by rw [State.onBay_bay]; exact h
    unfold silenced State.moveBay
    dsimp only
    rw [if_pos h', syncPins_eq]
    rfl
  · rw [silenced_flags h, raised_hub]

theorem takeTrip_taken (s : State) (i : BayId) : ∃ g, TripTaken s i g (s.takeTrip i) := by
  have hb := silenced_bay s i
  have hwork := silenced_work s i
  have hother := silenced_other s i
  have hflags := silenced_flags (s := s) (i := i)
  have hdue : (silenced s i).due = (s.owe .other).due := moveBay_due _ _ _
  have same : SameLink s (silenced s i) :=
    ⟨(congrArg State.link hwork :), (congrArg (·.lines.resetN) hwork :), silenced_hub s i⟩
  have htake : s.takeTrip i = (silenced s i).settleSilent i := rfl
  have hlog : (silenced s i).drop.log = s.drop.log := (congrArg (·.drop.log) hwork :)
  generalize silenced s i = m at *
  obtain ⟨hw, hbus, -⟩ := onMove_traffic s.policy s.ctl.mode (s.bay i).state .silent
    (s.bay i).traffic
  obtain ⟨-, -, hv, -⟩ := onMove_kinds s.policy s.ctl.mode (s.bay i).state .silent
    (s.bay i).traffic
  have waiting : (m.bay i).traffic.waiting = (s.bay i).traffic.waiting := by
    rw [hb.traffic]
    exact hw
  have bus : (m.bay i).traffic.bus = (s.bay i).traffic.bus := by rw [hb.traffic]; exact hbus
  have reverify : (m.bay i).traffic.reverify = (s.bay i).traffic.reverify := by
    rw [hb.traffic]
    exact hv
  have answers : silentAnswers m i = silentAnswers s i := by
    unfold silentAnswers
    rw [waiting, hwork.policy, hb.record]
    rfl
  obtain ⟨g, hg, hy, hn⟩ := reportLost_eq (m.onTraffic i Traffic.settled) i (m.bay i).traffic
  unfold Reverifies at hy hn
  rw [bus, reverify] at hy hn
  rw [htake, settleSilent_eq, hg, answers]
  obtain ⟨link, -, hub⟩ := respondAll_sameLink
    (t := { m.onTraffic i Traffic.settled with
      drop := { (m.onTraffic i Traffic.settled).drop with log := g } })
    ⟨same.link, same.resetN, same.hub⟩ (silentAnswers s i)
  rw [respondAll_of_eq link hub]
  have rest : BayStill (s.bay (otherBay i))
      ((m.onTraffic i Traffic.settled).bay (otherBay i)) :=
    hother.trans (onBay_still (s := m) (otherBay_ne i) fun x =>
      { x with traffic := x.traffic.settled })
  have bay : BayStill (silentBay s.policy s.ctl.mode (s.bay i))
      ((m.onTraffic i Traffic.settled).bay i) := by
    rw [onTraffic_bay]
    exact (congrArg (fun x : Bay => { x with traffic := x.traffic.settled }) hb :)
  refine ⟨g, (hwork.onBay i _).sent _ g _, bay, rest, rfl,
    fun h => ?_, hdue, fun h => (hy h).trans (congrArg _ hlog), fun h => (hn h).trans hlog⟩
  refine Eq.trans (b := m.flags.get (baySpace i)) (by cases i <;> rfl) ?_
  rw [hflags h]
  exact SpaceFlags.get_set _ _ _

/-- A trip raised where none is raised yet (R51 to R53, log 38). -/
theorem raiseTrip_raised (h : (s.bay i).traffic.tripRaised = true) : s.raiseTrip i = s := if_pos h

/-- A deferral's condition: the bay is the sole supply (R53). -/
def Defers (s : State) (i : BayId) : Prop :=
  ((s.bay i).state = .online ∨ ((s.bay i).state = .identifying ∧ (s.bay i).role = .kept)) ∧
    soleSupply s i = true

theorem tripRaised_off (h : (s.bay i).state.traffic = false) : s.tripRaised i = s :=
  if_pos (by simp [h])

theorem Defers.traffic (h : Defers s i) : (s.bay i).state.traffic = true := by
  obtain ⟨h | ⟨h, -⟩, -⟩ := h <;> rw [h] <;> rfl

theorem tripRaised_deferred (h : Defers s i) : s.tripRaised i =
    (s.onIndications i fun y => { y with tripDeferred := true }).raise (baySpace i)
      .supplyUnmonitored :=
  (if_neg (by simp [h.traffic])).trans (if_pos (by simpa [Defers] using h))

theorem tripRaised_taken (ht : (s.bay i).state.traffic = true) (h : ¬ Defers s i) :
    s.tripRaised i = s.takeTrip i :=
  (if_neg (by simp [ht])).trans (if_neg (by simpa [Defers] using h))

/-! ### The limit written (R21) -/

/-- A bay whose failure count stands at the new top, its trip raised. -/
def countedOut (n : Nat) (y : Bay) : Bay :=
  { y with traffic := { y.traffic with failures := n + 1, tripRaised := true } }

theorem lockoutLimit_kept (h : (s.bay i).traffic.failures ≤ s.policy.lockoutLimit.get i) :
    s.lockoutLimitWritten i = s := if_neg (by omega)

theorem lockoutLimit_reached (h : s.policy.lockoutLimit.get i < (s.bay i).traffic.failures)
    (hr : (s.bay i).traffic.tripRaised = false) : s.lockoutLimitWritten i =
      (s.onBay i (countedOut (s.policy.lockoutLimit.get i))).tripRaised i := by
  refine (if_pos h).trans ((if_neg ?_).trans ?_)
  · rw [onTraffic_bay]
    simp [hr]
  · exact congrArg (State.tripRaised · i) (onBay_onBay s i _ _)

theorem lockoutLimit_raised (h : s.policy.lockoutLimit.get i < (s.bay i).traffic.failures)
    (hr : (s.bay i).traffic.tripRaised = true) : s.lockoutLimitWritten i =
      s.onBay i (countedOut (s.policy.lockoutLimit.get i)) := by
  refine (if_pos h).trans ((if_pos ?_).trans (onBay_congr ?_))
  · rw [onTraffic_bay]
    exact hr
  · rw [countedOut, ← hr]

theorem soleSupply_of_same {s t : State} (h : t.supply = s.supply)
    (hr : ∀ j, (t.bay j).role = (s.bay j).role) (i : BayId) : soleSupply t i = soleSupply s i := by
  simp only [soleSupply, h, hr]

/-- What LOCKOUT_LIMIT_WRITE stores, and the count that it makes of the failures (R21). -/
theorem exec_lockoutLimit (h : s.Takes) (tag limit : Byte) (i : BayId) :
    exec (.lockoutLimitWrite tag i limit) s = .next
      ((State.lockoutLimitWritten { s.heard with policy := { s.policy with
        lockoutLimit := s.policy.lockoutLimit.set i (min 15 limit.toNat) } } i).closeEvent.answered
          tag 0x03 (bayOffset 5 i) .ok []) := by
  have hput : Setting.put [limit] s.heard (.lockoutLimit i) =
      State.lockoutLimitWritten { s.heard with policy := { s.policy with
        lockoutLimit := s.policy.lockoutLimit.set i (min 15 limit.toNat) } } i := by
    simp only [Setting.put, leNat]
    rfl
  have ht : touched (spaceMap .policy) (bayOffset 5 i).toNat 1 =
      [rw' (bayOffset 5 i).toNat 1 (.lockoutLimit i)] := by cases i <;> rfl
  have w := settingWrite_taken h (tag := tag) (sp := .policy) (off := bayOffset 5 i)
    (data := [limit]) (x := .lockoutLimit i) (by simp) (by simp) ht rfl (by rfl) (by rfl)
  rw [hput] at w
  exact congrArg Host.Outcome.next w

end

/-- Settles O35, by the count against the new limit and by the trip. -/
theorem lockoutLimitIsWritten : Obligations.LockoutLimitIsWritten := by
  unfold Obligations.LockoutLimitIsWritten
  intro s tag limit i h y n p off defers
  have settled := h.settled
  let s1 : State := { s.heard with policy := p }
  have top : s1.policy.lockoutLimit.get i = n := Both.get_set _ _ _
  have off' : bayOffset 5 i = off := by cases i <;> rfl
  have run := exec_lockoutLimit h tag limit i
  rw [off'] at run
  let s2 := s1.onBay i (countedOut n)
  have bay2 : s2.bay i = countedOut n y := State.onBay_bay s1 i (countedOut n)
  have other2 : s2.bay (otherBay i) = s.bay (otherBay i) :=
    State.onBay_bay_ne s1 (otherBay_ne i) (countedOut n)
  have sole : soleSupply s2 i = soleSupply s i :=
    soleSupply_of_same (s := s) (t := s2) rfl ((forall_bay_iff i).2 ⟨by rw [bay2]; rfl, by rw [other2]⟩) i
  have defers2 : Defers s2 i ↔ defers := by
    unfold Defers
    rw [sole, bay2]
    exact Iff.rfl
  have reached (hf : n < y.traffic.failures) (hr : y.traffic.tripRaised = false) :
      s1.lockoutLimitWritten i = s2.tripRaised i := by
    rw [lockoutLimit_reached (s := s1) (by rw [top]; exact hf) hr, top]
  refine ⟨fun hf => ?kept, fun hf hr => ?counted, fun hf hr hd => ?deferred,
    fun hf hr ht hd hn => ?taken⟩
  case kept =>
    have := lockoutLimit_kept (s := s1) (i := i) (by rw [top]; exact hf)
    exact run.trans (congrArg (fun x : State => Host.Outcome.next (x.answered _ _ _ _ _))
      ((congrArg State.closeEvent this).trans (State.closeEvent_of_settled settled)))
  case counted =>
    have same : s1.lockoutLimitWritten i = s2 := by
      cases hx : y.traffic.tripRaised with
      | true => rw [lockoutLimit_raised (s := s1) (by rw [top]; exact hf) hx, top]
      | false =>
        have ht := hr.resolve_left (by rw [hx]; decide)
        exact (reached hf hx).trans (tripRaised_off (by rw [bay2]; exact ht))
    exact run.trans (congrArg (fun x : State => Host.Outcome.next (x.answered _ _ _ _ _))
      ((congrArg State.closeEvent same).trans (State.closeEvent_of_settled settled)))
  case deferred =>
    have trip := (reached hf hr).trans (tripRaised_deferred (defers2.2 hd))
    refine run.trans (congrArg (fun x : State => Host.Outcome.next (x.closeEvent.answered _ _ _ _ _))
      (trip.trans ?_))
    rw [State.onIndications, onBay_onBay, owe_of_none (by exact settled)]
    rfl
  case taken =>
    obtain ⟨g, q⟩ := takeTrip_taken s2 i
    have trip := (reached hf hr).trans (tripRaised_taken (by rw [bay2]; exact ht)
      (fun hx => hd (defers2.1 hx)))
    have run' := run.trans (congrArg (fun x : State =>
      Host.Outcome.next (x.closeEvent.answered _ _ _ _ _)) trip)
    have hn' : (s2.takeTrip i).NoTrips := noTrips_iff.2 ((forall_bay_iff i).2
      ⟨q.bay.tripDeferred, q.other.tripDeferred.trans (by rw [other2]; exact noTrips_bay hn _)⟩)
    have still := closeEvent_still hn'
    have z := q.bay.trans (still i)
    have kept := BayWork.closeEvent hn' q.work
    have answers : silentAnswers s2 i = y.traffic.waiting.map fun r =>
        let a := if r.shadow = true ∧ r.write = false
          then shadowAnswer s.policy y.record (r.offset.setWidth 8) r.snoop else (.silent, [])
        hostResponse i r a.1 a.2 := by
      unfold silentAnswers
      rw [bay2]
      rfl
    obtain ⟨link, -, hub⟩ := respondAll_sameLink (s := s.heard) (t := s2) ⟨rfl, rfl, rfl⟩
      (silentAnswers s2 i)
    have bus : (silentBay s2.policy s2.ctl.mode (s2.bay i)).traffic.bus =
        y.traffic.bus.map fun x => { x with owner := x.owner.discarded } := by
      rw [bay2]
      exact congrArg (Option.map _) (onMove_traffic _ _ _ _ _).2.1
    have failures : (silentBay s2.policy s2.ctl.mode (s2.bay i)).traffic.failures = n + 1 := by
      rw [bay2]
      exact (onMove_traffic _ _ _ _ _).2.2.1
    have logged : g = (if y.traffic.reverify = some .record ∨
        ∃ x, y.traffic.bus = some x ∧ x.owner = .reverify .record
      then onNewest (DropRecord.writeVerify i .noAnswer) s.drop.log else s.drop.log) := by
      have hy := q.reported
      have hn := q.unreported
      rw [bay2] at hy hn
      split
      · exact hy ‹_›
      · exact hn ‹_›
    refine ⟨_, run', kept.policy, z.state, ?_, ?_, ?_, ?_, ?_, ?_, ?_, ?_, ?_, ?_, ?_, ?_,
      fun hb => ?_, fun x hb r b hx => ?_⟩
    · rw [z.record, bay2]
      rfl
    · rw [z.traffic]
      rfl
    · rw [z.traffic, failures]
    · rw [(q.other.trans (still _)).state, other2]
    · rw [show (s2.takeTrip i).closeEvent.link = _ from (congrArg State.link kept :), link, answers]
    · exact (closeEvent_flags (sp := .hub) hn' (by decide)).trans
        (q.hub.trans (hub.trans (by rw [answers])))
    · exact (congrArg (·.drop.log) kept :).trans logged
    iterate 5
      · rw [z.traffic]
        rfl
    · rw [z.traffic, bus, hb]
      rfl
    · rw [z.traffic, bus, hb, Option.map_some, hx, Owner.discarded, ← hx]

end Sys2Proof.Proofs
end

section
/-!
PROOFS. L_MAX_WRITE and Q_WRITE (R86, R116, R117, R119, R126; log 13).
-/

namespace Sys2Proof.Proofs
open Sys2Proof.Machine

/-- `k'` is `k` after the power ceiling was computed and the output brought within it, whatever the
allowance handed (R116, R117, R119). -/
structure PanelLowered (k k' : Backlight) : Prop where
  rest : { k' with pbl := k.pbl, lpow := k.lpow, lout := k.lout, drive := k.drive,
                   lastSent := k.lastSent } = k
  lout : k'.lout ≤ k.lout

namespace PanelLowered
variable {j k l : Backlight}

theorem refl (k : Backlight) : PanelLowered k k := ⟨rfl, le_rfl⟩

theorem trans (h : PanelLowered j k) (g : PanelLowered k l) : PanelLowered j l := by
  refine ⟨?_, g.lout.trans h.lout⟩
  have h' := congrArg (fun x : Backlight => { x with
    pbl := j.pbl, lpow := j.lpow, lout := j.lout, drive := j.drive, lastSent := j.lastSent }) g.rest
  exact h'.trans h.rest

theorem lMax (h : PanelLowered k l) : l.lMax = k.lMax := (congrArg Backlight.lMax h.rest :)
theorem q (h : PanelLowered k l) : l.q = k.q := (congrArg Backlight.q h.rest :)

theorem eq (h : PanelLowered k l) : l = { k with
    pbl := l.pbl, lpow := l.lpow, lout := l.lout, drive := l.drive, lastSent := l.lastSent } :=
  (congrArg (fun x : Backlight => { x with
    pbl := l.pbl, lpow := l.lpow, lout := l.lout, drive := l.drive, lastSent := l.lastSent })
      h.rest :)

theorem redrive (u : Bool) (k : Backlight) : PanelLowered k (k.redrive u) := by
  unfold Backlight.redrive Backlight.send
  split <;> exact ⟨rfl, le_rfl⟩

theorem reclamp (u : Bool) (k : Backlight) : PanelLowered k (k.reclamp u) := by
  unfold Backlight.reclamp
  dsimp only
  split
  next h =>
    have lower : PanelLowered k { k with
      lpow := powerCeiling k.lMax k.q k.pbl, lout := powerCeiling k.lMax k.q k.pbl } :=
      ⟨rfl, Nat.le_of_lt h⟩
    exact lower.trans (redrive u _)
  · exact ⟨rfl, le_rfl⟩

theorem handPbl (u : Bool) (p : Nat) (k : Backlight) : PanelLowered k (k.handPbl u p) := by
  have hand : PanelLowered k { k with pbl := p } := ⟨rfl, le_rfl⟩
  exact hand.trans (reclamp u _)

theorem ownWrite (u b : Bool) (k : Backlight) : PanelLowered k (Backlight.ownWrite u b k) := by
  unfold Backlight.ownWrite
  dsimp only
  split
  · exact (reclamp u k).trans (redrive u _)
  · exact reclamp u k

end PanelLowered

section
variable {s t : State}

theorem allowPower_lowered (s : State) : PanelLowered s.back s.allowPower.back := by
  unfold State.allowPower
  dsimp only
  split
  · exact .refl _
  · exact .handPbl _ _ _

theorem reevaluate_lowered (ev : SupplyEvent) (s : State) :
    PanelLowered s.back (s.reevaluate ev).back := by
  have e : ((((s.supplyTransition ev).selectDischarge).selectCharge).setLastSupply id).back =
      s.back := by simp
  have h := allowPower_lowered
    ((((s.supplyTransition ev).selectDischarge).selectCharge).setLastSupply id)
  rwa [e] at h

theorem reevaluate_pbl (ev : SupplyEvent) (s : State) : (s.reevaluate ev).supply.pbl =
    min (s.back.lMax * s.back.q / 64)
      ((s.reevaluate ev).supply.pAvail - (s.reevaluate ev).supply.reserve - 5000) := by
  have e : (s.supplyTransition ev).back = s.back := by simp
  rw [reevaluate_eq_gated, gated_pbl, e]

/-- What a write of L_max or Q leaves, in either order of the two computations. -/
structure CeilingTaken (s r : State) : Prop where
  work : BayWork s r
  due : r.due = none
  panel : PanelLowered s.back r.back
  pbl : r.supply.pbl = min (s.back.lMax * s.back.q / 64)
    (r.supply.pAvail - r.supply.reserve - 5000)

theorem BayWork.onBack (h : BayWork s t) (f : Backlight → Backlight) : BayWork s (t.onBack f) :=
  h.trans (by rfl)

theorem ceiling_reevaluated (hd : s.due = none) (hn : s.NoTrips) :
    CeilingTaken s (s.owe .other).closeEvent := by
  have hn' : (s.owe .other).NoTrips := hn
  have hdue : (s.owe .other).due = some .other := owe_other_due (.inl hd)
  have e := closeEvent_noTrips hdue hn'
  have work : BayWork s (s.owe .other).closeEvent :=
    BayWork.closeEvent hn' ((BayWork.refl s).owe .other)
  have panel := reevaluate_lowered .other (s.owe .other).settled
  have pbl := reevaluate_pbl .other (s.owe .other).settled
  rw [← e] at panel pbl
  exact ⟨work, by rw [State.closeEvent_due], panel, pbl⟩

theorem panelWritten_taken (hd : s.due = none) (hn : s.NoTrips) (b : Bool) : ∃ c r,
    s.panelWritten b = { r with choice := c } ∧ CeilingTaken s r := by
  let own := Backlight.ownWrite (undriven s) b
  have lower := PanelLowered.ownWrite (undriven s) b
  have first : CeilingTaken s (((s.onBack own).owe .other).closeEvent) := by
    obtain ⟨work, due, panel, pbl⟩ := ceiling_reevaluated (s := s.onBack own) hd hn
    have hl : ((s.onBack own).back).lMax = s.back.lMax := (lower s.back).lMax
    have hq : ((s.onBack own).back).q = s.back.q := (lower s.back).q
    rw [hl, hq] at pbl
    exact ⟨((BayWork.refl s).onBack own).trans work, due, (lower s.back).trans panel, pbl⟩
  have second : CeilingTaken s (((s.owe .other).closeEvent).onBack own) := by
    obtain ⟨work, due, panel, pbl⟩ := ceiling_reevaluated hd hn
    exact ⟨work.onBack own, due, panel.trans (lower _), pbl⟩
  unfold State.panelWritten
  dsimp only
  split
  · exact ⟨_, _, rfl, first⟩
  split
  · exact ⟨_, _, rfl, first⟩
  · exact ⟨_, _, rfl, second⟩

/-- A WRITE of L_max or Q: the value stored, then the two computations. -/
theorem exec_ceilingWrite (h : s.Takes) (tag : Byte) (value : Half) {off : Half} {x : Setting}
    (hx : x = .lMax ∨ x = .q)
    (ht : touched (spaceMap .light) off.toNat 2 = [rw' off.toNat 2 x]) :
    s.receivePacket (writePacket tag (spaceDest .light) off (le16 value.toNat)) =
      ((x.put (le16 value.toNat) s.heard).panelWritten (x == .lMax)).closeEvent.answered tag 0x05
        off .ok [] := by
  have e : s.heard.takeFields .light 0 [(x, le16 value.toNat)] =
      ((x.put (le16 value.toNat) s.heard).panelWritten (x == .lMax), .ok) := by
    rw [takeFields_of_ok (by obtain rfl | rfl := hx <;> rfl)]
    obtain rfl | rfl := hx <;> rw [LinkControls.clearFlags_zero] <;> rfl
  rw [LinkControls.receivePacket_settingWrite h (by simp [le16]) (by simp [le16]) ht, e]
  rfl

/-- The value stored, the panel as it was but for it (R126). -/
structure CeilingStored (s t : State) (x : Setting) (l q : Nat) : Prop where
  back : t = { s.heard with back := { s.back with lMax := l, q := q } }
  put : ∃ bs, x.put bs s.heard = t

/-- What a write of L_max or Q ends in, from the value stored on (R86, R116 to R119). -/
theorem ceilingWritten_ends (h : s.Takes) (hn : s.NoTrips) (hp : s.PanelSound) {x : Setting}
    {l q : Nat} (hx : x = .lMax ∨ x = .q) (hs : CeilingStored s t x l q) :
    let u := (t.panelWritten (x == .lMax)).closeEvent
    u = { s.heard with
      bays := u.bays, supply := u.supply, back := u.back, ctl := u.ctl, flags := u.flags,
      drop := { s.drop with parkPin := u.drop.parkPin }, choice := u.choice } ∧
    u.back = { s.back with
      lMax := l, q := q, pbl := u.back.pbl, lpow := min u.back.lMax (u.back.pbl * 64 / u.back.q),
      lout := u.back.lout, drive := u.back.lout * 4095 / u.back.lMax,
      lastSent := u.back.lastSent } ∧
    u.back.lout ≤ u.back.lpow ∧ u.back.lout ≤ s.back.lout ∧ u.back.pbl = u.supply.pbl ∧
    u.supply.pbl = min (u.back.lMax * u.back.q / 64)
      (u.supply.pAvail - u.supply.reserve - 5000) := by
  obtain ⟨hback, bs, hput⟩ := hs
  have held0 : PanelHeld false false s.heard := panelHeld_congr ((panelHeld_iff s).2 hp)
  have held1 := panelHeld_put [] x bs held0
  rw [hput] at held1
  have sound : (t.panelWritten (x == .lMax)).PanelSound := by
    refine (panelHeld_iff _).1 ?_
    obtain rfl | rfl := hx
    · exact panelHeld_panelWritten held1
    · exact panelHeld_panelWritten held1
  have due : t.due = none := by
    rw [hback]
    exact h.settled
  obtain ⟨c, r, hr, work, rdue, panel, pbl⟩ := panelWritten_taken (b := x == .lMax) due
    (by rw [hback]; exact hn)
  rw [hr] at sound ⊢
  have ended : ({ r with choice := c } : State).closeEvent = { r with choice := c } :=
    State.closeEvent_of_settled rdue
  rw [ended]
  have kept := work.ends (by rw [rdue, due])
  obtain ⟨hc, hw, hd, hh, -⟩ := sound
  have hl := panel.lMax
  have hq := panel.q
  refine ⟨?_, ?_, hw, ?_, hh, ?_⟩
  · subst hback
    exact (congrArg (fun x : State => { x with choice := c }) kept :)
  · have e := panel.eq
    rw [show r.back.lpow = _ from hc, show r.back.drive = _ from hd] at e
    subst hback
    exact e
  · have := panel.lout
    subst hback
    exact this
  · dsimp only
    rw [hl, hq]
    exact pbl

end

/-- Settles O37: the stored value, then the two computations in either order. -/
theorem ceilingWritesActAtOnce : Obligations.CeilingWritesActAtOnce := by
  unfold Obligations.CeilingWritesActAtOnce
  intro s tag value h hn hp c hc
  have v : leNat (le16 value.toNat) = value.toNat := leNat_le16 value
  obtain rfl | rfl := hc
  · have put : Setting.put (le16 value.toNat) s.heard .lMax = { s.heard with back := { s.back with
        lMax := min 2000 (max 100 value.toNat), q := s.back.q } } := by
      simp only [Setting.put, v]
      rfl
    have run := exec_ceilingWrite h tag value (off := 0x16) (x := .lMax) (.inl rfl) rfl
    rw [put] at run
    obtain ⟨kept, back, rest⟩ := ceilingWritten_ends h hn hp (.inl rfl) ⟨rfl, _, put⟩
    refine ⟨_, (congrArg Host.Outcome.next run).trans ?_, kept, ?_, rest⟩
    · rw [if_pos rfl]
    · rw [if_pos rfl, if_neg (by simp)]
      exact back
  · have put : Setting.put (le16 value.toNat) s.heard .q = { s.heard with back := { s.back with
        lMax := s.back.lMax, q := min 4095 (max 1 value.toNat) } } := by
      simp only [Setting.put, v]
      rfl
    have run := exec_ceilingWrite h tag value (off := 0x18) (x := .q) (.inr rfl) rfl
    rw [put] at run
    obtain ⟨kept, back, rest⟩ := ceilingWritten_ends h hn hp (.inr rfl) ⟨rfl, _, put⟩
    refine ⟨_, (congrArg Host.Outcome.next run).trans ?_, kept, ?_, rest⟩
    · rw [if_neg (by simp)]
    · rw [if_pos rfl, if_neg (by simp)]
      exact back

end Sys2Proof.Proofs
end

section
/-!
PROOFS. A host pack request at its arrival (R4, R7, R9, R10, R12).
-/

namespace Sys2Proof.Proofs
open Sys2Proof.Machine

section
variable {s : State} {i : BayId}

theorem spaceOf_passDest (i : BayId) : spaceOf (passDest i) = none := by cases i <;> rfl

theorem passBay_passDest (i : BayId) : passBay (passDest i) = some i := by cases i <;> rfl

/-- A READ of a pass space (R183). -/
theorem exec_packRead (h : s.Takes) (tag count : Byte) (i : BayId) (off : Half) :
    exec (.packRead tag i off count) s = .next
      (if count.toNat = 0 ∨ 32 < count.toNat then
        s.heard.answer (baySpace i) (readPacket tag (passDest i) off count) .badValue []
      else (s.heard.packRequest i tag off false count.toNat []).closeEvent) := by
  have hx : exec (.packRead tag i off count) s =
      .next (s.receivePacket (readPacket tag (passDest i) off count)) := rfl
  rw [hx, State.receivePacket_taken h rfl (by simp [Packet.len, readPacket])]
  simp [State.dispatch, readPacket, State.readRequest, spaceOf_passDest, passBay_passDest]

theorem exec_packWrite (h : s.Takes) (tag : Byte) (i : BayId) (off : Half) {data : List Byte}
    (h1 : 1 ≤ data.length) (h2 : data.length ≤ 32) :
    exec (.packWrite tag i off data) s =
      .next (s.heard.packRequest i tag off true data.length data).closeEvent := by
  have hx : exec (.packWrite tag i off data) s =
      .next (s.receivePacket (writePacket tag (passDest i) off data)) := rfl
  rw [hx, State.receivePacket_taken h rfl (by simp only [Packet.len, writePacket]; omega)]
  simp [State.dispatch, writePacket, h1, h2, State.writeRequest, spaceOf_passDest,
    passBay_passDest]

/-- The request that a READ or WRITE of a pass space makes (R7). -/
def arrival (p : Policy) (tag : Byte) (off : Half) (write : Bool) (count : Nat)
    (data : List Byte) : HostRequest :=
  let k := p.lookup (off.setWidth 8) write
  { tag := tag, offset := off, write := write, count := count, data := data, cls := k.cls,
    shadow := k.treatment == .shadow, snoop := k.snoop }

theorem packRequest_high {tag : Byte} {off : Half} {write : Bool} {count : Nat}
    {data : List Byte} (ho : 255 < off.toNat) : s.packRequest i tag off write count data =
      { s with flags := s.flags.raised (baySpace i) (1 ||| 8) }.answered tag (passDest i) off
        .badOffset [] := by
  refine (if_pos ho).trans ?_
  simp only [State.answerFlags, raise_raise]
  rfl

theorem packRequest_low {tag : Byte} {off : Half} {write : Bool} {count : Nat}
    {data : List Byte} (ho : off.toNat ≤ 255) : s.packRequest i tag off write count data =
      s.admitRequest i (s.policy.lookup (off.setWidth 8) write)
        (arrival s.policy tag off write count data) :=
  if_neg (Nat.not_lt.2 ho)

variable {k : Lookup} {r : HostRequest}

theorem admitRequest_refused (h : k.treatment = .block ∨ k.allowed = false) :
    s.admitRequest i k r = { s with flags := s.flags.raised (baySpace i) 8 }.answered r.tag
      (passDest i) r.offset .refused [] :=
  if_pos (by simpa using h)

theorem admitRequest_absent (hb : k.treatment ≠ .block) (ha : k.allowed = true)
    (ht : (s.bay i).state.traffic = false) :
    s.admitRequest i k r = s.answerFromRecord i (s.bay i).state.absentAnswer r :=
  (if_neg (by simp [hb, ha])).trans (if_pos (by simp [ht]))

theorem admitRequest_busy (hb : k.treatment ≠ .block) (ha : k.allowed = true)
    (ht : (s.bay i).state.traffic = true) (hq : 4 ≤ (s.bay i).traffic.queueLength) :
    s.admitRequest i k r = s.answered r.tag (passDest i) r.offset .busy [] :=
  (if_neg (by simp [hb, ha])).trans ((if_neg (by simp [ht])).trans (if_pos hq))

/-- A bay whose queue a request has joined. -/
def joined (r : HostRequest) (t : Traffic) : Traffic := { t with waiting := t.waiting ++ [r] }

theorem admitRequest_joins (hb : k.treatment ≠ .block) (ha : k.allowed = true)
    (ht : (s.bay i).state.traffic = true) (hq : (s.bay i).traffic.queueLength < 4) :
    s.admitRequest i k r = (s.onTraffic i (joined r)).arbitrate i :=
  (if_neg (by simp [hb, ha])).trans ((if_neg (by simp [ht])).trans
    (if_neg (Nat.not_le.2 hq)))

/-- A bay's traffic replaced. -/
theorem onTraffic_eq (s : State) (i : BayId) (f : Traffic → Traffic) : s.onTraffic i f =
    { s with bays := s.bays.set i { s.bay i with traffic := f (s.bay i).traffic } } := rfl

theorem grant_onTraffic (s : State) (i : BayId) (x : Transaction) (f g : Traffic → Traffic) :
    (s.onTraffic i g).grant i x f = s.onTraffic i fun t => { f (g t) with bus := some x } := by
  cases i <;> rfl

end

/-- Settles O22, condition by condition. -/
theorem packRequestsAtArrival : Obligations.PackRequestsAtArrival := by
  unfold Obligations.PackRequestsAtArrival
  refine ⟨fun s tag count i off h hc => ?_, ?_⟩
  · rw [exec_packRead h, if_pos hc, LinkControls.answer_badValue]
    rfl
  intro s tag count i off data write h h1 h2 hc1 hc2 c k r y answers queued
  have settled := h.settled
  have run {u : State} (hu : s.heard.packRequest i tag off write r.count r.data = u)
      (hd : u.due = none) : exec c s = .next u := by
    have e : exec c s =
        .next (s.heard.packRequest i tag off write r.count r.data).closeEvent := by
      cases write with
      | true => exact exec_packWrite h tag i off h1 h2
      | false => exact (exec_packRead h tag count i off).trans (congrArg _ (if_neg (by omega)))
    rw [e, hu, State.closeEvent_of_settled hd]
  have arrives : arrival s.heard.policy tag off write r.count r.data = r := rfl
  have low {u : State} (ho : off.toNat ≤ 255) (hu : s.heard.admitRequest i k r = u)
      (hd : u.due = none) : exec c s = .next u :=
    run ((packRequest_low ho).trans hu) hd
  have respondDue (x : Response) (f : SpaceFlags) :
      (State.respond { s.heard with flags := f } x).due = none :=
    (show (State.respond _ x).due = _ by simp).trans settled
  have absent (ho : off.toNat ≤ 255) (hb : k.treatment ≠ .block) (ha : k.allowed = true)
      (ht : y.state.traffic = false) : exec c s = .next (s.heard.respond
        (queueAnswer s.policy y.record i y.state.absentAnswer r)) :=
    low ho ((admitRequest_absent (s := s.heard) hb ha ht).trans (answerFromRecord_eq _ _ _ _))
      (respondDue _ _)
  refine ⟨fun ho => run (packRequest_high ho) (respondDue _ _),
    fun ho hk => low ho (admitRequest_refused hk) (respondDue _ _), fun ho hb ha =>
      ⟨fun ht => ⟨fun hs hw => ?shadow, fun hs => ?record⟩,
       fun ht => ⟨fun hq => low ho (admitRequest_busy hb ha ht hq) (respondDue _ _),
        fun hq => ⟨fun hbus => ?busTaken, fun hbus htrip hal hm => ?free⟩⟩⟩⟩
  case shadow =>
    refine (absent ho hb ha ht).trans (congrArg (fun x => Host.Outcome.next (s.heard.respond x)) ?_)
    simp only [queueAnswer, if_pos (show r.shadow = true ∧ r.write = false from ⟨hs, hw⟩)]
    rfl
  case record =>
    have plain : ¬ (r.shadow = true ∧ r.write = false) := by
      rintro ⟨hs', hw⟩
      obtain hs | hs := hs
      · exact nomatch hs.symm.trans hs'
      · exact nomatch hs.symm.trans hw
    have answer {o : Answer} (ho' : y.state.absentAnswer = o) : answers s.flags o [] := by
      refine (absent ho hb ha ht).trans
        (congrArg (fun x => Host.Outcome.next (s.heard.respond x)) ?_)
      simp only [queueAnswer, if_neg plain, ho']
      rfl
    refine ⟨fun hst => answer (by rw [hst]; rfl), fun hst => answer ?_⟩
    revert hst
    cases y.state <;> simp [BayState.absentAnswer]
  case busTaken =>
    have busy := arbitrate_busy (s := s.heard.onTraffic i (joined r)) (i := i)
      (by rw [onTraffic_bay]; exact hbus)
    exact low ho ((admitRequest_joins (s := s.heard) hb ha ht hq).trans busy) settled
  case free =>
    intro queue
    have bay := onTraffic_bay s.heard i (joined r)
    have looks : Looks (s.heard.onTraffic i (joined r)) i :=
      ⟨by rw [bay]; exact hbus, by rw [bay]; exact ht, by rw [bay]; exact htrip⟩
    have alert : ((s.heard.onTraffic i (joined r)).bay i).traffic.alert = false := by
      rw [bay]
      exact hal
    have maintains : ((s.heard.onTraffic i (joined r)).bay i).traffic.maintains = false := by
      rw [bay]
      exact hm
    have waiting : ((s.heard.onTraffic i (joined r)).bay i).traffic.waiting = queue := by rw [bay]; rfl
    refine ⟨fun hh => ?_, fun before q after hqueue hh hq' => ?_⟩
    · have idle := arbitrate_idle looks alert
        (by rw [waiting]; exact takeEligible_none.2 hh) maintains
      exact low ho ((admitRequest_joins (s := s.heard) hb ha ht hq).trans idle) settled
    · have grant := arbitrate_request looks alert (r := q) (rest := before ++ after)
        (by rw [waiting, hqueue]; exact takeEligible_append after hh hq') (.inl maintains)
      rw [grant_onTraffic] at grant
      exact low ho ((admitRequest_joins (s := s.heard) hb ha ht hq).trans grant) settled

end Sys2Proof.Proofs
end

section
/-!
PROOFS. The light sensors' events (R96 to R98, R100 to R103).
-/

namespace Sys2Proof.Proofs
open Sys2Proof.Machine

section
variable {s : State} {i : SensorId}

/-- The conversion time of a step, step by step (R96). -/
theorem conversionMs_eq (n : Nat) : conversionMs n =
    match n with | 0 => 25 | 1 => 100 | 2 => 100 | 3 => 100 | 4 => 100 | _ => 200 := by
  rcases n with _ | _ | _ | _ | _ | n <;> rfl

/-- A sensor with a conversion started at the step `n` (R96). -/
theorem startConversion_eq (r : Sensor) : r.startConversion = { r with
    conversion := some ⟨conversionMs r.step + 25, conversionMs r.step + 25⟩ } := rfl

theorem onSensor_onSensor (u : Light) (i : SensorId) (f g : Sensor → Sensor) :
    (u.onSensor i f).onSensor i g = u.onSensor i fun r => g (f r) := by
  cases i <;> rfl

/-- A sample of the conversion in progress (R96, R97). -/
theorem arrival_own (now : Nat) {i : SensorId} (count : Half) (g : Gain) (t : Integration)
    (theta : Byte) {u : Light} (h : (u.sensor i).conversion.isSome = true) :
    Light.arrival now i (.own count) g t theta u =
      (if (u.sensor i).discardOwed then u.onSensor i Sensor.discard
        else u.accept now i count.toNat g t theta).onSensor i Sensor.startConversion := by
  obtain ⟨c, hc⟩ := Option.isSome_iff_exists.1 h
  simp only [Light.arrival, hc]

theorem arrival_idle (now : Nat) {i : SensorId} (count : Half) (g : Gain) (t : Integration)
    (theta : Byte) {u : Light} (h : (u.sensor i).conversion = none) :
    Light.arrival now i (.own count) g t theta u = u := by
  simp only [Light.arrival, h]

/-- A discarded conversion (R97). -/
theorem discard_eq (r : Sensor) : r.discard = { r with
    failures := 0, discardOwed := false,
    condition := if r.condition = .starting ∨ r.condition = .faulted then .noSample
      else r.condition,
    stale := if r.condition = .starting ∨ r.condition = .faulted then none else r.stale } := by
  unfold Sensor.discard
  by_cases h : r.condition = .starting ∨ r.condition = .faulted
  · simp [h]
  · rw [if_neg h, if_neg h]
    exact if_neg (by simpa using h)

theorem illuminance_eq (count : Half) (trim : Nat) (g : Gain) (t : Integration) :
    illuminance count.toNat trim g t = if count = 65535 ∧ g = .g1 ∧ t = .t1 then 200000
      else min 200000 (count.toNat * trim / (1024 * Gain.value g * Integration.value t)) := by
  have full : count.toNat = 65535 ↔ count = 65535 := ⟨fun h => BitVec.eq_of_toNat_eq h, fun h => h ▸ rfl⟩
  simp [illuminance, full, Config.luxMax, and_assoc]

theorem fail_counted {r : Sensor} (h : r.failures < 2) :
    r.fail = Sensor.startConversion { r with failures := r.failures + 1 } := by
  have hm : min 3 (r.failures + 1) = r.failures + 1 := by omega
  simp only [Sensor.fail, hm, if_neg (show ¬ 3 ≤ r.failures + 1 by omega)]

theorem fail_faulted {r : Sensor} (h : 2 ≤ r.failures) :
    r.fail = Sensor.startConversion { r with failures := 3, condition := .faulted } := by
  have hm : min 3 (r.failures + 1) = 3 := by omega
  simp only [Sensor.fail, hm, le_refl, if_true]

/-- A failed conversion: its record, and SENSOR_FAULT at an entry to FAULTED (R102). -/
theorem conversionFails_eq {q : Sensor} {f : SpaceFlags} (hq : (s.light.sensor i).fail = q)
    (hf : (if (s.light.sensor i).condition ≠ .faulted ∧ q.condition = .faulted
      then s.flags.raised .light 0x10 else s.flags) = f) :
    s.conversionFails i = { s with light := s.light.onSensor i fun _ => q, flags := f } := by
  subst hq hf
  unfold State.conversionFails
  dsimp only
  rw [State.onLight, onSensor_eq]
  by_cases h : (s.light.sensor i).condition ≠ .faulted ∧
      (s.light.sensor i).fail.condition = .faulted
  · rw [if_pos h]
    exact if_pos (by simpa using h)
  · rw [if_neg h]
    exact if_neg (by simpa using h)

/-- An accepted sample of the conversion in progress (R98, R100). -/
theorem accept_eq (now limit : Nat) (count : Half) (g : Gain) (t : Integration) (r : Sensor) :
    (r.accept now limit count.toNat g t).startConversion =
      let lux := if count = 65535 ∧ g = .g1 ∧ t = .t1 then 200000
        else min 200000 (count.toNat * r.trim / (1024 * Gain.value g * Integration.value t))
      let step := nextStep count.toNat r.step
      { r with
        sample := some ⟨count.toNat, g, t, decide (count = 65535), now, lux⟩, step := step,
        failures := 0, condition := .fresh, stale := some ⟨limit, limit⟩,
        conversion := some ⟨conversionMs step + 25, conversionMs step + 25⟩ } := by
  have full : (count.toNat == 65535) = decide (count = 65535) := by
    rw [Bool.eq_iff_iff, beq_iff_eq, decide_eq_true_eq]
    exact ⟨fun h => BitVec.eq_of_toNat_eq h, fun h => h ▸ rfl⟩
  simp only [startConversion_eq, Sensor.accept, illuminance_eq, full]
  rfl

/-- The light unit after an accepted sample: θ with FRONT alone (R98, R103). -/
theorem accepted_eq (now : Nat) (i : SensorId) (count : Half) (g : Gain) (t : Integration)
    (theta : Byte) (u : Light) :
    (u.accept now i count.toNat g t theta).onSensor i Sensor.startConversion =
      { u.onSensor i fun r => (r.accept now u.staleLimit count.toNat g t).startConversion with
        theta := if i = .front then some ⟨min 125 (max (-40) theta.toInt), now⟩ else u.theta } := by
  cases i <;> rfl

theorem onSensor_sensor (u : Light) (i : SensorId) (f : Sensor → Sensor) :
    (u.onSensor i f).sensor i = f (u.sensor i) := by
  cases i <;> rfl

theorem onSensor_sensor_ne (u : Light) {i j : SensorId} (h : j ≠ i) (f : Sensor → Sensor) :
    (u.onSensor i f).sensor j = u.sensor j := by
  cases i <;> cases j <;> simp_all [Light.onSensor, Light.sensor]

end

/-- Settles O54, event by event. -/
theorem lightSensorsFollowTheirEvents : Obligations.LightSensorsFollowTheirEvents := by
  unfold Obligations.LightSensorsFollowTheirEvents
  intro s i count g t theta r ms started arrival sets failed
  have time : ms = conversionMs r.step := (conversionMs_eq _).symm
  have start (q : Sensor) (hq : q.step = r.step) :
      q.startConversion = { q with conversion := started } := by
    simp only [started, time, ← hq]
    rfl
  have fails (c : Instr) (hc : exec c s = .next (s.conversionFails i)) : failed c := by
    refine ⟨fun h => ?_, fun h => ?_⟩
    · exact hc.trans (congrArg _ (conversionFails_eq ((fail_counted h).trans (start _ rfl))
        (if_neg fun hx => hx.1 hx.2)))
    · refine hc.trans (congrArg _ (conversionFails_eq ((fail_faulted h).trans (start _ rfl)) ?_))
      by_cases hf : r.condition = .faulted
      · rw [if_pos hf, if_neg fun hx => hx.1 hf]
      · rw [if_neg hf, if_pos ⟨hf, rfl⟩]
  refine ⟨rfl, fun h => congrArg (fun u : Light => (.next { s with light := u } : Result))
      (arrival_idle _ _ _ _ _ h), fun h hd => ?discarded, fun h hd => ?accepted,
    fun h => ⟨congrArg _ (if_neg ?_), congrArg _ (if_neg ?_)⟩,
    fun c hc => ⟨fun hl => congrArg _ (if_neg ?_), fun hl => fails _ (congrArg _ (if_pos ?_)),
      fails _ (congrArg _ (if_pos ?_))⟩, fun h => ?_, fun h => ?_⟩
  case discarded =>
    have hu := (arrival_own s.uptime count g t theta h).trans
      (congrArg (Light.onSensor i Sensor.startConversion) (if_pos hd))
    rw [onSensor_onSensor, onSensor_eq, start _ (by rw [discard_eq]), discard_eq] at hu
    exact congrArg (fun u : Light => (.next { s with light := u } : Result)) hu
  case accepted =>
    have hu := (arrival_own s.uptime count g t theta h).trans
      (congrArg (Light.onSensor i Sensor.startConversion) (if_neg (by rw [hd]; simp)))
    rw [accepted_eq] at hu
    refine ⟨_, congrArg (fun u : Light => (.next { s with light := u } : Result)) hu,
      ?_, fun j hj => ?_, ?_⟩
    · cases i <;> rfl
    · exact onSensor_sensor_ne s.light hj _
    · intro lux step ms'
      have time' : ms' = conversionMs step := (conversionMs_eq _).symm
      rw [time']
      exact (onSensor_sensor s.light i _).trans (accept_eq ..)
  · simp [ranDown, show (s.light.sensor i).conversion = none from h]
  · simp [show (s.light.sensor i).conversion = none from h]
  · simp [ranDown, show (s.light.sensor i).conversion = some c from hc, hl]
  · simp [ranDown, show (s.light.sensor i).conversion = some c from hc, hl]
  · simp [show (s.light.sensor i).conversion = some c from hc]
  · have idle : (s.light.sensor i).staleExpiry = s.light.sensor i :=
      if_neg (by simp [show (s.light.sensor i).stale = none from h])
    have same : s.light.onSensor i Sensor.staleExpiry = s.light := by
      rw [onSensor_eq, idle]
      cases i <;> rfl
    exact congrArg (fun u : Light => (.next { s with light := u } : Result)) same
  · have expires : (s.light.sensor i).staleExpiry = (s.light.sensor i).expireStale := if_pos h
    have hu := onSensor_eq s.light i Sensor.staleExpiry
    rw [expires] at hu
    exact congrArg (fun u : Light => (.next { s with light := u } : Result)) hu

end Sys2Proof.Proofs
end

section
/-!
PROOFS. A brightness tick's stages (R104, R105, R110 to R119, R121).
-/

namespace Sys2Proof.Proofs
open Sys2Proof.Machine

section
variable {s : State}

/-- An item handed to the LIGHT stream reaches the stream and the link alone (R162). -/
theorem offerLight_state (s : State) (ef er a : Option Nat) (lout : Nat) :
    s.offerLight ef er a lout = { s with
      streams := (s.offerLight ef er a lout).streams
      link := (s.offerLight ef er a lout).link } := by
  unfold State.offerLight
  dsimp only
  (repeat' split)
  · rw [transmit_eq]
    rfl
  · rfl
  · rfl

theorem offerLight_off (h : s.streams.light.enabled = false) (ef er a : Option Nat) (lout : Nat) :
    s.offerLight ef er a lout = s := if_neg (by simp [StreamCtl.takes, h])

/-- E_eff, sensor by sensor (R104). -/
theorem fuse_eq (w : Nat) (f r : Option Nat) : fuse w f r =
    match f, r.map fun e => e * w / 256 with
    | some f, some v => some (max f v)
    | some f, none => some f
    | none, v => v := by
  cases f <;> cases r <;> rfl

/-- The filter's stage, by what is absent (R112). -/
theorem filterStage_eq (rise fall : Nat) (a e : Option Nat) : filterStage rise fall a e =
    match a, e with
    | none, e => e
    | some a, none => some a
    | some a, some e => some (
        if a < e then a + max 1 ((e - a) / 2 ^ rise)
        else if e < a then a - max 1 ((a - e) / 2 ^ fall) else a) := by
  cases a <;> cases e <;> rfl

/-- Stages 2 to 9, each from the one before (R113 to R119). -/
theorem pipeline_eq (u : Bool) (a : Nat) (theta : Int) (k : Backlight) :
    k.pipeline u a theta =
      let n := curveAt k.working a
      let t := biased k.lMax k.bias n
      let lth := thermalCeiling k.lMax theta
      let floored := max k.lMin (min t lth)
      let lpow := powerCeiling k.lMax k.q k.pbl
      let target := min floored lpow
      let lout := slew k.rUp k.rDn target (min k.lout lpow)
      { k with
        lpow := lpow, stages := some ⟨n, t, lth, floored, target⟩, lout := lout,
        drive := driveWord k.lMax lout,
        lastSent := if u then k.lastSent else driveWord k.lMax lout } := by
  cases u <;> rfl

/-- The stages of a tick while the panel is OFF or A is absent (R111). -/
theorem tickStages_rest {k : Backlight} {u : Bool} {e : Option Nat} {theta : Int}
    (h : k.on = false ∨ filterStage k.riseShift k.fallShift k.filtered e = none) :
    k.tickStages u e theta = { k with
      filtered := filterStage k.riseShift k.fallShift k.filtered e
      tick := some ⟨k.tickPeriod, k.tickPeriod⟩ } := by
  unfold Backlight.tickStages
  dsimp only
  split
  next v hv =>
    have : k.on = false := h.resolve_right (by rw [hv]; simp)
    rw [hv]
    exact if_neg (by simp [this])
  next hv =>
    rw [hv]
    rfl

theorem tickStages_run {k : Backlight} {u : Bool} {e : Option Nat} {theta : Int} {a : Nat}
    (hon : k.on = true) (ha : filterStage k.riseShift k.fallShift k.filtered e = some a) :
    k.tickStages u e theta =
      Backlight.pipeline u a theta { k with
        filtered := some a, tick := some ⟨k.tickPeriod, k.tickPeriod⟩ } := by
  unfold Backlight.tickStages
  dsimp only
  rw [ha]
  exact if_pos hon

/-- A tick reaches the panel, the LIGHT flags, the stream and the link (R105, R111). -/
theorem brightnessTick_state (s : State) : s.brightnessTick = { s with
    flags := if fuse s.light.weight s.light.front.usable s.light.rear.usable = none
      then s.flags.raised .light 0x20 else s.flags
    back := s.brightnessTick.back, streams := s.brightnessTick.streams
    link := s.brightnessTick.link } := by
  unfold State.brightnessTick
  dsimp only
  generalize fuse s.light.weight s.light.front.usable s.light.rear.usable = e
  rw [offerLight_state]
  cases e <;> rfl

theorem brightnessTick_streams (h : s.streams.light.enabled = false) :
    s.brightnessTick.streams = s.streams ∧ s.brightnessTick.link = s.link := by
  unfold State.brightnessTick
  dsimp only
  rw [offerLight_off (by split <;> exact h)]
  split <;> exact ⟨rfl, rfl⟩

end

/-- Settles O55: fusion, the filter and the stages by name. -/
theorem brightnessTickRunsThePipeline : Obligations.BrightnessTickRunsThePipeline := by
  unfold Obligations.BrightnessTickRunsThePipeline
  intro s
  refine ⟨fun h => congrArg _ (if_neg (by simp [h])), fun h =>
    ⟨s.brightnessTick, CurveRead.exec_brightnessTick_of_running h, ?_⟩⟩
  intro k lux weighted e a ticked
  have he : e = fuse s.light.weight s.light.front.usable s.light.rear.usable :=
    (fuse_eq _ _ _).symm
  have ha : a = filterStage k.riseShift k.fallShift k.filtered
      (fuse s.light.weight s.light.front.usable s.light.rear.usable) := by
    rw [← he]
    exact (filterStage_eq _ _ _ _).symm
  have back := CurveRead.brightnessTick_back s
  refine ⟨?_, brightnessTick_streams, fun hk => ?_, fun hon v hv => ?_⟩
  · rw [he]
    exact brightnessTick_state s
  · rw [back, tickStages_rest (hk.imp id fun h => ha.symm.trans h)]
    simp only [ticked, ha]
  · rw [back, tickStages_run hon (ha.symm.trans hv), pipeline_eq]
    simp only [ticked, hv]
    rfl

end Sys2Proof.Proofs
end

section
/-!
PROOFS. The power-on reset (R23, R65, R91, R125, R144, R160, R169, R178, R179, R192; log 3).
-/

namespace Sys2Proof.Proofs
open Sys2Proof.Machine

/-- A bay at power-on, before or after its contact line was sensed (R42, R65). -/
def poweredBay (present intent : Bool) : Bay :=
  if present then
    { Bay.fresh intent with
      contact := true, state := .seated, timer := some ⟨.settle, ⟨200, 200⟩, false⟩ }
  else Bay.fresh intent

/-- A bay space's flags at power-on, before or after its contact line was sensed (R39). -/
def poweredFlags (present : Bool) : Half := if present then 0 ||| Flag.stateChanged.mask else 0

/-- The mode controller takes a pack-seated event where the bay's contact line is present (R174). -/
def seatedEvent : Bool → ModeCtl → ModeCtl
  | true, c => c.wakeEvent .packSeated
  | false, c => c

/-- The power-on state with the contacts `a` and `b` sensed, a re-evaluation owed where one was
present. -/
def poweredOn (s : State) (a b : Bool) : State := { State.atPowerOn s.lines s.store with
  pending := s.pending
  choice := s.choice
  ctl := seatedEvent b (seatedEvent a ⟨.dormant, 31, 0, false⟩)
  bays := ⟨poweredBay a s.lines.intent.a, poweredBay b s.lines.intent.b⟩
  flags := { SpaceFlags.clear with bayA := poweredFlags a, bayB := poweredFlags b }
  due := if a || b then some .other else none }

section
variable (s : State)

/-- The settle timer and the wake event of a contact arrival, no FREEZE in force (R42, R55). -/
theorem arrival_settles {m : State} (hf : frozen m = false) (hp : m.policy = .defaults)
    (i : BayId) : (m.startSettle i).wakeEvent .packSeated = { m with
      ctl := m.ctl.wakeEvent .packSeated
      bays := m.bays.set i { m.bay i with timer := some ⟨.settle, ⟨200, 200⟩, false⟩ } } := by
  have e : m.startSettle i = { m with bays := m.bays.set i { m.bay i with
      timer := some ⟨.settle, Timer.start m.policy.settleTime, frozen m⟩ } } := by
    cases i <;> rfl
  rw [e, hf, hp]
  rfl

theorem frozen_of_fresh {m : State} (h : m.drop = .fresh) : frozen m = false := by
  unfold frozen
  rw [h]
  decide

theorem contactArrival_a : (poweredOn s false false).contactArrival .a =
    poweredOn s true false := by
  have moved : ((poweredOn s false false).onBay .a touchedBay).moveBay .a .seated =
      { poweredOn s true false with
        ctl := ⟨.dormant, 31, 0, false⟩
        bays := ⟨{ poweredBay true s.lines.intent.a with timer := none },
          poweredBay false s.lines.intent.b⟩ } := rfl
  rw [contactArrival_eq rfl, moved, arrival_settles (frozen_of_fresh rfl) rfl]
  rfl

theorem contactArrival_b (a : Bool) : (poweredOn s a false).contactArrival .b =
    poweredOn s a true := by
  have moved : ((poweredOn s a false).onBay .b touchedBay).moveBay .b .seated =
      { poweredOn s a true with
        ctl := seatedEvent a ⟨.dormant, 31, 0, false⟩
        bays := ⟨poweredBay a s.lines.intent.a,
          { poweredBay true s.lines.intent.b with timer := none }⟩ } := by
    cases a <;> rfl
  rw [contactArrival_eq rfl, moved, arrival_settles (frozen_of_fresh rfl) rfl]
  cases a <;> rfl

theorem senseContact_a : (poweredOn s false false).senseContact .a =
    poweredOn s s.lines.contact.a false := by
  have e : (poweredOn s false false).senseContact .a =
      if s.lines.contact.a = true then (poweredOn s false false).contactArrival .a
      else poweredOn s false false := rfl
  rw [e, contactArrival_a]
  cases s.lines.contact.a <;> rfl

theorem senseContact_b (a : Bool) : (poweredOn s a false).senseContact .b =
    poweredOn s a s.lines.contact.b := by
  have e : (poweredOn s a false).senseContact .b =
      if s.lines.contact.b = true then (poweredOn s a false).contactArrival .b
      else poweredOn s a false := rfl
  rw [e, contactArrival_b]
  cases s.lines.contact.b <;> rfl

/-- The power-on state with the adapter's filter as it is, no re-evaluation owed. -/
def poweredIdle (s : State) (a b : Bool) (f : Option Timer) : State := { poweredOn s a b with
  supply := { Supply.fresh with presenceFilter := f }
  due := none }

/-- With no pack admitted and no adapter taken the re-evaluation finds nothing to do. -/
theorem reevaluate_poweredIdle (a b : Bool) (f : Option Timer) :
    (poweredIdle s a b f).reevaluate .other = poweredIdle s a b f := by
  have still : (poweredIdle s a b f).supplyTransition .other = poweredIdle s a b f := by
    have none : supplyExists (poweredIdle s a b f) = false := by cases a <;> cases b <;> rfl
    rw [transition_standby rfl, none]
    simp
  have discharge : (poweredIdle s a b f).selectDischarge = poweredIdle s a b f := by
    cases a <;> cases b <;> rfl
  have charge : (poweredIdle s a b f).selectCharge = poweredIdle s a b f := by
    cases a <;> cases b <;> rfl
  have lock : (poweredIdle s a b f).setLastSupply id = poweredIdle s a b f := by
    cases a <;> cases b <;> rfl
  have allow : (poweredIdle s a b f).allowPower = poweredIdle s a b f := by
    have dark : powerAllowance (availablePower (poweredIdle s a b f))
        (poweredIdle s a b f).supply.reserve (poweredIdle s a b f).back.lMax
        (poweredIdle s a b f).back.q = 0 := allowance_dark _ (.inl rfl) _ _ _
    unfold State.allowPower
    dsimp only
    rw [dark]
    rfl
  rw [State.reevaluate, still, discharge, charge, lock, allow]

theorem closeEvent_poweredOn (a b : Bool) (f : Option Timer) :
    ({ poweredOn s a b with
       supply := { Supply.fresh with presenceFilter := f } } : State).closeEvent =
      poweredIdle s a b f := by
  cases h : a || b with
  | false =>
    obtain ⟨rfl, rfl⟩ : a = false ∧ b = false := by simpa using h
    exact State.closeEvent_of_settled rfl
  | true =>
    rw [closeEvent_noTrips (ev := .other) (by simp [poweredOn, h])
      (by cases a <;> cases b <;> exact ⟨rfl, rfl⟩)]
    exact reevaluate_poweredIdle s a b f

/-- The power-on reset, evaluated. -/
theorem powerOn_eq : s.powerOn = poweredIdle s s.lines.contact.a s.lines.contact.b
    (if s.lines.adapterSense then some ⟨10, 10⟩ else none) := by
  have sensed : s.powerOn = (((((poweredOn s false false).senseContact .a).senseContact
      .b).senseAdapter).closeEvent) := rfl
  have adapter : (poweredOn s s.lines.contact.a s.lines.contact.b).senseAdapter =
      { poweredOn s s.lines.contact.a s.lines.contact.b with
        supply := { Supply.fresh with
          presenceFilter := if s.lines.adapterSense then some ⟨10, 10⟩ else none } } := by
    have e : (poweredOn s s.lines.contact.a s.lines.contact.b).senseAdapter =
      if s.lines.adapterSense = true then
        (poweredOn s s.lines.contact.a s.lines.contact.b).onSupply fun u =>
          { u with presenceFilter := some ⟨10, 10⟩ }
      else poweredOn s s.lines.contact.a s.lines.contact.b := rfl
    rw [e]
    cases s.lines.adapterSense <;> rfl
  rw [sensed, senseContact_a, senseContact_b, adapter, closeEvent_poweredOn]

theorem seatedEvents (a b : Bool) : seatedEvent b (seatedEvent a ⟨.dormant, 31, 0, false⟩) =
    ⟨.dormant, 31, if a || b then 1 else 0, a || b⟩ := by
  revert a b
  decide

theorem poweredFlags_eq (present : Bool) : poweredFlags present = if present then 0x10 else 0 := by
  cases present <;> decide

end

/-- Settles O26: the contact lines are sensed one by one, and the closing re-evaluation finds nothing
to do. -/
theorem powerOnResetStartsEveryBlock : Obligations.PowerOnResetStartsEveryBlock := by
  unfold Obligations.PowerOnResetStartsEveryBlock
  intro s
  have ctl := seatedEvents s.lines.contact.a s.lines.contact.b
  refine ⟨_, congrArg Host.Outcome.next (powerOn_eq s), rfl, rfl, rfl, congrArg ModeCtl.mode ctl,
    congrArg ModeCtl.enables ctl, congrArg ModeCtl.wake ctl, congrArg ModeCtl.causes ctl,
    fun i => ?_, rfl, rfl, rfl, rfl, rfl, rfl, rfl, rfl, rfl, rfl, rfl, rfl, rfl, rfl⟩
  have bay : (poweredIdle s s.lines.contact.a s.lines.contact.b
      (if s.lines.adapterSense then some ⟨10, 10⟩ else none)).bay i =
      poweredBay (s.lines.contact.get i) (s.lines.intent.get i) := by cases i <;> rfl
  have flags : (poweredIdle s s.lines.contact.a s.lines.contact.b
      (if s.lines.adapterSense then some ⟨10, 10⟩ else none)).flags.get (baySpace i) =
      if s.lines.contact.get i then 0x10 else 0 := by
    cases i <;> exact poweredFlags_eq _
  dsimp only
  rw [bay, flags]
  cases s.lines.contact.get i <;>
    exact ⟨rfl, rfl, rfl, rfl, rfl, rfl, rfl, rfl, rfl, rfl, rfl, rfl, rfl, rfl, rfl, rfl, rfl, rfl, rfl⟩
end Sys2Proof.Proofs
end

section
/-!
PROOFS. The full reset (R23, R38, R66, R92, R108, R127, R144, R160, R169, R178, R191, R192).
-/

namespace Sys2Proof.Proofs
open Sys2Proof.Machine

section
variable {s t : State} {i : BayId}

/-! ### The panel's clamp and drive word -/

theorem redrive_sent (k : Backlight) : Backlight.redrive false k =
    { k with drive := k.lout * 4095 / k.lMax, lastSent := k.lout * 4095 / k.lMax } := rfl

theorem reclamp_lpow_lout (u : Bool) (k : Backlight) :
    (k.reclamp u).lpow = powerCeiling k.lMax k.q k.pbl ∧
    (k.reclamp u).lout = min k.lout (powerCeiling k.lMax k.q k.pbl) := by
  unfold Backlight.reclamp
  dsimp only
  split
  next h =>
    rw [Backlight.redrive, backlight_send]
    exact ⟨rfl, (Nat.min_eq_right (Nat.le_of_lt h)).symm⟩
  next h => exact ⟨rfl, (Nat.min_eq_left (Nat.le_of_not_lt h)).symm⟩

/-- The clamp and the drive word of a reset, whatever the panel was (R127). -/
theorem ownWrite_sent (k : Backlight) : Backlight.ownWrite false true k =
    let lpow := powerCeiling k.lMax k.q k.pbl
    let lout := min k.lout lpow
    { k with lpow := lpow, lout := lout, drive := lout * 4095 / k.lMax,
             lastSent := lout * 4095 / k.lMax } := by
  obtain ⟨hp, ho⟩ := reclamp_lpow_lout false k
  have rest := (PanelLowered.reclamp false k).eq
  have e : Backlight.ownWrite false true k = Backlight.redrive false (k.reclamp false) := rfl
  rw [hp, ho, (reclamp_panel false k).2.2.1] at rest
  rw [e, redrive_sent, rest]

/-- The allowance computed, a panel whose clamp follows is lowered to its ceiling once (R116, R117). -/
theorem allowPower_lout (s : State) :
    let k := s.allowPower.back
    min k.lout (powerCeiling k.lMax k.q k.pbl) = min s.back.lout (powerCeiling k.lMax k.q k.pbl) := by
  unfold State.allowPower
  dsimp only
  split
  · rfl
  · generalize powerAllowance (availablePower s) s.supply.reserve s.back.lMax s.back.q = p
    obtain ⟨-, ho⟩ := reclamp_lpow_lout (undriven s) { s.back with pbl := p }
    obtain ⟨hl, hq, hp, -⟩ := reclamp_panel (undriven s) { s.back with pbl := p }
    change min (Backlight.reclamp (undriven s) { s.back with pbl := p }).lout (powerCeiling
        (Backlight.reclamp (undriven s) { s.back with pbl := p }).lMax
        (Backlight.reclamp (undriven s) { s.back with pbl := p }).q
        (Backlight.reclamp (undriven s) { s.back with pbl := p }).pbl) =
      min s.back.lout (powerCeiling
        (Backlight.reclamp (undriven s) { s.back with pbl := p }).lMax
        (Backlight.reclamp (undriven s) { s.back with pbl := p }).q
        (Backlight.reclamp (undriven s) { s.back with pbl := p }).pbl)
    rw [ho, hl, hq, hp, min_assoc, min_self]

/-! ### The latches that left RELEASING -/

theorem leftReleasing_state (s : State) (i : BayId) (o : BayState) : s.leftReleasing i o = { s with
    bays := (s.leftReleasing i o).bays, drop := (s.leftReleasing i o).drop } := by
  unfold State.leftReleasing
  split
  · rw [syncPins_eq]
    rfl
  · rfl

theorem leftReleasing_drop {d : DropLog} (hs : s.drop = parked (undriven s) d) (o : BayState) :
    (s.leftReleasing i o).drop = parked (undriven s) d := by
  unfold State.leftReleasing
  split
  · rw [syncPins_eq]
    exact (congrArg (parked (undriven s)) hs).trans (parked_parked _ d)
  · exact hs

/-- A bay's latch after it left RELEASING in a full reset (R62, R66). -/
def latchLeft (u confirm : Bool) (o : BayState) (y : Bay) : Bay :=
  if o = .releasing then pinned u (y.afterReleasing confirm) else y

theorem leftReleasing_bay (s : State) (i : BayId) (o : BayState) :
    (s.leftReleasing i o).bay i =
      latchLeft (undriven s) (s.lines.lockConfirm.get i) o (s.bay i) := by
  unfold State.leftReleasing latchLeft
  split
  · rw [syncPins_bay_eq, State.onBay_bay]
    rfl
  · rfl

theorem leftReleasing_bay_ne {j : BayId} (hj : j ≠ i) (o : BayState)
    (hp : pinned (undriven s) (s.bay j) = s.bay j) : (s.leftReleasing i o).bay j = s.bay j := by
  unfold State.leftReleasing
  split
  · rw [syncPins_bay_eq, State.onBay_bay_ne s hj]
    exact hp
  · rfl

/-! ### The bays at their places -/

theorem fullResetBlocks_bay (s : State) (i : BayId) : s.fullResetBlocks.bay i =
    (s.bay i).fullReset (s.lines.contact.get i) (s.lines.intent.get i) := by
  cases i <;> rfl

theorem afterFullReset_eq (c : Bool) (o : BayState) : o.afterFullReset c =
    if c = false then .empty else if o = .inhibited then .inhibited else .identifying := by
  cases c <;> rfl

theorem afterFullReset_online (c : Bool) (o : BayState) : o.afterFullReset c ≠ .online := by
  rw [afterFullReset_eq]
  (repeat' split) <;> simp

/-- The discharge role that a bay has after a full reset (R81, R92). -/
theorem fullReset_role (s : State) (i : BayId) : (s.fullResetBlocks.selectDischarge.bay i).role =
    if (s.bay i).state.afterFullReset (s.lines.contact.get i) = .identifying ∧
      (s.bay i).role ≠ .off ∧ s.supply.state = .normal ∧ s.supply.adapter = none
    then .kept else .off := by
  rw [selectDischarge_bay, fullResetBlocks_bay]
  have hs : s.fullResetBlocks.supply.state = s.supply.state := rfl
  have ha : s.fullResetBlocks.supply.adapter = s.supply.adapter := rfl
  dsimp only
  rw [hs, ha]
  by_cases hn : s.supply.state = .normal ∧ s.supply.adapter = none
  · have he : (decide (s.supply.state = .normal) && s.supply.adapter.isNone) = true := by simp [hn]
    have off := afterFullReset_online (s.lines.contact.get i) (s.bay i).state
    rw [if_pos he]
    unfold Bay.selectRole Bay.fullReset Bay.eligible Bay.keepsPath
    generalize (s.bay i).state.afterFullReset (s.lines.contact.get i) = n at *
    by_cases hi : n = .identifying ∧ (s.bay i).role ≠ .off <;> simp [hn, hi, off]
  · have he : ¬ (decide (s.supply.state = .normal) && s.supply.adapter.isNone) = true := by
      simpa using hn
    rw [if_neg he, if_neg fun h => hn h.2.2]

/-- No bay of a full reset is a charge candidate (R82). -/
theorem fullReset_charging (s : State) (i : BayId) :
    (s.fullResetBlocks.selectDischarge.selectCharge.bay i).charging = false := by
  have none (j : BayId) : chargeCandidate s.fullResetBlocks.selectDischarge.policy
      s.fullResetBlocks.selectDischarge.supply (s.fullResetBlocks.selectDischarge.bay j) = none := by
    have off := afterFullReset_online (s.lines.contact.get j) (s.bay j).state
    rw [selectDischarge_bay, fullResetBlocks_bay]
    simp [chargeCandidate, Bay.fullReset, off]
  have idle : chargingBay s.fullResetBlocks.selectDischarge.bays = Option.none := by
    have h (j : BayId) : (s.fullResetBlocks.selectDischarge.bay j).charging = false := by
      rw [selectDischarge_bay, fullResetBlocks_bay]
      rfl
    have ha := h .a
    have hb := h .b
    simp only [State.bay, Both.get] at ha hb
    simp [chargingBay, ha, hb]
  have na := none .a
  have nb := none .b
  simp only [State.bay, Both.get] at na nb
  rw [selectCharge_bay, na, nb, idle]
  rfl

/-- The bay of a full reset once the supply controller has run: its gates, and the latch after the
final lock-reason set (R66, R81, R92; log 34). -/
def gatedReset (s : State) (i : BayId) : Bay :=
  pinned false (({ (s.bay i).fullReset (s.lines.contact.get i) (s.lines.intent.get i) with
      role := (s.fullResetBlocks.selectDischarge.bay i).role, charging := false } : Bay).setReasons
    (s.lines.lockConfirm.get i)
    ⟨false, soleSupply s.fullResetBlocks.selectDischarge.selectCharge i, false⟩)

theorem fullResetSupply_eq (s : State) :
    s.fullResetBlocks.fullResetSupply = gated (fun _ => .empty) s.fullResetBlocks := rfl

theorem fullResetSupply_bay (s : State) (i : BayId) :
    s.fullResetBlocks.fullResetSupply.bay i = gatedReset s i := by
  rw [fullResetSupply_eq, gated_bay, fullReset_charging, fullResetBlocks_bay]
  rfl

theorem undriven_fullResetSupply (s : State) : undriven s.fullResetBlocks.fullResetSupply = false := by
  rw [fullResetSupply_eq, gated_state]
  rfl

/-- The first latch that left RELEASING, then the second. -/
theorem leftBoth_bay {u : State} (hu : undriven u = false) (hp : ∀ j, pinned false (u.bay j) = u.bay j)
    (o : BayId → BayState) (i : BayId) :
    ((u.leftReleasing .a (o .a)).leftReleasing .b (o .b)).bay i =
      latchLeft false (u.lines.lockConfirm.get i) (o i) (u.bay i) := by
  have first := leftReleasing_state u .a (o .a)
  have hu1 : undriven (u.leftReleasing .a (o .a)) = false := by rw [first]; exact hu
  have lines : (u.leftReleasing .a (o .a)).lines = u.lines := by rw [first]
  cases i with
  | a =>
    rw [leftReleasing_bay_ne (i := .b) (j := .a) (by decide), leftReleasing_bay, hu]
    rw [hu1, leftReleasing_bay, hu]
    unfold latchLeft
    split
    · exact pinned_pinned ..
    · exact hp .a
  | b =>
    rw [leftReleasing_bay, hu1, lines, leftReleasing_bay_ne (i := .a) (j := .b) (by decide)]
    rw [hu]
    exact hp .b

theorem placed_bay (s : State) (i : BayId) : (fullResetPlaced s).bay i =
    latchLeft false (s.lines.lockConfirm.get i) (s.bay i).state (gatedReset s i) := by
  have lines : s.fullResetBlocks.fullResetSupply.lines = s.lines := by
    rw [fullResetSupply_eq, gated_state]
    rfl
  have h := leftBoth_bay (undriven_fullResetSupply s) (fun j => by
    rw [fullResetSupply_bay]
    exact pinned_pinned ..) (fun j => (s.bay j).state) i
  rw [fullResetSupply_bay, lines] at h
  exact h

theorem placed_state (s : State) : fullResetPlaced s = { s.fullResetBlocks with
    bays := (fullResetPlaced s).bays, supply := s.fullResetBlocks.fullResetSupply.supply,
    back := Backlight.ownWrite false true s.fullResetBlocks.fullResetSupply.back,
    drop := parked false s.fullResetBlocks.drop } := by
  have g := gated_state (fun _ => .empty) s.fullResetBlocks
  rw [← fullResetSupply_eq] at g
  have d0 : s.fullResetBlocks.fullResetSupply.drop =
      parked (undriven s.fullResetBlocks.fullResetSupply) s.fullResetBlocks.drop := by
    rw [undriven_fullResetSupply, g]
    rfl
  have d1 := leftReleasing_drop (i := .a) d0 s.bays.a.state
  have l1 := leftReleasing_state s.fullResetBlocks.fullResetSupply .a s.bays.a.state
  have u1 : undriven (s.fullResetBlocks.fullResetSupply.leftReleasing .a s.bays.a.state) =
      undriven s.fullResetBlocks.fullResetSupply := by rw [l1]; rfl
  rw [← u1] at d1
  have d2 := leftReleasing_drop (i := .b) d1 s.bays.b.state
  have l2 := leftReleasing_state
    (s.fullResetBlocks.fullResetSupply.leftReleasing .a s.bays.a.state) .b s.bays.b.state
  rw [u1, undriven_fullResetSupply] at d2
  unfold fullResetPlaced
  rw [l2, d2, l1, g]
  rfl

theorem latchLeft_eq (u c : Bool) (o : BayState) (y : Bay) : latchLeft u c o y = { y with
    latch := (latchLeft u c o y).latch, latchLimit := (latchLeft u c o y).latchLimit,
    solenoid := (latchLeft u c o y).solenoid, solenoidPin := (latchLeft u c o y).solenoidPin } := by
  unfold latchLeft Bay.afterReleasing Bay.engage
  (repeat' split) <;> rfl

/-- A bay of a full reset, but for its latch: its place, its gates and its lock reasons. -/
theorem placed_bay_eq (s : State) (i : BayId) : let z := (fullResetPlaced s).bay i
    z = { (s.bay i).fullReset (s.lines.contact.get i) (s.lines.intent.get i) with
      role := (s.fullResetBlocks.selectDischarge.bay i).role, charging := false
      reasons := ⟨false, soleSupply s.fullResetBlocks.selectDischarge.selectCharge i, false⟩
      latch := z.latch, latchLimit := z.latchLimit, solenoid := z.solenoid,
      solenoidPin := z.solenoidPin } := by
  dsimp only
  rw [placed_bay, latchLeft_eq, gatedReset, setReasons_eq]
  rfl

theorem placed_pin (s : State) (i : BayId) :
    ((fullResetPlaced s).bay i).solenoidPin = ((fullResetPlaced s).bay i).solenoid := by
  rw [placed_bay]
  unfold latchLeft
  split <;> rfl

/-- What the arbiter leaves of a bay's traffic after a full reset: the first identification read
granted, or nothing to do (R12, R23). -/
structure ResetServed (n : BayState) (t : Traffic) : Prop where
  rest : t = { Traffic.afterFullReset n with bus := t.bus, lastServed := t.lastServed }
  idle : n ≠ .identifying → t.bus = none
  reads : n = .identifying → ∃ e, Policy.defaults.ownEntry .cls = some e ∧
    t.bus = some ⟨.identification 0, e.code, false, .word, [], .cls, ⟨35, 35⟩⟩

theorem defaults_ownEntry_cls :
    ∃ e, Policy.defaults.ownEntry .cls = some e ∧ e.size = .word := by
  exact ⟨_, rfl, rfl⟩

theorem arbitrate_reset (hp : s.policy = .defaults)
    (ht : (s.bay i).traffic = .afterFullReset (s.bay i).state)
    (hn : (s.bay i).tripDeferred = false)
    (hs : (s.bay i).state = .empty ∨ (s.bay i).state = .inhibited ∨
      (s.bay i).state = .identifying) :
    ∃ t, s.arbitrate i = s.onTraffic i (fun _ => t) ∧ ResetServed (s.bay i).state t := by
  have idle (h : s.arbitrate i = s) (hi : (s.bay i).state ≠ .identifying) :
      ∃ t, s.arbitrate i = s.onTraffic i (fun _ => t) ∧ ResetServed (s.bay i).state t :=
    ⟨(s.bay i).traffic, h.trans (onBay_of_same rfl).symm, by rw [ht], by rw [ht]; intro; rfl,
      fun h => absurd h hi⟩
  have looks (hr : (s.bay i).state.traffic = true) : Looks s i := ⟨by rw [ht]; rfl, hr, hn⟩
  obtain h | h | h := hs
  · exact idle (arbitrate_blocked (by simp [arbiterBlocked, h, BayState.traffic])) (by simp [h])
  · refine idle (arbitrate_idle (looks (by rw [h]; rfl)) ?_ ?_ ?_) (by simp [h])
    all_goals rw [ht, h]; rfl
  · obtain ⟨e, he, hz⟩ := defaults_ownEntry_cls
    have run := arbitrate_ident (d := .first) (e := e) (looks (by rw [h]; rfl)) (by rw [ht]; rfl)
      (.inl (by rw [ht]; rfl)) (by rw [ht, h]; rfl) (by rw [hp]; exact he)
    refine ⟨_, run.trans (grant_fixed ..), by rw [ht], fun hi => absurd h hi, fun _ => ⟨e, he, ?_⟩⟩
    rw [hp]
    exact congrArg some (by rw [ownTransaction, hz]; rfl)

/-- The arbiters' looks at a full reset change the bays' traffic and nothing else. -/
theorem fullReset_eq (s : State) : ∃ p : Both Traffic, 
    s.fullReset = { fullResetPlaced s with
      bays := ⟨{ (fullResetPlaced s).bays.a with traffic := p.a },
        { (fullResetPlaced s).bays.b with traffic := p.b }⟩ } ∧
    ∀ i, ResetServed ((s.bay i).state.afterFullReset (s.lines.contact.get i)) (p.get i) := by
  have bay (i : BayId) := placed_bay_eq s i
  dsimp only at bay
  have state (i : BayId) : ((fullResetPlaced s).bay i).state =
      (s.bay i).state.afterFullReset (s.lines.contact.get i) := (congrArg Bay.state (bay i) :)
  have traffic (i : BayId) : ((fullResetPlaced s).bay i).traffic =
      .afterFullReset ((fullResetPlaced s).bay i).state := by
    rw [state]
    exact (congrArg Bay.traffic (bay i) :)
  have trip (i : BayId) : ((fullResetPlaced s).bay i).tripDeferred = false :=
    (congrArg Bay.tripDeferred (bay i) :)
  have places (i : BayId) : ((fullResetPlaced s).bay i).state = .empty ∨
      ((fullResetPlaced s).bay i).state = .inhibited ∨
      ((fullResetPlaced s).bay i).state = .identifying := by
    rw [state, afterFullReset_eq]
    (repeat' split) <;> simp
  have policy : (fullResetPlaced s).policy = .defaults := by rw [placed_state]; rfl
  have due : (fullResetPlaced s).due = none := by rw [placed_state]; rfl
  have e : s.fullReset = (fullResetPlaced s).arbitrateBoth.closeEvent := rfl
  generalize fullResetPlaced s = u at *
  obtain ⟨ta, ha, sa⟩ := arbitrate_reset policy (traffic .a) (trip .a) (places .a)
  have hb (f : Traffic → Traffic) : (u.onTraffic .a f).bay .b = u.bay .b :=
    State.onBay_bay_ne u (by decide) _
  obtain ⟨tb, hb, sb⟩ := arbitrate_reset (s := u.onTraffic .a fun _ => ta) (i := .b) policy
    (by rw [hb]; exact traffic .b) (by rw [hb]; exact trip .b) (by rw [hb]; exact places .b)
  refine ⟨⟨ta, tb⟩, ?_, fun i => ?_⟩
  · rw [e, State.arbitrateBoth, ha, hb, State.closeEvent_of_settled (by exact due)]
    rfl
  · rw [← state]
    cases i
    · exact sa
    · exact sb

/-! ### The latches and the figures -/

theorem latchLeft_unheld {u c : Bool} {o : BayState} {y : Bay} (h : y.reasons.held = false) :
    (latchLeft u c o y).latch = y.latch := by
  unfold latchLeft Bay.afterReleasing
  split
  · rw [h]
    rfl
  · rfl

theorem setEmptied_latch (c : Bool) (y : Bay) : (y.setEmptied c).latch =
    match y.latch with
    | .engaging | .locked => if c then .disengaging else .unlocked
    | .lockFailed | .unlocked => .unlocked
    | .disengaging => .disengaging := by
  unfold Bay.setEmptied Bay.disengage
  cases h : y.latch <;> cases c <;> simp [h]

theorem gatedReset_latch (s : State) (i : BayId) : (gatedReset s i).latch =
    (({ (s.bay i).fullReset (s.lines.contact.get i) (s.lines.intent.get i) with
      role := (s.fullResetBlocks.selectDischarge.bay i).role, charging := false } : Bay).setReasons
    (s.lines.lockConfirm.get i)
    ⟨false, soleSupply s.fullResetBlocks.selectDischarge.selectCharge i, false⟩).latch := rfl

theorem gatedReset_held (s : State) (i : BayId) : (gatedReset s i).reasons.held =
    soleSupply s.fullResetBlocks.selectDischarge.selectCharge i := by
  rw [gatedReset, setReasons_eq]
  simp [pinned, LockReasons.held]

theorem placed_lastSupply (s : State) (i : BayId) : ((fullResetPlaced s).bay i).reasons.lastSupply =
    soleSupply s.fullResetBlocks.selectDischarge.selectCharge i :=
  (congrArg (fun z : Bay => z.reasons.lastSupply) (placed_bay_eq s i) :)

/-- A set that a full reset empties lets its latch go (R60, R66). -/
theorem placed_latch_emptied (hs : ((fullResetPlaced s).bay i).reasons.lastSupply = false)
    (hh : (s.bay i).reasons.held = true) : ((fullResetPlaced s).bay i).latch =
      (Bay.setEmptied (s.lines.lockConfirm.get i) (s.bay i)).latch := by
  rw [placed_lastSupply] at hs
  rw [placed_bay, latchLeft_unheld (by rw [gatedReset_held, hs]), gatedReset_latch, hs,
    setReasons_emptied _ rfl (by exact hh), setEmptied_latch, setEmptied_latch]
  rfl

theorem lastSupplyOnly_held (b : Bool) : (⟨false, b, false⟩ : LockReasons).held = b := by
  cases b <;> rfl

/-- A set that is as empty after a full reset as before leaves its latch (R60, R66; log 34). -/
theorem placed_latch_kept
    (hs : ((fullResetPlaced s).bay i).reasons.lastSupply = (s.bay i).reasons.held)
    (hr : (s.bay i).state ≠ .releasing) : ((fullResetPlaced s).bay i).latch = (s.bay i).latch := by
  rw [placed_lastSupply] at hs
  have stays : latchLeft false (s.lines.lockConfirm.get i) (s.bay i).state (gatedReset s i) =
      gatedReset s i := if_neg hr
  rw [placed_bay, stays, gatedReset_latch, hs, setReasons_unchanged]
  · rfl
  · exact lastSupplyOnly_held _

end

/-- The supply path of a full reset is current (R79 to R86, R92). -/
theorem supplyCurrent_fullReset (s : State) : s.fullReset.SupplyCurrent :=
  supplyCurrent_closeEvent (kept_owed.arbitrateBoth (.inr (supplyCurrent_fullResetPlaced s)))

theorem fullReset_supply (s : State) : (fullResetPlaced s).supply =
    { s.supply.fullReset s.lines.pwrReq with
      pAvail := (fullResetPlaced s).supply.pAvail, pbl := (fullResetPlaced s).supply.pbl } := by
  have h := gated_supply (fun _ => .empty) s.fullResetBlocks
  rw [← fullResetSupply_eq] at h
  rw [placed_state]
  exact h

/-- The panel of a full reset: its own reset values, within the ceiling of the new allowance, and
driven at its output (R117, R119, R127). -/
theorem fullReset_back (s : State) : let k := (fullResetPlaced s).back
    let pbl := (fullResetPlaced s).supply.pbl
    k.lpow = min 1500 (pbl * 64 / 320) ∧ k.lout = min s.back.lout k.lpow ∧
    k = { Backlight.fresh with
      on := s.back.on, pbl := pbl, lpow := k.lpow, lout := k.lout, drive := k.lout * 4095 / 1500
      lastSent := k.lout * 4095 / 1500, tick := some ⟨50, 50⟩ } := by
  let x := s.fullResetBlocks.selectDischarge.selectCharge.setLastSupply fun _ => .empty
  have hx : x.back = s.back.fullReset := by
    simp only [x, State.setLastSupply_frame, State.selectCharge_frame, State.selectDischarge_frame]
    rfl
  have rest := (allowPower_lowered x).eq
  have lout := allowPower_lout x
  have pbl := allowPower_pbl x
  have hb : (fullResetPlaced s).back = Backlight.ownWrite false true x.allowPower.back := by
    rw [placed_state]
    rfl
  have hs : (fullResetPlaced s).supply = x.allowPower.supply := by
    rw [placed_state]
    rfl
  dsimp only at lout ⊢
  rw [hb, hs, ownWrite_sent, ← pbl]
  rw [hx] at rest lout
  generalize x.allowPower.back = k at *
  rw [rest] at lout ⊢
  refine ⟨rfl, lout, ?_⟩
  rfl

/-- A full reset, block by block (R178, R191). -/
theorem fullReset_frame (s : State) : s.fullReset = { s.fullResetBlocks with
    bays := s.fullReset.bays, supply := (fullResetPlaced s).supply,
    back := (fullResetPlaced s).back, drop := parked false s.fullResetBlocks.drop } := by
  obtain ⟨p, e, -⟩ := fullReset_eq s
  rw [e, placed_state]

/-- A bay of a full reset: the placed bay with its traffic served (R23). -/
theorem fullReset_bay (s : State) (i : BayId) : ∃ t,
    ResetServed ((s.bay i).state.afterFullReset (s.lines.contact.get i)) t ∧
    s.fullReset.bay i = { (fullResetPlaced s).bay i with traffic := t } := by
  obtain ⟨p, e, served⟩ := fullReset_eq s
  refine ⟨p.get i, served i, ?_⟩
  rw [e]
  cases i <;> rfl

theorem exec_fullReset {s : State} (h : s.Takes) (tag dest : Byte) :
    exec (.fullReset tag dest) s = .next (s.heard.fullReset.answered tag dest 2 .ok []) :=
  congrArg Host.Outcome.next (State.receivePacket_taken h rfl (by simp [Packet.len]))

theorem fullReset_pbl (s : State) : s.fullReset.supply.pbl = min (1500 * 320 / 64)
    (availablePower s.fullReset -
      (if s.supply.state = .bridge then 12000 else 55000) - 5000) := by
  have current := supplyCurrent_fullReset s
  have frame := fullReset_frame s
  have panel := (congrArg State.back frame).trans (fullReset_back s).2.2
  have lMax : s.fullReset.back.lMax = 1500 := (congrArg Backlight.lMax panel :)
  have q : s.fullReset.back.q = 320 := (congrArg Backlight.q panel :)
  have reserve : s.fullReset.supply.reserve = if s.supply.state = .bridge then 12000 else 55000 :=
    (congrArg (fun t : State => t.supply.reserve) frame).trans
      (congrArg Supply.reserve (fullReset_supply s))
  rw [current.pbl, current.avail, lMax, q, reserve]
  rfl

theorem fullReset_lastSupply (s : State) (i : BayId) :
    (s.fullReset.bay i).reasons.lastSupply = soleSupply s.fullReset i := by
  have current := supplyCurrent_fullReset s
  cases i
  · exact current.a.lastSupply
  · exact current.b.lastSupply

/-- Settles O27: the blocks at their places, the supply path anew, and the arbiters' looks. -/
theorem fullResetTakesEveryBlock : Obligations.FullResetTakesEveryBlock := by
  unfold Obligations.FullResetTakesEveryBlock
  refine ⟨fun s => ⟨fun h => ⟨?_, ?_⟩, fun h => ⟨?_, ?_⟩⟩, fun s tag dest h => exec_fullReset h tag dest,
    fun s => ?_⟩
  · exact congrArg Host.Outcome.next (if_neg (by simp [h]))
  · exact congrArg Host.Outcome.next (if_neg (by simp [h]))
  · exact congrArg Host.Outcome.next (if_pos h)
  · exact congrArg Host.Outcome.next (if_pos h)
  have frame := fullReset_frame s
  have supply : s.fullReset.supply = (fullResetPlaced s).supply := (congrArg State.supply frame :)
  have back : s.fullReset.back = (fullResetPlaced s).back := (congrArg State.back frame :)
  have current := supplyCurrent_fullReset s
  obtain ⟨ceiling, within, panel⟩ := fullReset_back s
  dsimp only at ceiling within panel
  rw [← supply, ← back] at panel
  rw [← supply, ← back] at ceiling
  rw [← back] at within
  refine ⟨(congrArg State.lines frame :), (congrArg State.uptime frame :),
    (congrArg State.store frame :), (congrArg State.pending frame :),
    (congrArg State.choice frame :), (congrArg State.due frame :), (congrArg State.flags frame :),
    (congrArg State.ctl frame :), (congrArg State.policy frame :), (congrArg State.holdMask frame :),
    (congrArg State.streams frame :), (congrArg State.motion frame :), (congrArg State.link frame :),
    (congrArg State.light frame :), (congrArg State.drop frame :), ?_, fun i => ?_,
    (congrArg Backlight.on panel :), within, ?_⟩
  · have h := fullReset_supply s
    rw [← supply, fullReset_pbl, (supplyCurrent_fullReset s).avail] at h
    exact h
  · obtain ⟨tr, served, hb⟩ := fullReset_bay s i
    have sole := fullReset_lastSupply s i
    have pin := placed_pin s i
    have emptied := placed_latch_emptied (s := s) (i := i)
    have kept := placed_latch_kept (s := s) (i := i)
    have placed := placed_bay_eq s i
    have role := fullReset_role s i
    dsimp only at placed ⊢
    rw [hb] at sole
    rw [hb, ← sole]
    generalize (fullResetPlaced s).bay i = z at *
    have state : z.state = (s.bay i).state.afterFullReset (s.lines.contact.get i) :=
      (congrArg Bay.state placed :)
    have reasons : z.reasons = ⟨false, z.reasons.lastSupply, false⟩ := by
      have h := (congrArg Bay.reasons placed :)
      exact h.trans (by rw [h])
    refine ⟨(congrArg Bay.contact placed :), (congrArg Bay.intent placed :),
      state.trans (afterFullReset_eq _ _), (congrArg Bay.loss placed :),
      (congrArg Bay.intentFilter placed :), (congrArg Bay.timer placed :),
      (congrArg Bay.tripDeferred placed :), (congrArg Bay.decisionDeferred placed :),
      (congrArg Bay.returnPending placed :), (congrArg Bay.charging placed :), ?_, ?_,
      fun h => served.idle (state ▸ h), fun h => served.reads (state ▸ h), ?_, reasons, pin,
      fun h hh => ?_, kept⟩
    · have record := (congrArg Bay.record placed :)
      simpa [PackRecord.fullReset, Bay.fullReset] using record
    · have rest := served.rest
      rw [← state] at rest
      exact rest
    · rw [← state] at role
      exact (congrArg Bay.role placed).trans role
    · have latch := emptied h hh
      rw [setEmptied_latch] at latch
      exact ⟨fun hl => by rw [latch, hl], fun hl => by obtain hl | hl := hl <;> rw [latch, hl]⟩
  · have on : s.fullReset.back.on = s.back.on := (congrArg Backlight.on panel :)
    have drive : s.fullReset.back.drive = s.fullReset.back.lout * 4095 / 1500 :=
      (congrArg Backlight.drive panel :)
    rw [← ceiling, on, drive]
    exact panel

end Sys2Proof.Proofs
end

section
/-!
PROOFS. What the arbiter makes of a bay's traffic (R10 to R12), and the completion of a transaction
(R1, R20).
-/

namespace Sys2Proof.Proofs
open Sys2Proof.Machine

section
variable {s : State} {i : BayId} {t t' : Traffic}

/-! ### One rule for each thing that the arbiter may find in the traffic `t` -/

/-- The bay's traffic replaced. -/
def withTraffic (s : State) (i : BayId) (t : Traffic) : State := s.onTraffic i fun _ => t

theorem onTraffic_withTraffic (s : State) (i : BayId) (f : Traffic → Traffic) :
    s.onTraffic i f = withTraffic s i (f (s.bay i).traffic) := onTraffic_fixed s i f

theorem withTraffic_bay (s : State) (i : BayId) (t : Traffic) :
    (withTraffic s i t).bay i = { s.bay i with traffic := t } := onTraffic_bay s i _

theorem withTraffic_withTraffic (s : State) (i : BayId) (t t' : Traffic) :
    withTraffic (withTraffic s i t) i t' = withTraffic s i t' := by
  cases i <;> rfl

theorem withTraffic_onTraffic (s : State) (i : BayId) (t : Traffic) (f : Traffic → Traffic) :
    (withTraffic s i t).onTraffic i f = withTraffic s i (f t) := by
  cases i <;> rfl

/-- The arbiter's look at the traffic `t` of bay `i` leaves the traffic `t'` and changes nothing
else. -/
def Serves (s : State) (i : BayId) (t t' : Traffic) : Prop :=
  (withTraffic s i t).arbitrate i = withTraffic s i t'

/-- The arbiter may grant to the traffic `t` of bay `i` (R11). -/
structure Served (s : State) (i : BayId) (t : Traffic) : Prop where
  bus : t.bus = none
  runs : (s.bay i).state.traffic = true
  trip : (s.bay i).tripDeferred = false

namespace Served

theorem looks (h : Served s i t) : Looks (withTraffic s i t) i := by
  have b := withTraffic_bay s i t
  exact ⟨by rw [b]; exact h.bus, by rw [b]; exact h.runs, by rw [b]; exact h.trip⟩

theorem traffic (t : Traffic) : ((withTraffic s i t).bay i).traffic = t := by
  rw [withTraffic_bay]

theorem grants {x : Transaction} {f : Traffic → Traffic}
    (h : (withTraffic s i t).arbitrate i = (withTraffic s i t).grant i x f) :
    Serves s i t { f t with bus := some x } :=
  h.trans (withTraffic_onTraffic s i t _)

theorem alert (h : Served s i t) (ha : t.alert = true) {e : CommandEntry}
    (he : s.policy.ownEntry .alarms = some e) : Serves s i t
      { t with alert := false, bus := some (ownTransaction s.policy .alert e .alarms) } :=
  grants (arbitrate_alert h.looks (by rw [traffic]; exact ha) he)

/-- Passed over without an entry to read, the traffic is looked at again. -/
theorem alert_missing (h : Served s i t) (ha : t.alert = true)
    (he : s.policy.ownEntry .alarms = none) :
    (withTraffic s i t).arbitrate i =
      (withTraffic s i { t with alert := false }).arbitrate i :=
  (arbitrate_alert_missing h.looks (by rw [traffic]; exact ha) he).trans
    (congrArg (State.arbitrate · i) (withTraffic_onTraffic s i t _))

theorem request (h : Served s i t) (ha : t.alert = false) {before after : List HostRequest}
    {q : HostRequest} (hw : t.waiting = before ++ q :: after)
    (hb : ∀ r ∈ before, s.holdMask.getLsbD r.cls = true)
    (hq : s.holdMask.getLsbD q.cls = false)
    (hm : t.maintains = false ∨ t.lastServed = .maintenance) : Serves s i t
      { t with waiting := before ++ after, lastServed := .host,
               bus := some (hostTransaction s.policy q) } :=
  grants (f := fun t => { t with waiting := before ++ after, lastServed := .host })
    (arbitrate_request h.looks (by rw [traffic]; exact ha)
      (by rw [traffic, hw]; exact takeEligible_append after hb hq) (by rw [traffic]; exact hm))

/-- Maintenance has its turn in the traffic `t`: no request may go, or the mark is HOST (R12). -/
def Turn (s : State) (t : Traffic) : Prop :=
  (∀ r ∈ t.waiting, s.holdMask.getLsbD r.cls = true) ∨ t.lastServed = .host

theorem turn (ht : Turn s t) (hm : t.maintains = true) :
    MaintenanceTurn (withTraffic s i t) i := by
  unfold MaintenanceTurn
  rw [traffic]
  obtain h | h := ht
  · exact .inl (takeEligible_none.2 h)
  · exact .inr ⟨hm, h⟩

theorem ident (h : Served s i t) (ha : t.alert = false) (ht : Turn s t) {d : Identification}
    (hd : t.ident = some d) {e : CommandEntry}
    (he : s.policy.ownEntry (identField d.next) = some e) : Serves s i t
      { t with lastServed := .maintenance,
               bus := some (ownTransaction s.policy (.identification d.next) e
                 (identField d.next)) } :=
  grants (f := fun t => { t with lastServed := .maintenance })
    (arbitrate_ident h.looks (by rw [traffic]; exact ha)
      (turn ht (by simp [Traffic.maintains, hd])) (by rw [traffic]; exact hd) he)

theorem ident_missing (h : Served s i t) (ha : t.alert = false) (ht : Turn s t)
    {d : Identification} (hd : t.ident = some d)
    (he : s.policy.ownEntry (identField d.next) = none) :
    (withTraffic s i t).arbitrate i =
      ((withTraffic s i t).tableIncomplete i).arbitrate i :=
  arbitrate_ident_missing h.looks (by rw [traffic]; exact ha)
    (turn ht (by simp [Traffic.maintains, hd])) (by rw [traffic]; exact hd) he

theorem reverify (h : Served s i t) (ha : t.alert = false) (ht : Turn s t)
    (hd : t.ident = none) {dest : ReverifyDest} (hr : t.reverify = some dest) {e : CommandEntry}
    (he : s.policy.ownEntry .serial = some e) : Serves s i t
      { t with reverify := none, lastServed := .maintenance,
               bus := some (ownTransaction s.policy (.reverify dest) e .serial) } :=
  grants (f := fun t => { t with reverify := none, lastServed := .maintenance })
    (arbitrate_reverify h.looks (by rw [traffic]; exact ha)
      (turn ht (by simp [Traffic.maintains, hr])) (by rw [traffic]; exact hd)
      (by rw [traffic]; exact hr) he)

theorem poll (h : Served s i t) (ha : t.alert = false) (ht : Turn s t) (hd : t.ident = none)
    (hr : t.reverify = none) {n k : Nat} (hn : t.round = some n) {e : CommandEntry}
    (he : nextPoll n s.policy.commands = some (k, e)) : Serves s i t
      { t with round := some (k + 1), lastServed := .maintenance,
               bus := some (ownTransaction s.policy .poll e e.snoopField) } :=
  grants (f := fun t => { t with round := some (k + 1), lastServed := .maintenance })
    (arbitrate_poll h.looks (by rw [traffic]; exact ha)
      (turn ht (by simp [Traffic.maintains, hn])) (by rw [traffic]; exact hd)
      (by rw [traffic]; exact hr) (by rw [traffic]; exact hn) he)

theorem poll_ended (h : Served s i t) (ha : t.alert = false) (ht : Turn s t)
    (hd : t.ident = none) (hr : t.reverify = none) {n : Nat} (hn : t.round = some n)
    (he : nextPoll n s.policy.commands = none) :
    (withTraffic s i t).arbitrate i =
      (withTraffic s i { t with round := none }).arbitrate i :=
  (arbitrate_poll_ended h.looks (by rw [traffic]; exact ha)
    (turn ht (by simp [Traffic.maintains, hn])) (by rw [traffic]; exact hd)
    (by rw [traffic]; exact hr) (by rw [traffic]; exact hn) he).trans
    (congrArg (State.arbitrate · i) (withTraffic_onTraffic s i t _))

theorem idle (h : Served s i t) (ha : t.alert = false)
    (hw : ∀ r ∈ t.waiting, s.holdMask.getLsbD r.cls = true) (hm : t.maintains = false) :
    Serves s i t t :=
  arbitrate_idle h.looks (by rw [traffic]; exact ha)
    (by rw [traffic]; exact takeEligible_none.2 hw) (by rw [traffic]; exact hm)

end Served

theorem Serves.off (h : (s.bay i).state.traffic = false) : Serves s i t t :=
  arbitrate_blocked (by
    unfold arbiterBlocked
    rw [withTraffic_bay]
    simp [h])

/-! ### The completion of a transaction (R1, R20) -/

theorem complete_free (h : (s.bay i).traffic.bus = none) (e : Ending) : s.complete i e = s := by
  unfold State.complete
  rw [h]

/-- The state of a transaction that ended, before it is counted and given to its owner. -/
def freed (s : State) (i : BayId) : State :=
  withTraffic s i { (s.bay i).traffic with bus := none }

theorem complete_ack {x : Transaction} (h : (s.bay i).traffic.bus = some x) (data : List Byte) :
    s.complete i (.ack data) =
      ((((freed s i).countAck i).acknowledged i x
        (if x.write then [] else exactly x.size.bytes data)).endDeferral i).arbitrate i := by
  unfold State.complete
  rw [h]
  exact congrArg (fun u : State => (((u.countAck i).acknowledged i x
    (if x.write then [] else exactly x.size.bytes data)).endDeferral i).arbitrate i)
    (onTraffic_withTraffic ..)

theorem complete_failed {x : Transaction} (h : (s.bay i).traffic.bus = some x) {e : Ending}
    (he : ∀ d, e ≠ .ack d) : s.complete i e =
      ((((freed s i).failed i x e.failure).countFailure i).endDeferral i).arbitrate i := by
  unfold State.complete
  rw [h]
  have f : s.onTraffic i (fun t => { t with bus := none }) = freed s i := onTraffic_withTraffic ..
  cases e with
  | ack d => exact absurd rfl (he d)
  | nack => exact congrArg (fun u : State =>
      (((u.failed i x _).countFailure i).endDeferral i).arbitrate i) f
  | timeout => exact congrArg (fun u : State =>
      (((u.failed i x _).countFailure i).endDeferral i).arbitrate i) f

theorem exactly_length {n : Nat} {data : List Byte} (h : data.length = n) :
    exactly n data = data := by
  subst h
  simp [exactly]

/-- An acknowledgment counted with no trip deferred (R20, R21). -/
theorem countAck_noTrip (h : (s.bay i).tripDeferred = false) : s.countAck i =
    withTraffic s i { (s.bay i).traffic with failures := 0, tripRaised := false } :=
  (if_neg (by simp [h])).trans (onTraffic_withTraffic ..)

/-- The failure count of bay `i` after a failure (R20). -/
def failuresAfter (s : State) (i : BayId) : Nat :=
  if (s.bay i).traffic.failures < s.policy.lockoutLimit.get i + 1
  then (s.bay i).traffic.failures + 1 else (s.bay i).traffic.failures

/-- A failure counted that is not the one at the limit (R20). -/
theorem countFailure_short (h : (s.bay i).traffic.failures ≠ s.policy.lockoutLimit.get i) :
    s.countFailure i =
      withTraffic s i { (s.bay i).traffic with failures := failuresAfter s i } :=
  (if_neg (by simp; omega)).trans (onTraffic_withTraffic ..)

/-- The failure at the limit counted: a trip is raised, unless one is (R20, R21; log 38). -/
theorem countFailure_last (h : (s.bay i).traffic.failures = s.policy.lockoutLimit.get i) :
    s.countFailure i = (withTraffic s i { (s.bay i).traffic with
      failures := (s.bay i).traffic.failures + 1 }).raiseTrip i :=
  (if_pos (by simp [h])).trans (congrArg (State.raiseTrip · i)
    ((onTraffic_withTraffic ..).trans (by rw [if_pos (by omega)])))

theorem exec_completion (s : State) (i : BayId) (a : PackAnswer) :
    exec (.transactionCompletion i (.own a)) s = .next (s.complete i (endingOf a)).closeEvent := rfl

theorem exec_limitExpiry {x : Transaction} (h : (s.bay i).traffic.bus = some x)
    (hl : x.limit.left = 0) :
    exec (.transactionLimitExpiry i) s = .next (s.complete i .timeout).closeEvent :=
  congrArg Host.Outcome.next (if_pos (by rw [h]; simpa [ranDown] using hl))

end
end Sys2Proof.Proofs
end

section
/-!
PROOFS. The reads of an identification (R15, R25, R26, R44, R54).
-/

namespace Sys2Proof.Proofs
open Sys2Proof.Machine

section
variable {s u : State} {i : BayId} {t t' : Traffic}

theorem withTraffic_self (s : State) (i : BayId) : withTraffic s i (s.bay i).traffic = s := by
  cases i <;> rfl

theorem withTraffic_bay_ne {j : BayId} (hj : j ≠ i) (t : Traffic) :
    (withTraffic s i t).bay j = s.bay j := State.onBay_bay_ne s hj _

theorem withTraffic_closes (h : s.due = none) (i : BayId) (t : Traffic) :
    (withTraffic s i t).closeEvent = withTraffic s i t := State.closeEvent_of_settled h

theorem Serves.arbitrate (h : Serves u i t t') (ht : (u.bay i).traffic = t) :
    u.arbitrate i = withTraffic u i t' := by
  subst ht
  unfold Serves at h
  rwa [withTraffic_self] at h

/-! ### A transaction that ends with no trip deferred -/

/-- The state of an acknowledged transaction, counted, before it is given to its owner. -/
def counted (s : State) (i : BayId) : State :=
  withTraffic s i { (s.bay i).traffic with bus := none, failures := 0, tripRaised := false }

theorem complete_acknowledged {x : Transaction} (h : (s.bay i).traffic.bus = some x)
    (hn : (s.bay i).tripDeferred = false) (data : List Byte)
    (hu : (counted s i).acknowledged i x (if x.write then [] else exactly x.size.bytes data) = u)
    (ht : (u.bay i).tripDeferred = false) : s.complete i (.ack data) = u.arbitrate i := by
  have c : (freed s i).countAck i = counted s i := by
    rw [countAck_noTrip (by unfold freed; rw [withTraffic_bay]; exact hn)]
    unfold freed
    rw [withTraffic_bay, withTraffic_withTraffic]
    rfl
  rw [complete_ack h, c, hu, endDeferral_of_none ht]

theorem complete_failed_short {x : Transaction} (h : (s.bay i).traffic.bus = some x) {e : Ending}
    (he : ∀ d, e ≠ .ack d) (hu : (freed s i).failed i x e.failure = u)
    (hn : (u.bay i).tripDeferred = false)
    (hf : (u.bay i).traffic.failures ≠ u.policy.lockoutLimit.get i) : s.complete i e =
      (withTraffic u i { (u.bay i).traffic with failures := failuresAfter u i }).arbitrate i := by
  rw [complete_failed h he, hu, countFailure_short hf,
    endDeferral_of_none (by rw [withTraffic_bay]; exact hn)]

/-! ### A step without an entry -/

theorem tableIncomplete_bay (s : State) (i : BayId) :
    BayStill (entered s.policy s.ctl.mode .quarantined
      { s.bay i with record := { (s.bay i).record with outcome := .tableIncomplete } })
      ((s.tableIncomplete i).bay i) := by
  have h := moveBay_entered (s.onRecord i fun x => { x with outcome := .tableIncomplete }) i
    .quarantined
  rw [onRecord_bay] at h
  exact h

theorem tableIncomplete_still {j : BayId} (hj : j ≠ i) :
    BayStill (s.bay j) ((s.tableIncomplete i).bay j) :=
  (onBay_still hj _).trans (moveBay_still hj .quarantined)

theorem tableIncomplete_work (s : State) (i : BayId) : BayWork s (s.tableIncomplete i) :=
  ((BayWork.refl s).onBay i _).moveBay i _

/-- Nothing is left for the arbiter where the only maintenance was an identification without an
entry. -/
theorem arbitrate_incomplete (h : Looks s i) (ha : (s.bay i).traffic.alert = false)
    (hw : (s.bay i).traffic.waiting = []) {d : Identification}
    (hd : (s.bay i).traffic.ident = some d)
    (he : s.policy.ownEntry (identField d.next) = none)
    (hr : (s.bay i).traffic.reverify = none) (hp : (s.bay i).traffic.round = none) :
    s.arbitrate i = s.tableIncomplete i := by
  have b := tableIncomplete_bay s i
  obtain ⟨kw, kb, -⟩ := onMove_traffic s.policy s.ctl.mode (s.bay i).state .quarantined
    (s.bay i).traffic
  obtain ⟨ka, ki, kr, kp⟩ := onMove_kinds s.policy s.ctl.mode (s.bay i).state .quarantined
    (s.bay i).traffic
  have bt : ((s.tableIncomplete i).bay i).traffic = (s.bay i).traffic.onMove s.policy s.ctl.mode
      (s.bay i).state .quarantined := b.traffic
  rw [arbitrate_ident_missing h ha (.inl (by rw [hw]; rfl)) hd he]
  refine arbitrate_idle ⟨by rw [bt, kb]; exact h.bus, by rw [b.state]; rfl,
    by rw [b.tripDeferred]; exact h.trip⟩ (by rw [bt, ka]; exact ha) (by rw [bt, kw, hw]; rfl) ?_
  rw [bt, Traffic.maintains, ki, kr, kp, hr, hp]
  rfl

/-- What an identification without an entry leaves at the end of its event (R44). -/
theorem incomplete_ends (h : Looks s i) (hn : s.NoTrips) (hst : (s.bay i).state = .identifying)
    (ha : (s.bay i).traffic.alert = false)
    (hw : (s.bay i).traffic.waiting = []) {d : Identification}
    (hd : (s.bay i).traffic.ident = some d)
    (he : s.policy.ownEntry (identField d.next) = none)
    (hr : (s.bay i).traffic.reverify = none) (hp : (s.bay i).traffic.round = none) :
    let u := (s.arbitrate i).closeEvent
    (u.bay i).state = .quarantined ∧
    (u.bay i).record = { (s.bay i).record with outcome := .tableIncomplete } ∧
    (u.bay i).traffic.ident = none ∧ (u.bay i).traffic.bus = none ∧
    (u.bay i).traffic.failures = (s.bay i).traffic.failures ∧
    u.flags.get (baySpace i) = s.flags.get (baySpace i) ||| 0x10 := by
  have b := tableIncomplete_bay s i
  have hn' : (s.tableIncomplete i).NoTrips := noTrips_iff.2 ((forall_bay_iff i).2
    ⟨b.tripDeferred.trans h.trip,
      (tableIncomplete_still (otherBay_ne i)).tripDeferred.trans (noTrips_bay hn _)⟩)
  have still := b.trans (closeEvent_still hn' i)
  obtain ⟨-, kb, kf, -⟩ := onMove_traffic s.policy s.ctl.mode (s.bay i).state .quarantined
    (s.bay i).traffic
  obtain ⟨-, ki, -⟩ := onMove_kinds s.policy s.ctl.mode (s.bay i).state .quarantined
    (s.bay i).traffic
  dsimp only
  rw [arbitrate_incomplete h ha hw hd he hr hp]
  have bt : ((s.tableIncomplete i).closeEvent.bay i).traffic = (s.bay i).traffic.onMove s.policy
      s.ctl.mode (s.bay i).state .quarantined := still.traffic
  refine ⟨still.state, still.record, by rw [bt, ki]; rfl, by rw [bt, kb]; exact h.bus,
    by rw [bt, kf], ?_⟩
  rw [closeEvent_flags hn' (baySpace_ne_supply i)]
  have f := moveBay_flags (s := s.onRecord i fun x => { x with outcome := .tableIncomplete })
    (i := i) (n := .quarantined) (by rw [onRecord_bay]; rw [hst]; decide)
  exact (congrArg (SpaceFlags.get · (baySpace i)) f).trans (SpaceFlags.get_set _ _ _)

/-! ### Snoops (R19) -/

theorem snoop_none (f : SnoopField) (data : List Byte)
    (h : f = .none ∨ (s.bay i).record.identity = none) : s.snoop i f data = s := if_pos (by simpa using h)

theorem snoop_field {f : SnoopField} (data : List Byte) (hf : f ≠ .none)
    (hi : (s.bay i).record.identity.isSome = true) (ha : f ≠ .alarms) :
    s.snoop i f data = s.writeRecord i f (snoopValue data) := by
  refine (if_neg ?_).trans (if_neg ha)
  simp [hf, Option.isSome_iff_ne_none.1 hi]

theorem snoop_alarms (data : List Byte) (hi : (s.bay i).record.identity.isSome = true) :
    s.snoop i .alarms data = (s.writeRecord i .alarms (snoopValue data)).alarmWritten i := by
  refine (if_neg ?_).trans (if_pos rfl)
  simp [Option.isSome_iff_ne_none.1 hi]

theorem writeRecord_bay (s : State) (i : BayId) (f : SnoopField) (v : Nat) :
    (s.writeRecord i f v).bay i =
      { s.bay i with record := (s.bay i).record.writeField s.uptime v f } := by
  have e : (s.onRecord i fun _ => (s.bay i).record.writeField s.uptime v f).bay i = _ :=
    onRecord_bay s i _
  unfold State.writeRecord
  dsimp only
  split <;> exact e

theorem writeRecord_bay_ne {j : BayId} (hj : j ≠ i) (f : SnoopField) (v : Nat) :
    (s.writeRecord i f v).bay j = s.bay j := by
  have e : (s.onRecord i fun _ => (s.bay i).record.writeField s.uptime v f).bay j = s.bay j :=
    State.onBay_bay_ne s hj _
  unfold State.writeRecord
  dsimp only
  split <;> exact e

theorem writeRecord_work (s : State) (i : BayId) (f : SnoopField) (v : Nat) :
    BayWork s (s.writeRecord i f v) := by
  unfold State.writeRecord
  dsimp only
  split
  · exact ((BayWork.refl s).onBay i _).owe .other
  · exact (BayWork.refl s).onBay i _

/-! ### An identification's own reads (R15, R25) -/

variable {d : Identification} {data : List Byte}

theorem identificationRead_gathers {n : Nat} (h : (s.bay i).traffic.ident = some d) (hn : n < 3) :
    s.identificationRead i n data = withTraffic s i
      { (s.bay i).traffic with ident := some (d.gather n (snoopValue data)) } := by
  unfold State.identificationRead
  rw [h]
  exact (if_pos hn).trans (onTraffic_withTraffic ..)

/-- A record with its identity part complete (R25). -/
def identified (y : Identity) (r : PackRecord) : PackRecord := { r with identity := some y }

theorem identificationRead_serial (h : (s.bay i).traffic.ident = some d) {y : Identity}
    (hy : d.identity (snoopValue data) = some y) : s.identificationRead i 3 data =
      ((withTraffic s i { (s.bay i).traffic with ident := some { d with next := 4 } }).onRecord i
        (identified y)).owe .other := by
  unfold State.identificationRead
  rw [h]
  dsimp only
  rw [hy, onTraffic_withTraffic]
  rfl

theorem identificationRead_snoops {n : Nat} (h : (s.bay i).traffic.ident = some d)
    (h3 : 3 < n) (h6 : n < 6) : s.identificationRead i n data =
      (withTraffic s i { (s.bay i).traffic with ident := some { d with next := n + 1 } }).snoop i
        (identField n) data := by
  unfold State.identificationRead
  rw [h]
  dsimp only
  rw [onTraffic_withTraffic, if_neg (by omega), if_neg (by omega), if_pos h6]
  obtain rfl | rfl : n = 4 ∨ n = 5 := by omega
  · rfl
  · rfl

theorem identificationRead_done (h : (s.bay i).traffic.ident = some d) :
    s.identificationRead i 6 data =
      ((withTraffic s i { (s.bay i).traffic with ident := none }).snoop i .alarms
        data).identificationDone i := by
  unfold State.identificationRead
  rw [h]
  dsimp only
  rw [onTraffic_withTraffic, onTraffic_withTraffic, withTraffic_bay, withTraffic_withTraffic]
  rfl

/-- An identification's read on the bus of a bay where nothing else waits (R15). -/
structure Reading (s : State) (i : BayId) (x : Transaction) (d : Identification) : Prop where
  settled : s.due = none
  noTrips : s.NoTrips
  bus : (s.bay i).traffic.bus = some x
  ident : (s.bay i).traffic.ident = some d
  state : (s.bay i).state = .identifying
  waiting : (s.bay i).traffic.waiting = []
  alert : (s.bay i).traffic.alert = false
  read : x.write = false

/-- The traffic of a bay whose identification read was acknowledged. -/
def ackedTraffic (t : Traffic) (d : Identification) : Traffic :=
  { t with bus := none, failures := 0, tripRaised := false, ident := some d }

namespace Reading
variable {x : Transaction} {n : Nat}

theorem ack (h : Reading s i x d) (ho : x.owner = .identification n)
    (hl : data.length = x.size.bytes)
    (hu : (counted s i).identificationRead i n data = u) (ht : (u.bay i).tripDeferred = false) :
    exec (.transactionCompletion i (.own (.ack data))) s = .next (u.arbitrate i).closeEvent := by
  have run := complete_acknowledged h.bus (noTrips_bay h.noTrips i) data (u := u) (by
    rw [h.read, exactly_length hl]
    unfold State.acknowledged
    rw [ho]
    exact hu) ht
  exact congrArg (fun v : State => Host.Outcome.next v.closeEvent) run

theorem counted_ident (h : Reading s i x d) : ((counted s i).bay i).traffic.ident = some d := by
  unfold counted
  rw [withTraffic_bay]
  exact h.ident

/-- The state of an acknowledged read with the gathered fields stored. -/
theorem counted_gathered (s : State) (i : BayId) (d : Identification) :
    withTraffic (counted s i) i { ((counted s i).bay i).traffic with ident := some d } =
      withTraffic s i (ackedTraffic (s.bay i).traffic d) := by
  unfold counted
  rw [withTraffic_withTraffic, withTraffic_bay]
  rfl

theorem served (h : Reading s i x d) {t : Traffic} (hb : t.bus = none) : Served s i t :=
  ⟨hb, by rw [h.state]; rfl, noTrips_bay h.noTrips i⟩

/-- A gathered step, the next one granted. -/
theorem gathers (h : Reading s i x d) (ho : x.owner = .identification n) (hn : n < 3)
    (hl : data.length = x.size.bytes) {e : CommandEntry}
    (he : s.policy.ownEntry (identField (d.gather n (snoopValue data)).next) = some e) :
    exec (.transactionCompletion i (.own (.ack data))) s = .next (withTraffic s i
      { ackedTraffic (s.bay i).traffic (d.gather n (snoopValue data)) with
        lastServed := .maintenance
        bus := some (ownTransaction s.policy
          (.identification (d.gather n (snoopValue data)).next) e
          (identField (d.gather n (snoopValue data)).next)) }) := by
  have run := h.ack ho hl ((identificationRead_gathers h.counted_ident hn).trans
    (counted_gathered s i _)) (by rw [withTraffic_bay]; exact noTrips_bay h.noTrips i)
  have serves := (h.served (t := ackedTraffic (s.bay i).traffic (d.gather n (snoopValue data)))
    rfl).ident h.alert (.inl (by rw [show (ackedTraffic _ _).waiting = _ from h.waiting]; simp))
    rfl he
  rw [run, serves]
  exact congrArg Host.Outcome.next (State.closeEvent_of_settled h.settled)

/-- A read's end that leaves the identification with its next step: what is granted, and the rest
(R15). -/
theorem reads_on (h : Reading s i x d) {d' : Identification} {e : CommandEntry}
    (hp : u.policy = s.policy) (hn : u.NoTrips) (hs : (u.bay i).state = .identifying)
    (ht : (u.bay i).traffic = ackedTraffic (s.bay i).traffic d')
    (he : s.policy.ownEntry (identField d'.next) = some e) :
    let v := (u.arbitrate i).closeEvent
    (v.bay i).record = (u.bay i).record ∧ (v.bay i).traffic.ident = some d' ∧
    (v.bay i).traffic.bus = some (ownTransaction s.policy (.identification d'.next) e
      (identField d'.next)) ∧
    (v.bay i).traffic.failures = 0 ∧ (v.bay i).state = .identifying := by
  have serves := Served.ident (s := u) (i := i) (t := ackedTraffic (s.bay i).traffic d')
    ⟨rfl, by rw [hs]; rfl, noTrips_bay hn i⟩ h.alert
    (.inl (by rw [show (ackedTraffic _ _).waiting = _ from h.waiting]; simp)) rfl
    (by rw [hp]; exact he)
  dsimp only
  rw [serves.arbitrate ht, hp]
  generalize ht2 : ({ ackedTraffic (s.bay i).traffic d' with
    lastServed := .maintenance
    bus := some (ownTransaction s.policy (.identification d'.next) e (identField d'.next)) } :
      Traffic) = t2
  have hn' : (withTraffic u i t2).NoTrips := noTrips_iff.2 ((forall_bay_iff i).2
    ⟨by rw [withTraffic_bay]; exact noTrips_bay hn i,
      (onBay_still (s := u) (otherBay_ne i) _).tripDeferred.trans (noTrips_bay hn _)⟩)
  have still := closeEvent_still hn' i
  rw [withTraffic_bay] at still
  have traffic := still.traffic.trans ht2.symm
  exact ⟨still.record, (congrArg Traffic.ident traffic :), (congrArg Traffic.bus traffic :),
    (congrArg Traffic.failures traffic :), still.state.trans hs⟩

end Reading

theorem withTraffic_noTrips (hn : s.NoTrips) (t : Traffic) : (withTraffic s i t).NoTrips :=
  noTrips_iff.2 ((forall_bay_iff i).2 ⟨by rw [withTraffic_bay]; exact noTrips_bay hn i,
    (onBay_still (s := s) (otherBay_ne i) _).tripDeferred.trans (noTrips_bay hn _)⟩)

theorem writeRecord_noTrips (hn : s.NoTrips) (f : SnoopField) (v : Nat) :
    (s.writeRecord i f v).NoTrips :=
  noTrips_iff.2 ((forall_bay_iff i).2 ⟨by rw [writeRecord_bay]; exact noTrips_bay hn i,
    by rw [writeRecord_bay_ne (otherBay_ne i)]; exact noTrips_bay hn _⟩)

/-- An alarm word moves an ONLINE, QUARANTINED or RELEASING bay alone (R49). -/
theorem alarmWritten_off (h : (s.bay i).state ≠ .online) (hq : (s.bay i).state ≠ .quarantined)
    (hr : (s.bay i).state ≠ .releasing) : s.alarmWritten i = s := if_neg (by simp [h, hq, hr])

/-! ### The admission check taken (R35, R44) -/

/-- The check of a bay's pack as its record stands. -/
def checkOf (s : State) (i : BayId) : BayState × AdmissionOutcome :=
  admissionCheck s.policy (s.bay (otherBay i)).record.identity (s.bay i).record

theorem takeCheck_bay (s : State) (i : BayId) :
    BayStill (entered s.policy s.ctl.mode (checkOf s i).1
      { s.bay i with record := { (s.bay i).record with outcome := (checkOf s i).2 } })
      ((s.takeCheck i).bay i) := by
  have h := moveBay_entered (s.onRecord i fun x => { x with outcome := (checkOf s i).2 }) i
    (checkOf s i).1
  rw [onRecord_bay] at h
  exact h

theorem takeCheck_still {j : BayId} (hj : j ≠ i) : BayStill (s.bay j) ((s.takeCheck i).bay j) :=
  (onBay_still (s := s) hj _).trans (moveBay_still hj (checkOf s i).1)

theorem takeCheck_work (s : State) (i : BayId) : BayWork s (s.takeCheck i) :=
  ((BayWork.refl s).onBay i _).moveBay i (checkOf s i).1

/-- The arbiter finds nothing to do. -/
theorem arbitrate_nothing (hb : (s.bay i).traffic.bus = none)
    (hn : (s.bay i).tripDeferred = false) (ha : (s.bay i).traffic.alert = false)
    (hw : (s.bay i).traffic.waiting = []) (hm : (s.bay i).traffic.maintains = false) :
    s.arbitrate i = s := by
  cases hr : (s.bay i).state.traffic with
  | true => exact arbitrate_idle ⟨hb, hr, hn⟩ ha (by rw [hw]; rfl) hm
  | false => exact arbitrate_blocked (by simp [arbiterBlocked, hr])

/-- A bay whose identification has ended with the guard active (R54). -/
def decisionWaits (y : Bay) : Bay := { y with decisionDeferred := true }

theorem identificationDone_calm (h : s.motion.guard = .calm) :
    s.identificationDone i = s.takeCheck i := if_neg (by rw [guardActive_iff.2 h]; simp)

theorem identificationDone_active (h : s.motion.guard ≠ .calm) :
    s.identificationDone i = s.onIndications i decisionWaits :=
  if_pos (by by_contra hc; exact h (guardActive_iff.1 (by simpa using hc)))

/-- A bay where nothing waits but the end of its identification. -/
structure Finishing (s : State) (i : BayId) : Prop where
  noTrips : s.NoTrips
  bus : (s.bay i).traffic.bus = none
  alert : (s.bay i).traffic.alert = false
  waiting : (s.bay i).traffic.waiting = []
  ident : (s.bay i).traffic.ident = none
  reverify : (s.bay i).traffic.reverify = none
  round : (s.bay i).traffic.round = none

theorem Finishing.maintains (h : Finishing s i) : (s.bay i).traffic.maintains = false := by
  rw [Traffic.maintains, h.ident, h.reverify, h.round]
  rfl

/-- The check is taken as the identification ends, with the guard CALM (R44). -/
theorem Finishing.checked (h : Finishing s i) (hg : s.motion.guard = .calm) :
    ((s.identificationDone i).bay i).tripDeferred = false ∧
    let u := ((s.identificationDone i).arbitrate i).closeEvent
    (u.bay i).traffic.ident = none ∧ (u.bay i).state = (checkOf s i).1 ∧
      (u.bay i).record = { (s.bay i).record with outcome := (checkOf s i).2 } := by
  have b := takeCheck_bay s i
  obtain ⟨kw, kb, -⟩ := onMove_traffic s.policy s.ctl.mode (s.bay i).state (checkOf s i).1
    (s.bay i).traffic
  obtain ⟨ka, ki, kr, kp⟩ := onMove_kinds s.policy s.ctl.mode (s.bay i).state (checkOf s i).1
    (s.bay i).traffic
  have bt : ((s.takeCheck i).bay i).traffic = (s.bay i).traffic.onMove s.policy s.ctl.mode
      (s.bay i).state (checkOf s i).1 := b.traffic
  have trip : ((s.takeCheck i).bay i).tripDeferred = false :=
    b.tripDeferred.trans (noTrips_bay h.noTrips i)
  have hn' : (s.takeCheck i).NoTrips := noTrips_iff.2 ((forall_bay_iff i).2
    ⟨trip, (takeCheck_still (otherBay_ne i)).tripDeferred.trans (noTrips_bay h.noTrips _)⟩)
  have still := b.trans (closeEvent_still hn' i)
  have ident : (((s.bay i).traffic.onMove s.policy s.ctl.mode (s.bay i).state
      (checkOf s i).1)).ident = none := by rw [ki, h.ident, ite_self]
  have idle : (s.takeCheck i).arbitrate i = s.takeCheck i := arbitrate_nothing
    (by rw [bt, kb, h.bus]) trip (by rw [bt, ka, h.alert]) (by rw [bt, kw, h.waiting])
    (by rw [bt, Traffic.maintains, ident, kr, kp, h.reverify, h.round, ite_self]; rfl)
  rw [identificationDone_calm hg, idle]
  exact ⟨trip, by rw [still.traffic]; exact ident, still.state, still.record⟩

/-- The check waits for the guard's return (R54). -/
theorem Finishing.deferred (h : Finishing s i) (hg : s.motion.guard ≠ .calm) :
    ((s.identificationDone i).bay i).tripDeferred = false ∧
    let u := ((s.identificationDone i).arbitrate i).closeEvent
    (u.bay i).traffic.ident = none ∧ (u.bay i).state = (s.bay i).state ∧
      (u.bay i).record = (s.bay i).record ∧ (u.bay i).decisionDeferred = true := by
  have b : (s.onIndications i decisionWaits).bay i = decisionWaits (s.bay i) :=
    State.onBay_bay s i decisionWaits
  have other : BayStill (s.bay (otherBay i)) ((s.onIndications i decisionWaits).bay (otherBay i)) :=
    (onBay_still (s := s) (otherBay_ne i) decisionWaits :)
  have hn' : (s.onIndications i decisionWaits).NoTrips :=
    noTrips_iff.2 ((forall_bay_iff i).2 ⟨by rw [b]; exact noTrips_bay h.noTrips i,
      other.tripDeferred.trans (noTrips_bay h.noTrips _)⟩)
  have still := closeEvent_still hn' i
  rw [b] at still
  have idle : (s.onIndications i decisionWaits).arbitrate i = s.onIndications i decisionWaits :=
    arbitrate_nothing (by rw [b]; exact h.bus) (by rw [b]; exact noTrips_bay h.noTrips i)
      (by rw [b]; exact h.alert) (by rw [b]; exact h.waiting)
      (by rw [b]; exact h.maintains)
  rw [identificationDone_active hg, idle]
  exact ⟨by rw [b]; exact noTrips_bay h.noTrips i, by rw [still.traffic]; exact h.ident,
    still.state, still.record, still.decisionDeferred⟩

namespace Reading
variable {x : Transaction} {n : Nat}

/-- A step for which no entry is found (R44). -/
theorem incomplete (h : Reading s i x d) {d' : Identification} (hb : t.bus = none)
    (ha : t.alert = false) (hw : t.waiting = []) (hd : t.ident = some d')
    (he : s.policy.ownEntry (identField d'.next) = none) (hr : t.reverify = none)
    (hp : t.round = none) :
    let u := ((withTraffic s i t).arbitrate i).closeEvent
    (u.bay i).state = .quarantined ∧
    (u.bay i).record = { (s.bay i).record with outcome := .tableIncomplete } ∧
    (u.bay i).traffic.ident = none ∧ (u.bay i).traffic.bus = none ∧
    (u.bay i).traffic.failures = t.failures ∧
    u.flags.get (baySpace i) = s.flags.get (baySpace i) ||| 0x10 := by
  have b := withTraffic_bay s i t
  have ends := incomplete_ends (s := withTraffic s i t) (i := i) (d := d') (h.served hb).looks
    (withTraffic_noTrips h.noTrips t) (by rw [b]; exact h.state) (by rw [b]; exact ha)
    (by rw [b]; exact hw) (by rw [b]; exact hd) he (by rw [b]; exact hr) (by rw [b]; exact hp)
  dsimp only at ends ⊢
  rw [b] at ends
  exact ends

/-- A failed read, the failure short of the limit (R15, R20). -/
theorem fails (h : Reading s i x d) (ho : x.owner = .identification n) {e : Ending}
    (he : ∀ b, e ≠ .ack b) (hf : (s.bay i).traffic.failures ≠ s.policy.lockoutLimit.get i) :
    s.complete i e = (withTraffic s i { (s.bay i).traffic with
      bus := none, failures := failuresAfter s i }).arbitrate i := by
  have own : (freed s i).failed i x e.failure = freed s i := by
    unfold State.failed
    rw [ho]
  have b : (freed s i).bay i = _ := withTraffic_bay s i _
  have run := complete_failed_short h.bus he own (by rw [b]; exact noTrips_bay h.noTrips i)
    (by rw [b]; exact hf)
  have after : failuresAfter (freed s i) i = failuresAfter s i := by
    unfold failuresAfter
    rw [b]
    rfl
  rw [run, b, after]
  exact congrArg (State.arbitrate · i) (withTraffic_withTraffic ..)

/-- SERIAL completes the identity part (R25). -/
theorem serial (h : Reading s i x d) (ho : x.owner = .identification 3)
    (hl : data.length = x.size.bytes) {y : Identity} (hy : d.identity (snoopValue data) = some y)
    {e : CommandEntry} (he : s.policy.ownEntry .voltage = some e) : ∃ v,
      exec (.transactionCompletion i (.own (.ack data))) s = .next v ∧
      (v.bay i).record = { (s.bay i).record with identity := some y } ∧
      (v.bay i).traffic.ident = some { d with next := 4 } ∧
      (v.bay i).traffic.bus = some (ownTransaction s.policy (.identification 4) e .voltage) ∧
      (v.bay i).state = .identifying := by
  let w := withTraffic s i (ackedTraffic (s.bay i).traffic { d with next := 4 })
  let u := (w.onRecord i (identified y)).owe .other
  have read : (counted s i).identificationRead i 3 data = u := by
    rw [identificationRead_serial h.counted_ident hy, counted_gathered]
  have b : u.bay i = { s.bay i with
      traffic := ackedTraffic (s.bay i).traffic { d with next := 4 }
      record := identified y (s.bay i).record } := by
    have e : u.bay i = _ := onRecord_bay w i (identified y)
    rw [e, withTraffic_bay]
  have trip : (u.bay i).tripDeferred = false := by rw [b]; exact noTrips_bay h.noTrips i
  have other : BayStill (w.bay (otherBay i)) (u.bay (otherBay i)) :=
    onBay_still (s := w) (otherBay_ne i) fun z => { z with record := identified y z.record }
  have hn : u.NoTrips := noTrips_iff.2 ((forall_bay_iff i).2 ⟨trip,
    other.tripDeferred.trans (noTrips_bay (withTraffic_noTrips h.noTrips _) _)⟩)
  obtain ⟨record, ident, bus, -, state⟩ := h.reads_on (u := u) (d' := { d with next := 4 }) rfl hn
    (by rw [b]; exact h.state) (by rw [b]) he
  exact ⟨_, h.ack ho hl read trip, record.trans (by rw [b]; rfl), ident, bus, state⟩

/-- VOLTAGE and TEMPERATURE are written as they are read (R25, R26). -/
theorem writes (h : Reading s i x d) (ho : x.owner = .identification n) (h3 : 3 < n) (h6 : n < 6)
    (hl : data.length = x.size.bytes) (hi : (s.bay i).record.identity.isSome = true)
    {e : CommandEntry} (he : s.policy.ownEntry (identField (n + 1)) = some e) : ∃ v,
      exec (.transactionCompletion i (.own (.ack data))) s = .next v ∧
      (v.bay i).record = (s.bay i).record.writeField s.uptime (snoopValue data) (identField n) ∧
      (v.bay i).traffic.ident = some { d with next := n + 1 } ∧
      (v.bay i).traffic.bus = some (ownTransaction s.policy (.identification (n + 1)) e
        (identField (n + 1))) ∧
      (v.bay i).traffic.failures = 0 ∧ (v.bay i).state = .identifying := by
  let w := withTraffic s i (ackedTraffic (s.bay i).traffic { d with next := n + 1 })
  have wb : w.bay i = _ := withTraffic_bay s i _
  have field : identField n ≠ .none ∧ identField n ≠ .alarms := by
    obtain rfl | rfl : n = 4 ∨ n = 5 := by omega
    · decide
    · decide
  have read : (counted s i).identificationRead i n data =
      w.writeRecord i (identField n) (snoopValue data) := by
    rw [identificationRead_snoops h.counted_ident h3 h6, counted_gathered,
      snoop_field data field.1 (by rw [wb]; exact hi) field.2]
  have hn : (w.writeRecord i (identField n) (snoopValue data)).NoTrips :=
    writeRecord_noTrips (withTraffic_noTrips h.noTrips _) _ _
  have b := writeRecord_bay w i (identField n) (snoopValue data)
  rw [wb] at b
  have policy := (writeRecord_work w i (identField n) (snoopValue data)).policy
  obtain ⟨record, ident, bus, failures, state⟩ := h.reads_on (d' := { d with next := n + 1 })
    policy hn (by rw [b]; exact h.state) (by rw [b]) he
  exact ⟨_, h.ack ho hl read (noTrips_bay hn i), record.trans (by rw [b]; rfl), ident, bus,
    failures, state⟩

/-- The last read ends in the admission check (R44, R54). -/
theorem done (h : Reading s i x d) (ho : x.owner = .identification 6)
    (hl : data.length = x.size.bytes) (hi : (s.bay i).record.identity.isSome = true)
    (hr : (s.bay i).traffic.reverify = none) (hp : (s.bay i).traffic.round = none) : ∃ w v,
      exec (.transactionCompletion i (.own (.ack data))) s = .next v ∧
      BayWork s w ∧ w.bay (otherBay i) = s.bay (otherBay i) ∧
      (w.bay i).record = (s.bay i).record.writeField s.uptime (snoopValue data) .alarms ∧
      (v.bay i).traffic.ident = none ∧
      (s.motion.guard = .calm → (v.bay i).state = (checkOf w i).1 ∧
        (v.bay i).record = { (w.bay i).record with outcome := (checkOf w i).2 }) ∧
      (s.motion.guard ≠ .calm → (v.bay i).state = .identifying ∧
        (v.bay i).record = (w.bay i).record ∧ (v.bay i).decisionDeferred = true) := by
  let t : Traffic := { ackedTraffic (s.bay i).traffic d with ident := none }
  let z := withTraffic s i t
  have zb : z.bay i = { s.bay i with traffic := t } := withTraffic_bay s i t
  let w := z.writeRecord i .alarms (snoopValue data)
  have wb : w.bay i = _ := writeRecord_bay z i .alarms (snoopValue data)
  rw [zb] at wb
  have state : (w.bay i).state = .identifying := by rw [wb]; exact h.state
  have snooped : z.snoop i .alarms data = w := by
    rw [snoop_alarms data (by rw [zb]; exact hi)]
    exact alarmWritten_off (by rw [state]; decide) (by rw [state]; decide) (by rw [state]; decide)
  have read : (counted s i).identificationRead i 6 data = w.identificationDone i := by
    have e : withTraffic (counted s i) i { ((counted s i).bay i).traffic with ident := none } = z := by
      unfold counted
      rw [withTraffic_withTraffic, withTraffic_bay]
      rfl
    rw [identificationRead_done h.counted_ident, e, snooped]
  have traffic : (w.bay i).traffic = t := by rw [wb]
  have finishing : Finishing w i := ⟨writeRecord_noTrips (withTraffic_noTrips h.noTrips _) _ _,
    by rw [traffic]; rfl, by rw [traffic]; exact h.alert, by rw [traffic]; exact h.waiting,
    by rw [traffic], by rw [traffic]; exact hr, by rw [traffic]; exact hp⟩
  have work : BayWork s w :=
    ((BayWork.refl s).onBay i _).trans (writeRecord_work z i .alarms (snoopValue data))
  have guard : w.motion.guard = s.motion.guard := (congrArg (·.motion.guard) work :)
  have other : w.bay (otherBay i) = s.bay (otherBay i) :=
    (writeRecord_bay_ne (s := z) (otherBay_ne i) _ _).trans
      (withTraffic_bay_ne (otherBay_ne i) t)
  have record : (w.bay i).record = _ := congrArg Bay.record wb
  by_cases hg : s.motion.guard = .calm
  · obtain ⟨trip, ident, ends⟩ := finishing.checked (guard.trans hg)
    exact ⟨w, _, h.ack ho hl read trip, work, other, record, ident, fun _ => ends,
      fun hn => absurd hg hn⟩
  · obtain ⟨trip, ident, hs, ends⟩ := finishing.deferred (fun e => hg (guard.symm.trans e))
    exact ⟨w, _, h.ack ho hl read trip, work, other, record, ident, fun e => absurd e hg,
      fun _ => ⟨hs.trans state, ends⟩⟩

theorem gather_next {n v : Nat} (hn : n < 3) : (d.gather n v).next = n + 1 := by
  obtain rfl | rfl | rfl : n = 0 ∨ n = 1 ∨ n = 2 := by omega
  · rfl
  · rfl
  · rfl

end Reading

end

/-- Settles O51, read by read. -/
theorem identificationRunsItsReads : Obligations.IdentificationRunsItsReads := by
  unfold Obligations.IdentificationRunsItsReads
  intro s i x d data hd hn y v own left ack n more incomplete writes hbus hident hst hw ha hx hl
  have h : Reading s i x d := ⟨hd, hn, hbus, hident, hst, hw, ha, hx⟩
  have waits (t : Traffic) (ht : t.waiting = y.traffic.waiting) :
      ∀ r ∈ t.waiting, s.holdMask.getLsbD r.cls = true := by
    rw [ht, show y.traffic.waiting = _ from hw]
    simp
  refine ⟨fun e hn ho he => ?_, fun e hn ho he => ?_, fun e hn ho he => ?_,
    fun e c mv mah hd' ho he => ?_, fun e hn ho hi he => ?_, fun e hn ho hi he => ?_,
    fun hn ho hi hr hp => ?done, fun ho hn hr hp he => ?missing, fun ho hf => ?failed⟩
  · exact h.gathers ho (by decide) hl he
  · exact h.gathers ho (by decide) hl he
  · exact h.gathers ho (by decide) hl he
  · subst hd'
    exact h.serial ho hl rfl he
  · exact h.writes ho (by decide) (by decide) hl hi he
  · exact h.writes ho (by decide) (by decide) hl hi he
  case done =>
    obtain ⟨w, u, run, work, other, record, ident, calm, active⟩ := h.done ho hl hi hr hp
    have check : checkOf w i = admissionCheck s.policy (s.bay (otherBay i)).record.identity
        (y.record.writeField s.uptime v .alarms) := by
      unfold checkOf
      rw [work.policy, other, record]
      rfl
    rw [check, record] at calm
    rw [record] at active
    exact ⟨u, run, ident, calm, active⟩
  case missing =>
    have read := (identificationRead_gathers (data := data) h.counted_ident hn).trans
      (Reading.counted_gathered s i _)
    have run := h.ack ho hl read (by rw [withTraffic_bay]; exact noTrips_bay h.noTrips i)
    exact ⟨_, run, h.incomplete rfl ha hw rfl (by rw [Reading.gather_next hn]; exact he) hr hp⟩
  case failed =>
    have ends {c : Instr} (hc : exec c s = .next ((withTraffic s i { (s.bay i).traffic with
        bus := none, failures := failuresAfter s i }).arbitrate i).closeEvent) :
        (∀ e, s.policy.ownEntry (identField d.next) = some e →
          exec c s = .next (left d e d.next more y.traffic.tripRaised)) ∧
        (s.policy.ownEntry (identField d.next) = none → y.traffic.reverify = none →
          y.traffic.round = none → incomplete c more) := by
      refine ⟨fun e he => ?_, fun he hr hp => ⟨_, hc, h.incomplete rfl ha hw hident he hr hp⟩⟩
      have serves := (h.served (t := { (s.bay i).traffic with
        bus := none, failures := failuresAfter s i }) rfl).ident ha (.inl (waits _ rfl)) hident he
      rw [hc, serves, withTraffic_closes hd]
      change _ = Host.Outcome.next (withTraffic s i { y.traffic with
        bus := own d.next e, ident := some d, failures := more, tripRaised := y.traffic.tripRaised
        lastServed := .maintenance })
      rw [← hident]
      rfl
    exact ⟨ends ((exec_completion ..).trans (congrArg (fun v : State => Host.Outcome.next v.closeEvent)
        (h.fails ho (by simp [endingOf]) hf))),
      fun hl => ends ((exec_limitExpiry hbus hl).trans
        (congrArg (fun v : State => Host.Outcome.next v.closeEvent) (h.fails ho (by simp) hf)))⟩

end Sys2Proof.Proofs
end

section
/-!
PROOFS. Alerts, polls and the settle timer (R13 to R18, R36, R42, R44, R147, R190).
-/

namespace Sys2Proof.Proofs
open Sys2Proof.Machine

/-! ### An event of one bay -/

/-- `t` is an event of bay `i` under way: what its traffic unit and its manager may have touched, with
no trip deferred and at most a change of the bay owed to the supply controller. -/
structure BayEvent (s : State) (i : BayId) (t : State) : Prop where
  work : BayWork { s with link := t.link } t
  ctl : t.ctl = s.ctl
  due : t.due = none ∨ t.due = some .other
  other : BayStill (s.bay (otherBay i)) (t.bay (otherBay i))
  noTrips : t.NoTrips

namespace BayEvent
variable {s t : State} {i : BayId}

theorem refl (hd : s.due = none) (hn : s.NoTrips) : BayEvent s i s :=
  ⟨.refl _, rfl, .inl hd, .refl _, hn⟩

theorem onBay (h : BayEvent s i t) {f : Bay → Bay} (hf : (f (t.bay i)).tripDeferred = false) :
    BayEvent s i (t.onBay i f) := by
  refine ⟨h.work.onBay i f, h.ctl, h.due, h.other.trans (onBay_still (otherBay_ne i) f),
    noTrips_iff.2 ((forall_bay_iff i).2 ⟨by rw [State.onBay_bay]; exact hf, ?_⟩)⟩
  rw [State.onBay_bay_ne t (otherBay_ne i)]
  exact noTrips_bay h.noTrips _

theorem onTraffic (h : BayEvent s i t) (f : Traffic → Traffic) : BayEvent s i (t.onTraffic i f) :=
  h.onBay (f := fun y => { y with traffic := f y.traffic }) (noTrips_bay h.noTrips i)

theorem onRecord (h : BayEvent s i t) (f : PackRecord → PackRecord) :
    BayEvent s i (t.onRecord i f) :=
  h.onBay (f := fun y => { y with record := f y.record }) (noTrips_bay h.noTrips i)

theorem owe (h : BayEvent s i t) : BayEvent s i (t.owe .other) :=
  ⟨h.work.owe .other, h.ctl, .inr (owe_other_due h.due), h.other, h.noTrips⟩

theorem writeRecord (h : BayEvent s i t) (f : SnoopField) (v : Nat) :
    BayEvent s i (t.writeRecord i f v) := by
  unfold State.writeRecord
  dsimp only
  split
  · exact (h.onRecord _).owe
  · exact h.onRecord _

theorem moveBay_ctl (s : State) (i : BayId) (n : BayState) : (s.moveBay i n).ctl = s.ctl := by
  simp

theorem moveBay (h : BayEvent s i t) (n : BayState) : BayEvent s i (t.moveBay i n) := by
  have b := moveBay_entered t i n
  have link : (t.moveBay i n).link = t.link := by simp
  refine ⟨?_, (moveBay_ctl t i n).trans h.ctl, .inr ((moveBay_due t i n).trans
    (owe_other_due h.due)), h.other.trans (moveBay_still (otherBay_ne i) n),
    noTrips_iff.2 ((forall_bay_iff i).2 ⟨b.tripDeferred.trans (noTrips_bay h.noTrips i),
      (moveBay_still (otherBay_ne i) n).tripDeferred.trans (noTrips_bay h.noTrips _)⟩)⟩
  rw [link]
  exact h.work.moveBay i n

theorem alarmWritten (h : BayEvent s i t) : BayEvent s i (t.alarmWritten i) := by
  unfold State.alarmWritten
  dsimp only
  split
  · exact (h.onBay (by rfl)).moveBay .inhibited
  · exact h

theorem snoop (h : BayEvent s i t) (f : SnoopField) (data : List Byte) :
    BayEvent s i (t.snoop i f data) := by
  unfold State.snoop
  dsimp only
  split
  · exact h
  split
  · exact (h.writeRecord _ _).alarmWritten
  · exact h.writeRecord _ _

theorem takeCheck (h : BayEvent s i t) : BayEvent s i (t.takeCheck i) :=
  (h.onRecord _).moveBay _

theorem readmissionTest (h : BayEvent s i t) : BayEvent s i (t.readmissionTest i) := by
  unfold State.readmissionTest
  dsimp only
  split
  · exact h.takeCheck
  · exact h

theorem enterIdentifying (h : BayEvent s i t) : BayEvent s i (t.enterIdentifying i) :=
  (h.moveBay .identifying).onBay (noTrips_bay (h.moveBay .identifying).noTrips i)

theorem tableIncomplete (h : BayEvent s i t) : BayEvent s i (t.tableIncomplete i) :=
  (h.onRecord _).moveBay .quarantined

/-- A change of the link alone. -/
theorem sent (h : BayEvent s i t) (l : Link) : BayEvent s i { t with link := l } :=
  ⟨(congrArg (fun x : State => { x with link := l }) h.work :), h.ctl, h.due, h.other, h.noTrips⟩

/-- What the end of the event leaves (log 9). -/
theorem closes (h : BayEvent s i t) (hd : s.due = none) :
    let u := t.closeEvent
    (u = { s with
      bays := u.bays, supply := u.supply, back := u.back, flags := u.flags, link := u.link
      drop := { s.drop with parkPin := u.drop.parkPin } } ∧
    (u.bay (otherBay i)).state = (s.bay (otherBay i)).state ∧
    (u.bay (otherBay i)).record = (s.bay (otherBay i)).record ∧
    (u.bay (otherBay i)).traffic = (s.bay (otherBay i)).traffic) ∧
    u.link = t.link ∧ BayStill (t.bay i) (u.bay i) := by
  have still := closeEvent_still h.noTrips
  have o := h.other.trans (still (otherBay i))
  have work := BayWork.closeEvent h.noTrips h.work
  have link : t.closeEvent.link = t.link := (congrArg State.link work :)
  have kept := work.ends (by rw [State.closeEvent_due]; exact hd.symm)
  have ctl : t.closeEvent.ctl = s.ctl := by
    obtain hn | ho := h.due
    · rw [State.closeEvent_of_settled hn, h.ctl]
    · rw [closeEvent_ctl ho h.noTrips, h.ctl]
  rw [ctl, ← link] at kept
  exact ⟨⟨kept, o.state, o.record, o.traffic⟩, link, still i⟩

end BayEvent

section
variable {s u : State} {i : BayId} {t : Traffic} {data : List Byte} {f : SnoopField}

/-! ### What a snoop leaves of the bay (R19, R29, R49) -/

/-- A change of state between states that poll leaves the traffic, but for its poll timer (R17). -/
theorem onMove_polls {n : BayState} (hn : n.polls = true) (hi : t.ident = none) (p : Policy)
    (m : PartMode) (o : BayState) :
    t.onMove p m o n = { t with pollTimer := (t.onMove p m o n).pollTimer } := by
  obtain ⟨hw, hb, hf, ht, hl⟩ := onMove_traffic p m o n t
  obtain ⟨ha, hd, hr, hp⟩ := onMove_kinds p m o n t
  rw [hi, ite_self] at hd
  rw [hn, if_pos rfl] at hp
  generalize t.onMove p m o n = t' at *
  cases t
  cases t'
  simp_all

/-- The bay of an alarm word that moves it to INHIBITED, before the move (R49). -/
def alarmed (w : BitVec 4) (y : Bay) : Bay :=
  { y with
    tripDeferred := false
    record := { y.record with outcome := if alarmCellFault w then .cellFault else .overTemp } }

/-- An alarm word that moves its bay (R35, R49). -/
def Inhibits (s : State) (i : BayId) (f : SnoopField) (w : BitVec 4) : Prop :=
  f = .alarms ∧ (alarmOverTemp w = true ∨ alarmCellFault w = true) ∧
    ((s.bay i).state = .online ∨ (s.bay i).state = .quarantined ∨ (s.bay i).state = .releasing)

/-- The record of a bay after a snoop. -/
def snoopedRecord (s : State) (i : BayId) (f : SnoopField) (data : List Byte) : PackRecord :=
  (s.bay i).record.writeField s.uptime (snoopValue data) f

theorem alarmWritten_eq {w : BitVec 4} (hw : (s.bay i).record.alarmWord = w)
    (h : Inhibits s i .alarms w) :
    s.alarmWritten i = (s.onBay i (alarmed w)).moveBay i .inhibited := by
  obtain ⟨-, ha, hs⟩ := h
  have c : ((alarmCellFault (s.bay i).record.alarmWord ||
      alarmOverTemp (s.bay i).record.alarmWord) && (decide ((s.bay i).state = .online) ||
      decide ((s.bay i).state = .quarantined) || decide ((s.bay i).state = .releasing))) = true := by
    rw [hw]
    simp only [Bool.and_eq_true, Bool.or_eq_true, decide_eq_true_eq]
    exact ⟨ha.symm, by tauto⟩
  refine (if_pos c).trans ?_
  rw [hw]
  rfl

theorem alarmWritten_kept {w : BitVec 4} (hw : (s.bay i).record.alarmWord = w)
    (h : ¬ Inhibits s i .alarms w) : s.alarmWritten i = s := by
  refine if_neg ?_
  rw [hw]
  simp only [Bool.and_eq_true, Bool.or_eq_true, decide_eq_true_eq]
  exact fun ⟨ha, hs⟩ => h ⟨rfl, ha.symm, by tauto⟩

/-- A snoop that does not inhibit writes the record and nothing else of the bay. -/
theorem snoop_written (hi : (s.bay i).record.identity.isSome = true)
    (h : ¬ Inhibits s i f (BitVec.ofNat 4 (snoopValue data))) :
    (s.snoop i f data).bay i = { s.bay i with record := snoopedRecord s i f data } := by
  by_cases hf : f = .none
  · subst hf
    rw [snoop_none _ _ (.inl rfl)]
    rfl
  have b := writeRecord_bay s i f (snoopValue data)
  by_cases ha : f = .alarms
  · subst ha
    rw [snoop_alarms data hi, alarmWritten_kept (w := BitVec.ofNat 4 (snoopValue data))]
    · exact b
    · rw [b]
      rfl
    · unfold Inhibits at h ⊢
      rw [b]
      exact h
  · rw [snoop_field data hf hi ha]
    exact b

/-- A snoop that inhibits (R49). -/
theorem snoop_inhibits (hi : (s.bay i).record.identity.isSome = true)
    (h : Inhibits s i f (BitVec.ofNat 4 (snoopValue data))) :
    BayStill (entered s.policy s.ctl.mode .inhibited (alarmed (BitVec.ofNat 4 (snoopValue data))
      { s.bay i with record := snoopedRecord s i f data })) ((s.snoop i f data).bay i) := by
  obtain rfl := h.1
  have b := writeRecord_bay s i .alarms (snoopValue data)
  have work := writeRecord_work s i .alarms (snoopValue data)
  have mode : (s.writeRecord i .alarms (snoopValue data)).ctl.mode = s.ctl.mode := by
    unfold State.writeRecord
    dsimp only
    split <;> rfl
  rw [snoop_alarms data hi, alarmWritten_eq (w := BitVec.ofNat 4 (snoopValue data))]
  · have m := moveBay_entered ((s.writeRecord i .alarms (snoopValue data)).onBay i
      (alarmed (BitVec.ofNat 4 (snoopValue data)))) i .inhibited
    rw [State.onBay_bay, b] at m
    change BayStill (entered (s.writeRecord i .alarms (snoopValue data)).policy
      (s.writeRecord i .alarms (snoopValue data)).ctl.mode .inhibited _) _ at m
    rw [work.policy, mode] at m
    exact m
  · rw [b]
    rfl
  · unfold Inhibits at h ⊢
    rw [b]
    exact h

/-- `z` is the bay `y` whose work has left its traffic as it was, but for the poll timer, in a state
that polls where it was in one. -/
structure TrafficLeft (y z : Bay) : Prop where
  traffic : z.traffic = { y.traffic with pollTimer := z.traffic.pollTimer }
  polls : y.state.polls = true → z.state.polls = true

theorem TrafficLeft.trans {x y z : Bay} (h : TrafficLeft x y) (g : TrafficLeft y z) :
    TrafficLeft x z :=
  ⟨by rw [g.traffic, h.traffic], fun hp => g.polls (h.polls hp)⟩

theorem TrafficLeft.of_same {y z : Bay} (ht : z.traffic = y.traffic) (hs : z.state = y.state) :
    TrafficLeft y z :=
  ⟨by rw [ht], fun h => by rw [hs]; exact h⟩

theorem TrafficLeft.of_entered {p : Policy} {m : PartMode} {n : BayState} {x y z : Bay}
    (h : BayStill (entered p m n x) z) (hn : n.polls = true) (hi : y.traffic.ident = none)
    (hx : x.traffic = y.traffic) : TrafficLeft y z := by
  refine ⟨?_, fun _ => h.state.symm ▸ hn⟩
  rw [h.traffic]
  have e : (entered p m n x).traffic = y.traffic.onMove p m x.state n := by rw [← hx]; rfl
  rw [e]
  exact onMove_polls hn hi p m x.state

theorem snoop_traffic (hi : (s.bay i).traffic.ident = none) :
    TrafficLeft (s.bay i) ((s.snoop i f data).bay i) := by
  by_cases hd : (s.bay i).record.identity = none
  · rw [snoop_none _ _ (.inr hd)]
    exact .of_same rfl rfl
  have hd' : (s.bay i).record.identity.isSome = true := Option.isSome_iff_ne_none.2 hd
  by_cases h : Inhibits s i f (BitVec.ofNat 4 (snoopValue data))
  · exact .of_entered (snoop_inhibits hd' h) rfl hi rfl
  · rw [snoop_written hd' h]
    exact .of_same rfl rfl

/-! ### The re-admission test (R36) -/

theorem checkOf_polls (s : State) (i : BayId) : (checkOf s i).1.polls = true := by
  unfold checkOf admissionCheck
  (repeat' split) <;> rfl

/-- The condition of a re-admission (R36). -/
def Readmits (s : State) (i : BayId) : Prop :=
  (s.bay i).state = .quarantined ∧ (s.bay i).record.outcome = .tempOut ∧
    readmissionPasses s.policy (s.bay i).record = true

theorem readmissionTest_taken (h : Readmits s i) : s.readmissionTest i = s.takeCheck i :=
  if_pos (by simp [h.1, h.2.1, h.2.2])

theorem readmissionTest_kept (h : ¬ Readmits s i) : s.readmissionTest i = s :=
  if_neg (by simpa [Readmits, and_assoc] using h)

theorem readmissionTest_traffic (hi : (s.bay i).traffic.ident = none) :
    TrafficLeft (s.bay i) ((s.readmissionTest i).bay i) := by
  by_cases h : Readmits s i
  · rw [readmissionTest_taken h]
    exact .of_entered (takeCheck_bay s i) (checkOf_polls s i) hi rfl
  · rw [readmissionTest_kept h]
    exact .of_same rfl rfl

/-! ### Poll rounds (R18) -/

/-- The traffic of a bay whose poll read has ended. -/
def roundEnded (p : Policy) (t : Traffic) : Traffic :=
  match t.round with
  | some n => if (nextPoll n p.commands).isNone then { t with round := none } else t
  | none => t

theorem endRound_eq (s : State) (i : BayId) :
    s.endRound i = withTraffic s i (roundEnded s.policy (s.bay i).traffic) := by
  cases hr : (s.bay i).traffic.round with
  | none =>
    simp only [State.endRound, roundEnded, hr]
    exact (withTraffic_self s i).symm
  | some n =>
    simp only [State.endRound, roundEnded, hr]
    split
    · exact onTraffic_withTraffic ..
    · exact (withTraffic_self s i).symm

/-- A bay with nothing waiting but a poll round. -/
structure Rounding (t : Traffic) : Prop where
  bus : t.bus = none
  alert : t.alert = false
  waiting : t.waiting = []
  ident : t.ident = none
  reverify : t.reverify = none

theorem Rounding.nothing (h : Rounding t) (hr : t.round = none) (ht : (u.bay i).traffic = t)
    (hn : (u.bay i).tripDeferred = false) : u.arbitrate i = u := by
  subst ht
  exact arbitrate_nothing h.bus hn h.alert h.waiting
    (by rw [Traffic.maintains, h.ident, h.reverify, hr]; rfl)

/-- The round's next read granted, or the round over (R18). -/
theorem Rounding.next (h : Rounding t) {n : Nat} (hr : t.round = some n)
    (hs : (u.bay i).state.traffic = true) (hn : (u.bay i).tripDeferred = false) :
    (nextPoll n u.policy.commands = none →
      (withTraffic u i (roundEnded u.policy t)).arbitrate i =
        withTraffic u i { t with round := none }) ∧
    ∀ k e, nextPoll n u.policy.commands = some (k, e) →
      (withTraffic u i (roundEnded u.policy t)).arbitrate i = withTraffic u i { t with
        round := some (k + 1), lastServed := .maintenance
        bus := some (ownTransaction u.policy .poll e e.snoopField) } := by
  constructor
  · intro he
    have ended : roundEnded u.policy t = { t with round := none } := by
      simp only [roundEnded, hr, he]
      rfl
    rw [ended]
    have quiet : Rounding { t with round := none } := ⟨h.bus, h.alert, h.waiting, h.ident, h.reverify⟩
    exact quiet.nothing rfl (by rw [withTraffic_bay]) (by rw [withTraffic_bay]; exact hn)
  · intro k e he
    have on : roundEnded u.policy t = t := by
      simp only [roundEnded, hr, he]
      rfl
    rw [on]
    exact Served.poll ⟨h.bus, hs, hn⟩ h.alert (.inl (by rw [h.waiting]; simp)) h.ident h.reverify
      hr he

/-! ### The events of alerts, polls and settling -/

theorem exec_alertAsserted (h : (s.bay i).state.traffic = true) : exec (.alertAsserted i) s =
    .next ((withTraffic s i { (s.bay i).traffic with alert := true }).arbitrate i).closeEvent :=
  (congrArg Host.Outcome.next (if_pos h)).trans
    (congrArg (fun u : State => Host.Outcome.next (u.arbitrate i).closeEvent)
      (onTraffic_withTraffic s i fun t => { t with alert := true }))

/-- The traffic of a bay whose poll timer expired (R17, R18). -/
def pollDue (s : State) (t : Traffic) : Traffic :=
  { t with pollTimer := (pollPeriod s.policy s.ctl.mode).map Timer.start
           round := some (t.round.getD 0) }

theorem exec_pollTimer (h : (s.bay i).traffic.pollTimer.isSome = true) :
    exec (.pollTimerExpiry i) s =
      .next ((withTraffic s i (pollDue s (s.bay i).traffic)).arbitrate i).closeEvent :=
  (congrArg Host.Outcome.next (if_pos h)).trans
    (congrArg (fun u : State => Host.Outcome.next (u.arbitrate i).closeEvent)
      (onTraffic_withTraffic s i (pollDue s)))

theorem exec_settleTimer (hs : (s.bay i).state = .seated)
    (ht : (s.bay i).timerRuns .settle = true) : exec (.settleTimerExpiry i) s =
      .next ((s.enterIdentifying i).arbitrate i).closeEvent :=
  congrArg Host.Outcome.next (if_pos (by simp [hs, ht]))

theorem Serves.busy (h : t.bus.isSome = true) : Serves s i t t :=
  arbitrate_busy (by rw [withTraffic_bay]; exact h)

/-- The end of an event that changed one bay's traffic alone. -/
theorem Serves.ends {t' : Traffic} {c : Instr} (h : Serves s i t t') (hd : s.due = none)
    (hc : exec c s = .next ((withTraffic s i t).arbitrate i).closeEvent) :
    exec c s = .next (withTraffic s i t') := by
  rw [hc, h, withTraffic_closes hd]

/-- The traffic of a bay with nothing else waiting, before its own read is followed by another. -/
theorem rounding_of (hw : (s.bay i).traffic.waiting = []) (ha : (s.bay i).traffic.alert = false)
    (hi : (s.bay i).traffic.ident = none) (hr : (s.bay i).traffic.reverify = none) (n : Nat)
    (b : Bool) : Rounding { (s.bay i).traffic with bus := none, failures := n, tripRaised := b } :=
  ⟨rfl, ha, hw, hi, hr⟩

/-- A failed own read of no re-verification: a failure counted, the round ended if it was its last
read (R14, R18, R20). -/
theorem complete_ownFailed {x : Transaction} (hb : (s.bay i).traffic.bus = some x)
    (hn : (s.bay i).tripDeferred = false) {e : Ending} (he : ∀ d, e ≠ .ack d)
    (hf : (s.bay i).traffic.failures ≠ s.policy.lockoutLimit.get i) :
    (x.owner = .alert → s.complete i e = (withTraffic s i { (s.bay i).traffic with
      bus := none, failures := failuresAfter s i }).arbitrate i) ∧
    (x.owner = .poll → s.complete i e = (withTraffic s i (roundEnded s.policy
      { (s.bay i).traffic with bus := none, failures := failuresAfter s i })).arbitrate i) := by
  have b : (freed s i).bay i = _ := withTraffic_bay s i _
  constructor
  · intro ho
    have own : (freed s i).failed i x e.failure = freed s i := by rw [State.failed, ho]
    rw [complete_failed_short hb he own (by rw [b]; exact hn) (by rw [b]; exact hf), b]
    unfold failuresAfter freed
    rw [withTraffic_withTraffic, withTraffic_bay]
    rfl
  · intro ho
    have ended : (freed s i).failed i x e.failure = withTraffic s i (roundEnded s.policy
        { (s.bay i).traffic with bus := none }) := by
      rw [State.failed, ho]
      dsimp only
      rw [endRound_eq, b]
      exact withTraffic_withTraffic ..
    have same (k : Nat) : ({ roundEnded s.policy { (s.bay i).traffic with bus := none } with
        failures := k } : Traffic) = roundEnded s.policy { (s.bay i).traffic with
          bus := none, failures := k } := by
      unfold roundEnded
      dsimp only
      (repeat' split) <;> rfl
    have count : (roundEnded s.policy { (s.bay i).traffic with bus := none }).failures =
        (s.bay i).traffic.failures := by
      unfold roundEnded
      (repeat' split) <;> rfl
    rw [complete_failed_short hb he ended (by rw [withTraffic_bay]; exact hn)
      (by rw [withTraffic_bay, count]; exact hf), withTraffic_bay, withTraffic_withTraffic, same]
    unfold failuresAfter
    rw [withTraffic_bay, count]
    rfl

theorem polls_traffic {n : BayState} (h : n.polls = true) : n.traffic = true := by
  cases n <;> simp_all [BayState.polls, BayState.traffic]

/-! ### Alert and poll reads acknowledged -/

theorem handAlert_eq (s : State) (p : AlertPacket) :
    s.handAlert p = { s with link := (s.handAlert p).link } := by
  unfold State.handAlert
  rw [transmit_eq]
  rfl

theorem handAlert_link {w : State} (hl : w.link = s.link) (hr : w.lines.resetN = s.lines.resetN)
    (p : AlertPacket) : (w.handAlert p).link = (s.handAlert p).link := by
  have sent (x : State) : (x.handAlert p).link =
      if x.lines.resetN && x.link.sending.isNone
      then ({ x.link with alerts := placeAlert p x.link.alerts } : Link).choose
      else { x.link with alerts := placeAlert p x.link.alerts } := by
    unfold State.handAlert State.transmit
    split
    next h => exact (if_pos h).symm
    next h => exact (if_neg h).symm
  rw [sent, sent, hl, hr]

theorem counted_bay (s : State) (i : BayId) : (counted s i).bay i = { s.bay i with
    traffic := { (s.bay i).traffic with bus := none, failures := 0, tripRaised := false } } :=
  withTraffic_bay s i _

theorem counted_event (hd : s.due = none) (hn : s.NoTrips) : BayEvent s i (counted s i) :=
  (BayEvent.refl hd hn).onTraffic fun _ => _

/-- The state of an alert read acknowledged, before the arbiter looks (R14). -/
theorem alertRead_eq (s : State) (i : BayId) (data : List Byte) : s.alertRead i data =
    { s.snoop i .alarms data with
      link := if s.link.alertForwarding then ((s.snoop i .alarms data).handAlert
        ⟨i, BitVec.ofNat 16 (snoopValue data)⟩).link else (s.snoop i .alarms data).link } := by
  unfold State.alertRead
  dsimp only
  split
  · rw [handAlert_eq]
  · rfl

/-- A bay's own event that left its traffic with nothing to go (R12). -/
theorem BayEvent.rests (h : BayEvent s i u) (ht : Rounding (u.bay i).traffic)
    (hr : (u.bay i).traffic.round = none) : u.arbitrate i = u :=
  ht.nothing hr rfl (noTrips_bay h.noTrips i)

theorem TrafficLeft.rounding {y z : Bay} (h : TrafficLeft y z) (hy : Rounding y.traffic) :
    Rounding z.traffic := by
  rw [h.traffic]
  exact ⟨hy.bus, hy.alert, hy.waiting, hy.ident, hy.reverify⟩

theorem TrafficLeft.round {y z : Bay} (h : TrafficLeft y z) :
    z.traffic.round = y.traffic.round := by rw [h.traffic]

theorem TrafficLeft.failures {y z : Bay} (h : TrafficLeft y z) :
    z.traffic.failures = y.traffic.failures := by rw [h.traffic]

/-- The record of an alarm word read, whatever the bay manager makes of it (R29). -/
theorem snoop_alarms_record (hi : (s.bay i).record.identity.isSome = true) :
    ((s.snoop i .alarms data).bay i).record.alarms =
      some ⟨BitVec.ofNat 4 (snoopValue data), s.uptime⟩ := by
  by_cases h : Inhibits s i .alarms (BitVec.ofNat 4 (snoopValue data))
  · rw [(snoop_inhibits hi h).record]
    rfl
  · rw [snoop_written hi h]
    rfl

/-- An alert read acknowledged: its snoop, and what the link holds after its packet (R14, R190;
log 25). -/
theorem alertRead_ends {x : Transaction} (hd : s.due = none) (hn : s.NoTrips)
    (hb : (s.bay i).traffic.bus = some x) (ho : x.owner = .alert) (hx : x.write = false)
    (hl : data.length = x.size.bytes)
    (hq : Rounding { (s.bay i).traffic with bus := none, failures := 0, tripRaised := false })
    (hr : (s.bay i).traffic.round = none) : ∃ u : State,
      BayEvent s i u ∧
      exec (.transactionCompletion i (.own (.ack data))) s = .next u.closeEvent ∧
      u.bay i = ((counted s i).snoop i .alarms data).bay i ∧
      u.link = if s.link.alertForwarding
        then (s.handAlert ⟨i, BitVec.ofNat 16 (snoopValue data)⟩).link else s.link := by
  let w := (counted s i).snoop i .alarms data
  have event : BayEvent s i w := (counted_event hd hn).snoop _ _
  have link : w.link = s.link := by simp [w, counted, withTraffic]
  have lines : w.lines.resetN = s.lines.resetN := by simp [w, counted, withTraffic]
  let u : State := { w with link := if s.link.alertForwarding
    then (s.handAlert ⟨i, BitVec.ofNat 16 (snoopValue data)⟩).link else s.link }
  have read : (counted s i).alertRead i data = u := by
    rw [alertRead_eq, handAlert_link link lines]
    change ({ w with link := _ } : State) = _
    rw [link]
    rfl
  have eu : BayEvent s i u := event.sent _
  have left : TrafficLeft ((counted s i).bay i) (w.bay i) :=
    snoop_traffic (by rw [counted_bay]; exact hq.ident)
  rw [counted_bay] at left
  have idle : u.arbitrate i = u := eu.rests (left.rounding hq) (left.round.trans hr)
  have run := complete_acknowledged hb (noTrips_bay hn i) data (u := u) (by
    rw [hx, exactly_length hl, State.acknowledged, ho]
    exact read) (noTrips_bay eu.noTrips i)
  exact ⟨u, eu, congrArg (fun v : State => Host.Outcome.next v.closeEvent) (run.trans idle), rfl,
    rfl⟩

/-- A poll read that takes the re-admission test (R36, R37). -/
def Retests (s : State) (i : BayId) (f : SnoopField) : Prop :=
  f = .temperature ∧ (s.bay i).record.identity.isSome = true ∧ s.motion.guard = .calm

/-- A poll read acknowledged, before the round goes on. -/
def polled (s : State) (i : BayId) (f : SnoopField) (data : List Byte) : State :=
  let w := (counted s i).snoop i f data
  if f = .temperature && (s.bay i).record.identity.isSome && !guardActive s then
    w.readmissionTest i
  else w

theorem polled_event (hd : s.due = none) (hn : s.NoTrips) : BayEvent s i (polled s i f data) := by
  have w := (counted_event (i := i) hd hn).snoop f data
  unfold polled
  dsimp only
  split
  · exact w.readmissionTest
  · exact w

theorem polled_left (hi : (s.bay i).traffic.ident = none) :
    TrafficLeft ((counted s i).bay i) ((polled s i f data).bay i) := by
  have w : TrafficLeft ((counted s i).bay i) (((counted s i).snoop i f data).bay i) :=
    snoop_traffic (by rw [counted_bay]; exact hi)
  have hw : (((counted s i).snoop i f data).bay i).traffic.ident = none := by
    rw [w.traffic, counted_bay]
    exact hi
  unfold polled
  dsimp only
  split
  · exact w.trans (readmissionTest_traffic hw)
  · exact w

theorem polled_link (s : State) (i : BayId) (f : SnoopField) (data : List Byte) :
    (polled s i f data).link = s.link := by
  unfold polled
  dsimp only
  split <;> simp [counted, withTraffic]

theorem complete_polled {x : Transaction} (hd : s.due = none) (hn : s.NoTrips)
    (hb : (s.bay i).traffic.bus = some x) (ho : x.owner = .poll) (hx : x.write = false)
    (hl : data.length = x.size.bytes) : s.complete i (.ack data) =
      (withTraffic (polled s i x.snoop data) i (roundEnded s.policy
        ((polled s i x.snoop data).bay i).traffic)).arbitrate i := by
  have event := polled_event (i := i) (f := x.snoop) (data := data) hd hn
  have policy : (polled s i x.snoop data).policy = s.policy := event.work.policy
  have read : (counted s i).pollRead i x.snoop data = (polled s i x.snoop data).endRound i := by
    unfold State.pollRead polled
    rw [counted_bay]
    rfl
  refine complete_acknowledged hb (noTrips_bay hn i) data ?_
    (by rw [withTraffic_bay]; exact noTrips_bay event.noTrips i)
  rw [hx, exactly_length hl, State.acknowledged, ho]
  exact read.trans ((endRound_eq _ i).trans (by rw [policy]))

theorem readmissionPasses_written (p : Policy) (r : PackRecord) (now v : Nat) :
    readmissionPasses p (r.writeField now v .temperature) = true ↔
      ∃ e, classLimits p r = some e ∧
        e.dMin.toInt + 20 ≤ min 1250 (max (-400) (BitVec.ofNat 16 v).toInt) ∧
        min 1250 (max (-400) (BitVec.ofNat 16 v).toInt) ≤ e.dMax.toInt - 20 := by
  have limits : classLimits p (r.writeField now v .temperature) = classLimits p r := rfl
  unfold readmissionPasses
  rw [limits]
  cases classLimits p r with
  | none => simp
  | some e =>
    simp only [presentWithinInt, PackRecord.writeField, Bool.and_eq_true, decide_eq_true_eq,
      Option.some.injEq, exists_eq_left']
    rfl

theorem polled_absent (h : (s.bay i).record.identity = none) :
    polled s i f data = counted s i := by
  unfold polled
  rw [h, snoop_none _ _ (.inr (by rw [counted_bay]; exact h))]
  exact if_neg (by simp)

/-- The condition of a re-admission at a poll read (R36, R37). -/
def PollReadmits (s : State) (i : BayId) (f : SnoopField) (data : List Byte) : Prop :=
  f = .temperature ∧ s.motion.guard = .calm ∧ (s.bay i).state = .quarantined ∧
    (s.bay i).record.outcome = .tempOut ∧
    readmissionPasses s.policy (snoopedRecord s i f data) = true

theorem counted_snooped (hi : (s.bay i).record.identity.isSome = true) (ha : f ≠ .alarms) :
    ((counted s i).snoop i f data).bay i =
      { (counted s i).bay i with record := snoopedRecord s i f data } := by
  rw [snoop_written (by rw [counted_bay]; exact hi) (fun h => ha h.1)]
  unfold snoopedRecord
  rw [counted_bay]
  rfl

theorem counted_snoop_readmits (hi : (s.bay i).record.identity.isSome = true) :
    Readmits ((counted s i).snoop i .temperature data) i ↔ (s.bay i).state = .quarantined ∧
      (s.bay i).record.outcome = .tempOut ∧
      readmissionPasses s.policy (snoopedRecord s i .temperature data) = true := by
  have policy : ((counted s i).snoop i .temperature data).policy = s.policy := by
    simp [counted, withTraffic]
  unfold Readmits
  rw [counted_snooped hi (by decide), policy, counted_bay]
  rfl

theorem polled_kept (hi : (s.bay i).record.identity.isSome = true) (ha : f ≠ .alarms)
    (h : ¬ PollReadmits s i f data) :
    polled s i f data = (counted s i).snoop i f data := by
  unfold polled
  dsimp only
  split
  next hc =>
    simp only [Bool.and_eq_true, decide_eq_true_eq, Bool.not_eq_true'] at hc
    obtain ⟨⟨rfl, -⟩, hg⟩ := hc
    exact readmissionTest_kept fun hr => h ⟨rfl, guardActive_iff.1 hg,
      (counted_snoop_readmits hi).1 hr⟩
  · rfl

theorem polled_readmits (hi : (s.bay i).record.identity.isSome = true)
    (h : PollReadmits s i f data) :
    polled s i f data = ((counted s i).snoop i f data).takeCheck i := by
  obtain ⟨rfl, hg, hr⟩ := h
  unfold polled
  rw [if_pos (by simp [hi, guardActive_iff.2 hg])]
  exact readmissionTest_taken ((counted_snoop_readmits hi).2 hr)

theorem polled_check (hi : (s.bay i).record.identity.isSome = true) (ha : f ≠ .alarms) :
    checkOf ((counted s i).snoop i f data) i = admissionCheck s.policy
      (s.bay (otherBay i)).record.identity (snoopedRecord s i f data) := by
  have policy : ((counted s i).snoop i f data).policy = s.policy := by simp [counted, withTraffic]
  have other : (((counted s i).snoop i f data).bay (otherBay i)).record =
      (s.bay (otherBay i)).record := by
    by_cases hf : f = .none
    · subst hf
      rw [snoop_none _ _ (.inl rfl), counted, withTraffic_bay_ne (otherBay_ne i)]
    · rw [snoop_field data hf (by rw [counted_bay]; exact hi) ha,
        writeRecord_bay_ne (otherBay_ne i), counted, withTraffic_bay_ne (otherBay_ne i)]
  unfold checkOf
  rw [policy, other, counted_snooped hi ha]

/-- The record and the state that a poll read leaves (R18, R19, R36). -/
theorem polled_record (hi : (s.bay i).record.identity.isSome = true) (ha : f ≠ .alarms) :
    let z := (polled s i f data).bay i
    let a := admissionCheck s.policy (s.bay (otherBay i)).record.identity
      (snoopedRecord s i f data)
    (¬ PollReadmits s i f data → z.record = snoopedRecord s i f data ∧
      z.state = (s.bay i).state) ∧
    (PollReadmits s i f data → z.record = { snoopedRecord s i f data with outcome := a.2 } ∧
      z.state = a.1) := by
  dsimp only
  constructor
  · intro h
    rw [polled_kept hi ha h, counted_snooped hi ha, counted_bay]
    exact ⟨rfl, rfl⟩
  · intro h
    have b := takeCheck_bay ((counted s i).snoop i f data) i
    rw [polled_check hi ha, counted_snooped hi ha] at b
    rw [polled_readmits hi h]
    exact ⟨b.record, b.state⟩

theorem polled_outcome (s : State) (i : BayId) (f : SnoopField) (data : List Byte) :
    let z := (polled s i f data).bay i
    let a := admissionCheck s.policy (s.bay (otherBay i)).record.identity
      (snoopedRecord s i f data)
    ((s.bay i).record.identity = none →
      z.record = (s.bay i).record ∧ z.state = (s.bay i).state) ∧
    ((s.bay i).record.identity.isSome = true → f ≠ .alarms →
      (¬ PollReadmits s i f data → z.record = snoopedRecord s i f data ∧
        z.state = (s.bay i).state) ∧
      (PollReadmits s i f data → z.record = { snoopedRecord s i f data with outcome := a.2 } ∧
        z.state = a.1)) := by
  refine ⟨fun h => ?_, fun hi ha => polled_record hi ha⟩
  rw [polled_absent h, counted_bay]
  exact ⟨rfl, rfl⟩

/-- The condition of a re-admission, on the temperature read (R36). -/
theorem pollReadmits_iff (s : State) (i : BayId) (f : SnoopField) (data : List Byte) :
    PollReadmits s i f data ↔ f = .temperature ∧ s.motion.guard = .calm ∧
      (s.bay i).state = .quarantined ∧ (s.bay i).record.outcome = .tempOut ∧
      ∃ e, classLimits s.policy (s.bay i).record = some e ∧
        e.dMin.toInt + 20 ≤ min 1250 (max (-400) (BitVec.ofNat 16 (snoopValue data)).toInt) ∧
        min 1250 (max (-400) (BitVec.ofNat 16 (snoopValue data)).toInt) ≤
          e.dMax.toInt - 20 := by
  rw [← readmissionPasses_written s.policy (s.bay i).record s.uptime (snoopValue data)]
  constructor
  · rintro ⟨hf, hg, hs, hc, hp⟩
    exact ⟨hf, hg, hs, hc, by rw [snoopedRecord, hf] at hp; exact hp⟩
  · rintro ⟨hf, hg, hs, hc, hp⟩
    exact ⟨hf, hg, hs, hc, by rw [snoopedRecord, hf]; exact hp⟩

/-- The end of a poll read's event. -/
theorem polled_closes (hd : s.due = none) (hn : s.NoTrips) (t : Traffic) :
    let u := (withTraffic (polled s i f data) i t).closeEvent
    (u = { s with
      bays := u.bays, supply := u.supply, back := u.back, flags := u.flags, link := u.link
      drop := { s.drop with parkPin := u.drop.parkPin } } ∧
    (u.bay (otherBay i)).state = (s.bay (otherBay i)).state ∧
    (u.bay (otherBay i)).record = (s.bay (otherBay i)).record ∧
    (u.bay (otherBay i)).traffic = (s.bay (otherBay i)).traffic) ∧
    u.link = s.link ∧ (u.bay i).traffic = t ∧
    (u.bay i).record = ((polled s i f data).bay i).record ∧
    (u.bay i).state = ((polled s i f data).bay i).state := by
  obtain ⟨rest, link, still⟩ :=
    ((polled_event (i := i) (f := f) (data := data) hd hn).onTraffic fun _ => t).closes hd
  rw [onTraffic_bay] at still
  exact ⟨rest, link.trans (polled_link s i f data), still.traffic, still.record, still.state⟩

end

/-- Settles O49, event by event. -/
theorem alertsPollsAndSettles : Obligations.AlertsPollsAndSettles := by
  unfold Obligations.AlertsPollsAndSettles
  intro s i hd y free limit own traffic poll only
  have noWait (t : Traffic) (h : t.waiting = []) : ∀ r ∈ t.waiting,
      s.holdMask.getLsbD r.cls = true := by rw [h]; simp
  refine ⟨fun h => congrArg Host.Outcome.next (if_neg (by simp [show (s.bay i).state.traffic = _ from h])),
    fun h hb => ?_, fun h hf e he => ?_, fun level => ?_,
    fun h => congrArg Host.Outcome.next (if_neg (by simp [show (s.bay i).traffic.pollTimer = _ from h])),
    fun h hb => ?_, fun h hr hf ha hi hv n e he => ?_, fun h => ?_, fun hs ht hf ha hn => ?settle,
    fun x hb hn hx hw ha hi hv => ⟨fun hl => ?failing, fun data hlen => ?acked⟩⟩
  · exact Serves.ends (.busy (t := { y.traffic with alert := true }) hb) hd (exec_alertAsserted h)
  · obtain ⟨hb, ht, hw⟩ := hf
    exact Serves.ends (Served.alert (t := { y.traffic with alert := true }) ⟨hb, h, ht⟩ rfl he) hd
      (exec_alertAsserted h)
  · refine congrArg Host.Outcome.next ?_
    by_cases h : level = true ∧ s.lines.parkAck = false ∧ hasAction s.drop.inForce .park = true
    · rw [if_pos h]
      exact if_pos (by simp [h])
    · rw [if_neg h]
      exact if_neg (by simpa [and_assoc] using h)
  · exact Serves.ends (.busy (t := pollDue s y.traffic) hb) hd (exec_pollTimer h)
  · obtain ⟨hb, ht, hw⟩ := hf
    exact Serves.ends (Served.poll (t := pollDue s y.traffic) ⟨hb, hr, ht⟩ ha
      (.inl (noWait _ hw)) hi hv rfl he) hd (exec_pollTimer h)
  · refine congrArg Host.Outcome.next (if_neg ?_)
    obtain h | h := h
    · simp [show (s.bay i).state ≠ _ from h]
    · simp [show (s.bay i).timerRuns .settle = _ from h]
  case settle =>
    obtain ⟨hb, htr, hw⟩ := hf
    have run := exec_settleTimer hs ht
    have bay := enterIdentifying_bay s i
    have event := (BayEvent.refl (i := i) hd hn).enterIdentifying
    have policy : (s.enterIdentifying i).policy = s.policy := event.work.policy
    have link : (s.enterIdentifying i).link = s.link := by simp
    obtain ⟨kw, kb, -⟩ := onMove_traffic s.policy s.ctl.mode y.state .identifying y.traffic
    obtain ⟨ka, -, kv, kr⟩ := onMove_kinds s.policy s.ctl.mode y.state .identifying y.traffic
    have left := bay.traffic
    have looks : Looks (s.enterIdentifying i) i :=
      ⟨by rw [left]; exact kb.trans hb, by rw [bay.state]; rfl, noTrips_bay event.noTrips i⟩
    have alert : ((s.enterIdentifying i).bay i).traffic.alert = false := by
      rw [left]
      exact ka.trans ha
    have waiting : ((s.enterIdentifying i).bay i).traffic.waiting = [] := by
      rw [left]
      exact kw.trans hw
    have ident : ((s.enterIdentifying i).bay i).traffic.ident = some .first := by rw [left]; rfl
    refine ⟨fun e he => ?_, fun he hv hr => ?_⟩
    · have serves := Served.ident (s := s.enterIdentifying i) (i := i) ⟨looks.bus, looks.runs, looks.trip⟩
        alert (.inl (by rw [waiting]; simp)) ident (by rw [policy]; exact he)
      rw [serves.arbitrate rfl, policy] at run
      obtain ⟨only', link', still⟩ := (event.onTraffic fun _ => _).closes hd
      have still' := still
      rw [onTraffic_bay] at still'
      refine ⟨_, run, only', link'.trans link, still'.state.trans bay.state,
        still'.timer.trans bay.timer, still'.record.trans bay.record, ?_, ?_⟩
      · exact (congrArg Traffic.bus still'.traffic :)
      · exact (congrArg Traffic.ident still'.traffic :).trans ident
    · have ends := incomplete_ends looks event.noTrips bay.state alert waiting ident
        (by rw [policy]; exact he) (by rw [left]; exact kv.trans hv) (by rw [left]; exact kr)
      have incomplete := arbitrate_incomplete looks alert waiting ident
        (by rw [policy]; exact he) (by rw [left]; exact kv.trans hv) (by rw [left]; exact kr)
      obtain ⟨only', link', -⟩ := event.tableIncomplete.closes hd
      dsimp only at ends
      rw [incomplete] at run ends
      obtain ⟨state, record, hid, hbus, -⟩ := ends
      exact ⟨_, run, only', link'.trans (by simp), state, by rw [record], hid, hbus⟩
  case failing =>
    intro more fails
    have both := fun (e : Ending) (he : ∀ d, e ≠ .ack d) =>
      complete_ownFailed hb (noTrips_bay hn i) he hl
    have ends {t t' : Traffic}
        (run : ∀ e : Ending, (∀ d, e ≠ .ack d) →
          s.complete i e = (withTraffic s i t).arbitrate i)
        (serves : (withTraffic s i t).arbitrate i =
          withTraffic s i { t' with failures := more }) : fails t' := by
      have closed {e : Ending} (he : ∀ d, e ≠ .ack d) : (s.complete i e).closeEvent =
          withTraffic s i { t' with failures := more } := by
        rw [run e he, serves, withTraffic_closes hd]
      exact ⟨congrArg Host.Outcome.next (closed (by simp [endingOf])), fun h0 =>
        (exec_limitExpiry hb h0).trans (congrArg Host.Outcome.next (closed (by simp)))⟩
    have quiet : Rounding { y.traffic with bus := none, failures := more } :=
      ⟨rfl, ha, hw, hi, hv⟩
    refine ⟨fun ho hr => ends (fun e he => (both e he).1 ho) (quiet.nothing hr
      (Served.traffic _) (by rw [withTraffic_bay]; exact noTrips_bay hn i)), fun n ho hr hp => ?_⟩
    obtain ⟨last, next⟩ := quiet.next (u := s) (i := i) hr (polls_traffic hp) (noTrips_bay hn i)
    exact ⟨fun he => ends (fun e he => (both e he).2 ho) (last he),
      fun k e he => ends (fun e he => (both e he).2 ho) (next k e he)⟩
  case acked =>
    have quiet : Rounding { y.traffic with bus := none, failures := 0, tripRaised := false } :=
      ⟨rfl, ha, hw, hi, hv⟩
    refine ⟨fun ho hr => ?_, fun n ho hr hp => ?_⟩
    · obtain ⟨u, event, run, bay, link⟩ := alertRead_ends hd hn hb ho hx hlen quiet hr
      obtain ⟨only', link', still⟩ := event.closes hd
      have left : TrafficLeft ((counted s i).bay i)
          (((counted s i).snoop i .alarms data).bay i) :=
        snoop_traffic (by rw [counted_bay]; exact hi)
      rw [← bay, counted_bay] at left
      refine ⟨_, run, only', ?_, ?_, link'.trans link, fun hid => ?_, fun hid => ?_⟩
      · rw [still.traffic]
        exact (left.rounding quiet).bus
      · rw [still.traffic]
        exact left.failures
      · rw [still.record, bay, snoop_none _ _ (.inr (by rw [counted_bay]; exact hid)), counted_bay]
      · rw [still.record, bay, snoop_alarms_record (by rw [counted_bay]; exact hid)]
        rfl
    · have event := polled_event (i := i) (f := x.snoop) (data := data) hd hn
      have policy : (polled s i x.snoop data).policy = s.policy := event.work.policy
      have left := polled_left (s := s) (i := i) (f := x.snoop) (data := data) hi
      rw [counted_bay] at left
      have run : exec (.transactionCompletion i (.own (.ack data))) s = _ :=
        congrArg (fun v : State => Host.Outcome.next v.closeEvent)
          (complete_polled hd hn hb ho hx hlen)
      obtain ⟨last, next⟩ := (left.rounding quiet).next (u := polled s i x.snoop data) (i := i)
        (left.round.trans hr) (polls_traffic (left.polls hp)) (noTrips_bay event.noTrips i)
      rw [policy] at last next
      have outcome := polled_outcome s i x.snoop data
      dsimp only at outcome
      rw [pollReadmits_iff] at outcome
      have claims (t' : Traffic) := polled_closes (i := i) (f := x.snoop) (data := data) hd hn t'
      cases he : nextPoll n s.policy.commands with
      | none =>
        rw [last he] at run
        obtain ⟨only', link', traffic', record', state'⟩ := claims _
        refine ⟨_, run, only', link', by rw [traffic']; exact left.failures, fun _ => ?_, nofun, ?_⟩
        · rw [traffic']
          exact ⟨(left.rounding quiet).bus, rfl⟩
        · rw [record', state']
          exact outcome
      | some p =>
        obtain ⟨k, e⟩ := p
        rw [next k e he] at run
        obtain ⟨only', link', traffic', record', state'⟩ := claims _
        refine ⟨_, run, only', link', by rw [traffic']; exact left.failures, nofun, fun k' e' h' => ?_, ?_⟩
        · obtain ⟨rfl, rfl⟩ : k = k' ∧ e = e' := by simpa using h'
          rw [traffic']
          exact ⟨rfl, rfl⟩
        · rw [record', state']
          exact outcome

end Sys2Proof.Proofs
end

section
/-!
PROOFS. The end of a host request's transaction (R1, R2, R8 to R12, R19 to R22, R26, R29, R49, R52,
R53).
-/

namespace Sys2Proof.Proofs
open Sys2Proof.Machine

/-! ### What a snoop writes (R19, R29) -/

theorem alarmEndOfDischarge_eq (w : BitVec 4) : alarmEndOfDischarge w = w.getLsbD 1 := by
  revert w
  decide

theorem alarmOverCharge_eq (w : BitVec 4) : alarmOverCharge w = w.getLsbD 2 := by
  revert w
  decide

theorem writePct_eq (r : PackRecord) (now v : Nat) : r.writeField now v .chargePct = { r with
    chargePct := some ⟨min 100 v, now⟩
    depleted := r.depleted && (decide (min 100 v < 10) || r.alarmWord.getLsbD 1) } := by
  have e : r.writeField now v .chargePct = { r with
    chargePct := some ⟨min v 100, now⟩
    depleted := r.depleted && !(decide (10 ≤ min v 100) && !alarmEndOfDischarge r.alarmWord) } := rfl
  rw [e, alarmEndOfDischarge_eq, min_comm v 100]
  have : (!(decide (10 ≤ min 100 v) && !r.alarmWord.getLsbD 1)) =
      (decide (min 100 v < 10) || r.alarmWord.getLsbD 1) := by
    simp only [Bool.not_and, Bool.not_not, ← decide_not, Nat.not_le]
  rw [this]

theorem writeAlarms_eq (r : PackRecord) (now v : Nat) : r.writeField now v .alarms = { r with
    alarms := some ⟨BitVec.ofNat 4 v, now⟩
    depleted := r.depleted || (BitVec.ofNat 4 v).getLsbD 1
    chargeStop := (BitVec.ofNat 4 v).getLsbD 2 } := by
  rw [← alarmEndOfDischarge_eq, ← alarmOverCharge_eq]
  rfl

section
variable {s t u : State} {i : BayId} {r : HostRequest} {x : Transaction} {data : List Byte}

/-! ### The response of a host request -/

theorem respond_link (hl : t.link = s.link) (hr : t.lines.resetN = s.lines.resetN)
    (q : Response) : (t.respond q).link = (s.respond q).link := by
  have full (w : State) (h : 8 ≤ w.link.responses.length) : (w.respond q).link = w.link := by
    rw [respond_full q h]
    rfl
  have room (w : State) (h : ¬ 8 ≤ w.link.responses.length) : (w.respond q).link =
      if w.lines.resetN && w.link.sending.isNone
      then ({ w.link with responses := w.link.responses ++ [q] } : Link).choose
      else { w.link with responses := w.link.responses ++ [q] } := by
    refine (congrArg State.link (if_neg h)).trans ?_
    unfold State.transmit
    split
    next h => exact (if_pos h).symm
    next h => exact (if_neg h).symm
  by_cases h : 8 ≤ s.link.responses.length
  · rw [full s h, full t (by rw [hl]; exact h), hl]
  · rw [room s h, room t (by rw [hl]; exact h), hl, hr]

/-- A response of a state that the transmitter cannot tell from another. -/
theorem respond_of_same (h : SameLink s t) (q : Response) : t.respond q = { t with
    link := (s.respond q).link
    flags := { t.flags with hub := (s.respond q).flags.hub } } := by
  have g := respond_sameLink h q
  rw [respond_eq, g.link, g.hub]

theorem respond_withTraffic (s : State) (i : BayId) (t : Traffic) (q : Response) :
    (withTraffic s i t).respond q = withTraffic (s.respond q) i t := by
  refine (respond_of_same (s := s) (t := withTraffic s i t) ⟨rfl, rfl, rfl⟩ q).trans ?_
  exact (congrArg (fun w => withTraffic w i t) (respond_eq s q)).symm

theorem BayEvent.respond (h : BayEvent s i t) (q : Response) : BayEvent s i (t.respond q) := by
  have link : BayEvent s i { t with link := (t.respond q).link } := h.sent _
  rw [respond_eq]
  exact ⟨(congrArg (fun w : State => { w with flags := s.flags }) link.work :), link.ctl, link.due,
    link.other, link.noTrips⟩

/-! ### A transaction of a host request that ends -/

/-- With nothing waiting the arbiter does nothing, on any bus and with any deferral. -/
theorem arbitrate_quiet (ha : (s.bay i).traffic.alert = false) (hw : (s.bay i).traffic.waiting = [])
    (hm : (s.bay i).traffic.maintains = false) : s.arbitrate i = s := by
  cases hb : arbiterBlocked s i with
  | true => exact arbitrate_blocked hb
  | false =>
    obtain ⟨hd, hv, hn⟩ : (s.bay i).traffic.ident = none ∧ (s.bay i).traffic.reverify = none ∧
        (s.bay i).traffic.round = none := by
      simpa [Traffic.maintains, and_assoc] using hm
    have once : s.arbitrateOnce i = (s, true) := by
      simp only [State.arbitrateOnce, hb, ha, hw, takeEligible, State.serveMaintenance, hd, hv, hn]
      rfl
    rw [arbitrate_eq, once]
    exact if_pos rfl

/-- The event `c` ends the host request on the bus with the response `q`: `n` and `b` are the failure
count and the trip raised after it, and then the arbiter looks. -/
def Concludes (s : State) (i : BayId) (c : Instr) (q : Response) (n : Nat) (b : Bool) : Prop :=
  exec c s = .next ((withTraffic (s.respond q) i { (s.bay i).traffic with
    bus := none, failures := n, tripRaised := b }).arbitrate i).closeEvent

theorem respond_noTrip (q : Response) : ((s.respond q).bay i).tripDeferred =
    (s.bay i).tripDeferred := by rw [respond_bay]

theorem counted_respond (s : State) (i : BayId) (q : Response) : (counted s i).respond q =
    withTraffic (s.respond q) i
      { (s.bay i).traffic with bus := none, failures := 0, tripRaised := false } :=
  respond_withTraffic ..

theorem concludes_write (hb : (s.bay i).traffic.bus = some x) (ho : x.owner = .host r true)
    (hx : x.write = true) (hn : (s.bay i).tripDeferred = false) (data : List Byte) :
    Concludes s i (.transactionCompletion i (.own (.ack data))) (hostResponse i r .ok []) 0
      false := by
  have run := complete_acknowledged hb hn data (u := (counted s i).respond (hostResponse i r .ok []))
    (by
      rw [State.acknowledged, ho, hx]
      rfl) (by rw [respond_noTrip, counted_bay]; exact hn)
  rw [counted_respond] at run
  exact congrArg (fun v : State => Host.Outcome.next v.closeEvent) run

/-- A read whose snoop writes nothing. -/
theorem concludes_read (hb : (s.bay i).traffic.bus = some x) (ho : x.owner = .host r true)
    (hx : x.write = false) (hn : (s.bay i).tripDeferred = false)
    (hl : data.length = x.size.bytes)
    (hf : x.snoop = .none ∨ (s.bay i).record.identity = none) :
    Concludes s i (.transactionCompletion i (.own (.ack data))) (hostResponse i r .ok data) 0
      false := by
  have run := complete_acknowledged hb hn data (u := (counted s i).respond (hostResponse i r .ok data))
    (by
      rw [State.acknowledged, ho, hx, exactly_length hl, snoop_none _ _ (by rw [counted_bay]; exact hf)]
      rfl) (by rw [respond_noTrip, counted_bay]; exact hn)
  rw [counted_respond] at run
  exact congrArg (fun v : State => Host.Outcome.next v.closeEvent) run

theorem freed_bay (s : State) (i : BayId) : (freed s i).bay i = { s.bay i with
    traffic := { (s.bay i).traffic with bus := none } } := withTraffic_bay s i _

/-- A failed host request is answered, unless it was discarded. -/
theorem failed_host {b : Bool} (ho : x.owner = .host r b) (e : Answer) :
    (freed s i).failed i x e = withTraffic
      (if b then s.respond (hostResponse i r e []) else s) i
      { (s.bay i).traffic with bus := none } := by
  have own : (freed s i).failed i x e =
      if b then (freed s i).respond (hostResponse i r e []) else freed s i := by
    rw [State.failed, ho]
    rfl
  rw [own]
  cases b
  · rfl
  · exact respond_withTraffic ..

theorem complete_hostFailed {b : Bool} (hb : (s.bay i).traffic.bus = some x)
    (ho : x.owner = .host r b) (hn : (s.bay i).tripDeferred = false) {e : Ending}
    (he : ∀ d, e ≠ .ack d) (hf : (s.bay i).traffic.failures ≠ s.policy.lockoutLimit.get i) :
    s.complete i e = (withTraffic (if b then s.respond (hostResponse i r e.failure []) else s) i
      { (s.bay i).traffic with bus := none, failures := failuresAfter s i }).arbitrate i := by
  have policy : (if b then s.respond (hostResponse i r e.failure []) else s).policy = s.policy := by
    cases b
    · rfl
    · exact respond_policy _ _
  have bay : (if b then s.respond (hostResponse i r e.failure []) else s).bay i = s.bay i := by
    cases b
    · rfl
    · exact respond_bay _ _ _
  have policy' (t : Traffic) : (withTraffic (if b then s.respond (hostResponse i r e.failure [])
      else s) i t).policy = s.policy := policy
  rw [complete_failed_short hb he (failed_host ho _) (by rw [withTraffic_bay, bay]; exact hn)
    (by rw [withTraffic_bay, policy']; exact hf), withTraffic_withTraffic, withTraffic_bay]
  unfold failuresAfter
  rw [withTraffic_bay, policy']

theorem concludes_failed (hb : (s.bay i).traffic.bus = some x) (ho : x.owner = .host r true)
    (hn : (s.bay i).tripDeferred = false)
    (hf : (s.bay i).traffic.failures ≠ s.policy.lockoutLimit.get i) :
    Concludes s i (.transactionCompletion i (.own .nack)) (hostResponse i r .nack [])
      (failuresAfter s i) (s.bay i).traffic.tripRaised ∧
    (x.limit.left = 0 → Concludes s i (.transactionLimitExpiry i) (hostResponse i r .timeout [])
      (failuresAfter s i) (s.bay i).traffic.tripRaised) := by
  have both (e : Ending) (he : ∀ d, e ≠ .ack d) := complete_hostFailed hb ho hn he hf
  exact ⟨congrArg (fun v : State => Host.Outcome.next v.closeEvent) (both .nack (by simp)),
    fun hl => (exec_limitExpiry hb hl).trans
      (congrArg (fun v : State => Host.Outcome.next v.closeEvent) (both .timeout (by simp)))⟩

/-! ### What the arbiter grants next (R9 to R12) -/

/-- A bay's traffic after the end of a transaction, `n` and `b` its failure count and trip raised. -/
def afterEnd (n : Nat) (b : Bool) (t : Traffic) : Traffic :=
  { t with bus := none, failures := n, tripRaised := b }

/-- The grants that the arbiter may make to the traffic `t` of a bay whose transaction has ended, and
the work that it passes over: `goes` says where it ends, `again` from where it looks again. -/
structure Grants (p : Policy) (mask : BitVec 4) (t : Traffic) (goes again : Traffic → Prop) :
    Prop where
  alert : t.alert = true → ∀ e, p.ownEntry .alarms = some e →
    goes { t with alert := false, bus := some (ownTransaction p .alert e .alarms) }
  alertMissing : t.alert = true → p.ownEntry .alarms = none → again { t with alert := false }
  idle : t.alert = false → t.maintains = false →
    (∀ h ∈ t.waiting, mask.getLsbD h.cls = true) → goes { t with bus := none }
  request : t.alert = false → t.maintains = false ∨ t.lastServed = .maintenance →
    ∀ (before : List HostRequest) (q : HostRequest) (after : List HostRequest),
      t.waiting = before ++ q :: after → (∀ h ∈ before, mask.getLsbD h.cls = true) →
      mask.getLsbD q.cls = false →
      goes { t with waiting := before ++ after, lastServed := .host
                    bus := some (hostTransaction p q) }
  ident : t.alert = false → (∀ h ∈ t.waiting, mask.getLsbD h.cls = true) ∨ t.lastServed = .host →
    ∀ d e, t.ident = some d → p.ownEntry (identField d.next) = some e →
    goes { t with lastServed := .maintenance
                  bus := some (ownTransaction p (.identification d.next) e (identField d.next)) }
  reverify : t.alert = false →
    (∀ h ∈ t.waiting, mask.getLsbD h.cls = true) ∨ t.lastServed = .host → t.ident = none →
    ∀ dest e, t.reverify = some dest → p.ownEntry .serial = some e →
    goes { t with reverify := none, lastServed := .maintenance
                  bus := some (ownTransaction p (.reverify dest) e .serial) }
  poll : t.alert = false →
    (∀ h ∈ t.waiting, mask.getLsbD h.cls = true) ∨ t.lastServed = .host → t.ident = none →
    t.reverify = none → ∀ k m e, t.round = some k → nextPoll k p.commands = some (m, e) →
    goes { t with round := some (m + 1), lastServed := .maintenance
                  bus := some (ownTransaction p .poll e e.snoopField) }
  pollEnded : t.alert = false →
    (∀ h ∈ t.waiting, mask.getLsbD h.cls = true) ∨ t.lastServed = .host → t.ident = none →
    t.reverify = none → ∀ k, t.round = some k → nextPoll k p.commands = none →
    again { t with round := none }

theorem grants_afterEnd {n : Nat} {b : Bool} {t : Traffic} {goes again : Traffic → Prop}
    (hr : (u.bay i).state.traffic = true) (hn : (u.bay i).tripDeferred = false)
    (hg : ∀ t', Serves u i (afterEnd n b t) { t' with failures := n, tripRaised := b } → goes t')
    (ha : ∀ t', t'.bus = t.bus → t'.failures = t.failures → t'.tripRaised = t.tripRaised →
      (withTraffic u i (afterEnd n b t)).arbitrate i =
        (withTraffic u i (afterEnd n b t')).arbitrate i → again t') :
    Grants u.policy u.holdMask t goes again := by
  have served : Served u i (afterEnd n b t) := ⟨rfl, hr, hn⟩
  exact {
    alert := fun h e he => hg _ (served.alert h he)
    alertMissing := fun h he => ha _ rfl rfl rfl (served.alert_missing h he)
    idle := fun h hm hw => hg _ (served.idle h hw hm)
    request := fun h hm before q after hw hb hq => hg _ (served.request h hw hb hq hm)
    ident := fun h ht d e hd he => hg _ (served.ident h ht hd he)
    reverify := fun h ht hd dest e hv he => hg _ (served.reverify h ht hd hv he)
    poll := fun h ht hd hv k m e hk he => hg _ (served.poll h ht hd hv hk he)
    pollEnded := fun h ht hd hv k hk he =>
      ha _ rfl rfl rfl (served.poll_ended h ht hd hv hk he) }

theorem Concludes.goes {c : Instr} {q : Response} {n : Nat} {b : Bool} {t : Traffic}
    (h : Concludes s i c q n b) (hd : s.due = none)
    (hs : Serves (s.respond q) i (afterEnd n b (s.bay i).traffic) t) :
    exec c s = .next ((withTraffic s i t).respond q) := by
  have due : (s.respond q).due = none := by simpa using hd
  refine h.trans ?_
  rw [respond_withTraffic]
  exact congrArg Host.Outcome.next ((congrArg State.closeEvent hs).trans (withTraffic_closes due i t))

theorem Concludes.of_withTraffic {c : Instr} {q : Response} {n : Nat} {b : Bool} {t : Traffic}
    (h : Concludes (withTraffic s i t) i c q n b) : exec c (withTraffic s i t) =
      .next ((withTraffic (s.respond q) i (afterEnd n b t)).arbitrate i).closeEvent := by
  refine h.trans ?_
  rw [respond_withTraffic, withTraffic_withTraffic, withTraffic_bay]
  rfl

/-- What follows an event that ends the host request on the bus, whatever else its bay's traffic
holds. -/
theorem grants_of_concludes {c : Instr} {q : Response} {n : Nat} {b : Bool} (hd : s.due = none)
    (hr : (s.bay i).state.traffic = true) (hn : (s.bay i).tripDeferred = false)
    (h : ∀ t : Traffic, t.bus = (s.bay i).traffic.bus →
      t.failures = (s.bay i).traffic.failures → t.tripRaised = (s.bay i).traffic.tripRaised →
      Concludes (withTraffic s i t) i c q n b) :
    Grants s.policy s.holdMask (s.bay i).traffic
      (fun t => exec c s = .next ((withTraffic s i { t with
        failures := n, tripRaised := b }).respond q))
      (fun t => exec c s = exec c (withTraffic s i t)) := by
  have self : Concludes s i c q n b := by
    have := h (s.bay i).traffic rfl rfl rfl
    rwa [withTraffic_self] at this
  have policy : (s.respond q).policy = s.policy := respond_policy s q
  have mask : (s.respond q).holdMask = s.holdMask := by simp
  rw [← policy, ← mask]
  refine grants_afterEnd (n := n) (b := b) (by rw [respond_bay]; exact hr)
    (by rw [respond_bay]; exact hn) (fun t hs => self.goes hd hs) fun t hb hf ht hs => ?_
  rw [(h t hb hf ht).of_withTraffic]
  exact self.trans (congrArg (fun v : State => Host.Outcome.next v.closeEvent) hs)

/-! ### The failure at the limit (R21, R22, R51 to R53) -/

/-- The event `c` fails the host request on the bus at the limit, with the response `q`. -/
def FailsAtLimit (s : State) (i : BayId) (c : Instr) (q : Response) : Prop :=
  exec c s = .next (((((withTraffic (s.respond q) i { (s.bay i).traffic with
    bus := none, failures := (s.bay i).traffic.failures + 1 }).raiseTrip i).endDeferral i).arbitrate
      i).closeEvent)

theorem complete_hostLast (hb : (s.bay i).traffic.bus = some x) (ho : x.owner = .host r true)
    {e : Ending} (he : ∀ d, e ≠ .ack d)
    (hf : (s.bay i).traffic.failures = s.policy.lockoutLimit.get i) :
    s.complete i e = (((withTraffic (s.respond (hostResponse i r e.failure [])) i
      { (s.bay i).traffic with
        bus := none, failures := (s.bay i).traffic.failures + 1 }).raiseTrip i).endDeferral
          i).arbitrate i := by
  have failed : (freed s i).failed i x e.failure =
      withTraffic (s.respond (hostResponse i r e.failure [])) i
        { (s.bay i).traffic with bus := none } := failed_host ho _
  have policy (t : Traffic) : (withTraffic (s.respond (hostResponse i r e.failure [])) i t).policy =
      s.policy := respond_policy _ _
  rw [complete_failed hb he, failed, countFailure_last (by rw [withTraffic_bay, policy]; exact hf),
    withTraffic_withTraffic, withTraffic_bay]

theorem failsAtLimit (hb : (s.bay i).traffic.bus = some x) (ho : x.owner = .host r true)
    (hf : (s.bay i).traffic.failures = s.policy.lockoutLimit.get i) :
    FailsAtLimit s i (.transactionCompletion i (.own .nack)) (hostResponse i r .nack []) ∧
    (x.limit.left = 0 →
      FailsAtLimit s i (.transactionLimitExpiry i) (hostResponse i r .timeout [])) :=
  ⟨congrArg (fun v : State => Host.Outcome.next v.closeEvent)
      (complete_hostLast hb ho (e := .nack) (by simp) hf),
    fun hl => (exec_limitExpiry hb hl).trans
      (congrArg (fun v : State => Host.Outcome.next v.closeEvent)
        (complete_hostLast hb ho (e := .timeout) (by simp) hf))⟩

/-- The state of a failure at the limit, its trip raised. -/
def struck (s : State) (i : BayId) (q : Response) : State :=
  withTraffic (s.respond q) i (afterEnd ((s.bay i).traffic.failures + 1) true (s.bay i).traffic)

theorem struck_bay (s : State) (i : BayId) (q : Response) : (struck s i q).bay i = { s.bay i with
    traffic := afterEnd ((s.bay i).traffic.failures + 1) true (s.bay i).traffic } := by
  rw [struck, withTraffic_bay, respond_bay]

theorem struck_bay_ne {j : BayId} (hj : j ≠ i) (q : Response) :
    (struck s i q).bay j = s.bay j := by
  rw [struck, withTraffic_bay_ne hj, respond_bay]

theorem struck_event (hd : s.due = none) (hn : s.NoTrips) (q : Response) :
    BayEvent s i (struck s i q) :=
  ((BayEvent.refl hd hn).respond q).onTraffic fun _ => _

theorem struck_defers (q : Response) : Defers (struck s i q) i ↔ Defers s i := by
  have supply : (struck s i q).supply = s.supply := by simp [struck, withTraffic]
  have sole : soleSupply (struck s i q) i = soleSupply s i :=
    soleSupply_of_same supply ((forall_bay_iff i).2
      ⟨by rw [struck_bay], by rw [struck_bay_ne (otherBay_ne i)]⟩) i
  unfold Defers
  rw [sole, struck_bay]

/-- A trip raised where one is raised already, or where no traffic runs (R51; log 38). -/
theorem raiseTrip_counted (q : Response)
    (h : (s.bay i).traffic.tripRaised = true ∨ (s.bay i).state.traffic = false) :
    (withTraffic (s.respond q) i { (s.bay i).traffic with
      bus := none, failures := (s.bay i).traffic.failures + 1 }).raiseTrip i = struck s i q := by
  cases hr : (s.bay i).traffic.tripRaised with
  | true =>
    rw [raiseTrip_raised (by rw [withTraffic_bay]; exact hr), struck, afterEnd, ← hr]
  | false =>
    have ht := h.resolve_left (by rw [hr]; decide)
    refine (if_neg (by rw [withTraffic_bay]; simp [hr])).trans ?_
    rw [withTraffic_onTraffic]
    exact tripRaised_off (by rw [withTraffic_bay, respond_bay]; exact ht)

theorem raiseTrip_struck (q : Response) (h : (s.bay i).traffic.tripRaised = false) :
    (withTraffic (s.respond q) i { (s.bay i).traffic with
      bus := none, failures := (s.bay i).traffic.failures + 1 }).raiseTrip i =
      (struck s i q).tripRaised i := by
  refine (if_neg (by rw [withTraffic_bay]; simp [h])).trans ?_
  rw [withTraffic_onTraffic]
  rfl

/-- A failure at the limit that takes its trip: the event ends with the bay SILENT. -/
theorem FailsAtLimit.taken {c : Instr} {q : Response} (h : FailsAtLimit s i c q)
    (hr : (s.bay i).traffic.tripRaised = false) (ht : (s.bay i).state.traffic = true)
    (hd : ¬ Defers s i) : exec c s = .next ((struck s i q).takeTrip i).closeEvent := by
  obtain ⟨g, trip⟩ := takeTrip_taken (struck s i q) i
  have e := (raiseTrip_struck q hr).trans (tripRaised_taken (s := struck s i q) (i := i)
    (by rw [struck_bay]; exact ht) (fun hx => hd ((struck_defers q).1 hx)))
  refine h.trans ?_
  rw [e, endDeferral_of_none trip.bay.tripDeferred, arbitrate_blocked]
  have silent := trip.bay.state
  unfold arbiterBlocked
  rw [silent]
  simp [silentBay, entered, BayState.traffic]

/-- What the requests that wait at an entry to SILENT are answered (R22). -/
theorem silentAnswers_struck (s : State) (i : BayId) (q : Response) :
    silentAnswers (struck s i q) i = (s.bay i).traffic.waiting.map fun h =>
      let a := if h.shadow = true ∧ h.write = false
        then shadowAnswer s.policy (s.bay i).record (h.offset.setWidth 8) h.snoop else (.silent, [])
      hostResponse i h a.1 a.2 := by
  have policy : (struck s i q).policy = s.policy := respond_policy _ _
  unfold silentAnswers
  rw [struck_bay, policy]
  rfl

theorem respond_flags_bay (s : State) (q : Response) (i : BayId) :
    (s.respond q).flags.get (baySpace i) = s.flags.get (baySpace i) := by
  rw [respond_eq]
  cases i <;> rfl

theorem takeTrip_ctl (s : State) (i : BayId) : (s.takeTrip i).ctl = s.ctl := by simp

/-- The end of an event that took a trip at a host request's failure (R22, R52). -/
theorem struck_taken (hd : s.due = none) (hn : s.NoTrips) (ht : (s.bay i).state.traffic = true)
    (q : Response) :
    let v := ((struck s i q).takeTrip i).closeEvent
    let sent := (s.respond q).respondAll (silentAnswers (struck s i q) i)
    v = { s with
      bays := v.bays, supply := v.supply, back := v.back, flags := v.flags, link := sent.link
      drop := { s.drop with
        parkPin := v.drop.parkPin
        log := if (s.bay i).traffic.reverify = some .record
          then onNewest (DropRecord.writeVerify i .noAnswer) s.drop.log else s.drop.log } } ∧
    v.flags.hub = sent.flags.hub ∧
    v.flags.get (baySpace i) = s.flags.get (baySpace i) ||| 0x10 ∧
    ((v.bay i).role = .off ∧ (v.bay i).charging = false) ∧
    BayStill (silentBay s.policy s.ctl.mode { s.bay i with
      traffic := afterEnd ((s.bay i).traffic.failures + 1) true (s.bay i).traffic }) (v.bay i) ∧
    (v.bay (otherBay i)).state = (s.bay (otherBay i)).state ∧
    (v.bay (otherBay i)).record = (s.bay (otherBay i)).record := by
  obtain ⟨g, trip⟩ := takeTrip_taken (struck s i q) i
  have event := struck_event (i := i) hd hn q
  have hn' : ((struck s i q).takeTrip i).NoTrips := noTrips_iff.2 ((forall_bay_iff i).2
    ⟨trip.bay.tripDeferred, trip.other.tripDeferred.trans (noTrips_bay event.noTrips _)⟩)
  have due : ((struck s i q).takeTrip i).due = some .other :=
    trip.due.trans (owe_other_due event.due)
  have still := closeEvent_still hn'
  have other := (event.other.trans trip.other).trans (still _)
  obtain ⟨link, -, hub⟩ := respondAll_sameLink (s := s.respond q) (t := struck s i q)
    ⟨rfl, rfl, rfl⟩ (silentAnswers (struck s i q) i)
  have logged : g = if (s.bay i).traffic.reverify = some .record
      then onNewest (DropRecord.writeVerify i .noAnswer) s.drop.log else s.drop.log := by
    have log : (struck s i q).drop.log = s.drop.log := by simp [struck, withTraffic]
    have reverifies : Reverifies ((struck s i q).bay i).traffic ↔
        (s.bay i).traffic.reverify = some .record := by
      rw [struck_bay]
      simp [Reverifies, afterEnd]
    rw [← log]
    split
    next h => exact trip.reported (reverifies.2 h)
    next h => exact trip.unreported fun hx => h (reverifies.1 hx)
  have flags : (s.bay i).state ≠ .silent := by
    intro h
    rw [h] at ht
    exact absurd ht (by decide)
  have work : BayWork { s with
      link := ((s.respond q).respondAll (silentAnswers (struck s i q) i)).link
      drop := { s.drop with log := g } } ((struck s i q).takeTrip i).closeEvent := by
    have w := trip.work
    rw [link] at w
    have w0 : BayWork { s with
        link := ((s.respond q).respondAll (silentAnswers (struck s i q) i)).link
        drop := { s.drop with log := g } } { struck s i q with
        link := ((s.respond q).respondAll (silentAnswers (struck s i q) i)).link
        drop := { (struck s i q).drop with log := g } } :=
      (congrArg (fun x : State => { x with
        link := ((s.respond q).respondAll (silentAnswers (struck s i q) i)).link
        drop := { x.drop with log := g } }) event.work :)
    exact BayWork.closeEvent hn' (w0.trans w)
  have kept := work.ends (by rw [State.closeEvent_due]; exact hd.symm)
  have ctl : ((struck s i q).takeTrip i).closeEvent.ctl = s.ctl :=
    (closeEvent_ctl due hn').trans ((takeTrip_ctl _ _).trans event.ctl)
  rw [ctl, logged] at kept
  refine ⟨kept, (closeEvent_flags (sp := .hub) hn' (by decide)).trans (trip.hub.trans hub), ?_,
    gates_closed_closeEvent (by rw [due]; rfl) hn' (by rw [trip.bay.state]; exact nofun)
      (by rw [trip.bay.state]; exact nofun), ?_, other.state, other.record⟩
  · rw [closeEvent_flags hn' (baySpace_ne_supply i), trip.flags (by rw [struck_bay]; exact flags)]
    exact congrArg (· ||| 0x10) (respond_flags_bay s q i)
  · have b := trip.bay.trans (still i)
    rw [struck_bay, event.ctl, event.work.policy] at b
    exact b

/-! ### A bay where nothing waits -/

/-- Nothing waits in a bay's traffic but what is on the bus. -/
structure Quiet (t : Traffic) : Prop where
  waiting : t.waiting = []
  alert : t.alert = false
  ident : t.ident = none
  reverify : t.reverify = none
  round : t.round = none

theorem Quiet.maintains {t : Traffic} (h : Quiet t) : t.maintains = false := by
  rw [Traffic.maintains, h.ident, h.reverify, h.round]
  rfl

theorem Quiet.afterEnd {t : Traffic} (h : Quiet t) (n : Nat) (b : Bool) :
    Quiet (afterEnd n b t) := ⟨h.waiting, h.alert, h.ident, h.reverify, h.round⟩

/-- The arbiter does nothing for a bay where nothing waits. -/
theorem Quiet.arbitrate (h : Quiet (s.bay i).traffic) : s.arbitrate i = s :=
  arbitrate_quiet h.alert h.waiting h.maintains

theorem Quiet.serves {t : Traffic} (h : Quiet t) : Serves s i t t :=
  Quiet.arbitrate (by rw [withTraffic_bay]; exact h)

/-- A bay's trip deferred or withdrawn, which it owes to the supply controller (R53, R78). -/
def tripSet (s : State) (i : BayId) (v : Bool) : State :=
  { s with bays := s.bays.set i { s.bay i with tripDeferred := v }, due := some .other }

theorem onIndications_tripSet (hd : s.due = none) (v : Bool) :
    (s.onIndications i fun y => { y with tripDeferred := v }) = tripSet s i v := by
  unfold State.onIndications
  rw [owe_of_none (by exact hd)]
  rfl

theorem tripSet_respond (s : State) (i : BayId) (v : Bool) (q : Response) :
    (tripSet s i v).respond q = tripSet (s.respond q) i v := by
  refine (respond_of_same (s := s) (t := tripSet s i v) ⟨rfl, rfl, rfl⟩ q).trans ?_
  exact (congrArg (fun w => tripSet w i v) (respond_eq s q)).symm

theorem tripSet_bay (s : State) (i : BayId) (v : Bool) :
    (tripSet s i v).bay i = { s.bay i with tripDeferred := v } := Both.get_set _ _ _

/-- A failure at the limit whose trip is deferred on the sole supply (R53). -/
theorem FailsAtLimit.deferred {c : Instr} {q : Response} (h : FailsAtLimit s i c q)
    (hq : Quiet (s.bay i).traffic) (hd : s.due = none)
    (hr : (s.bay i).traffic.tripRaised = false) (hx : Defers s i) :
    exec c s = .next (tripSet { struck s i q with
      flags := (struck s i q).flags.raised (baySpace i) 0x100 } i true).closeEvent := by
  have due : (struck s i q).due = none := (show (s.respond q).due = none by simpa using hd)
  have raised : ((tripSet (struck s i q) i true).raise (baySpace i) .supplyUnmonitored) =
      tripSet { struck s i q with
        flags := (struck s i q).flags.raised (baySpace i) 0x100 } i true := by
    rw [raise_eq]
    rfl
  have e := (raiseTrip_struck q hr).trans (tripRaised_deferred ((struck_defers q).2 hx))
  rw [onIndications_tripSet due, raised] at e
  generalize hw : tripSet { struck s i q with
    flags := (struck s i q).flags.raised (baySpace i) 0x100 } i true = w at *
  have bay : w.bay i = { (struck s i q).bay i with tripDeferred := true } := by
    rw [← hw]
    exact tripSet_bay _ i true
  have other : w.bay (otherBay i) = (struck s i q).bay (otherBay i) := by
    rw [← hw]
    exact Both.get_set_ne _ (otherBay_ne i) _
  have supply : w.supply = (struck s i q).supply := by rw [← hw]; rfl
  have sole : soleSupply w i = true := by
    rw [soleSupply_of_same supply ((forall_bay_iff i).2 ⟨by rw [bay], by rw [other]⟩) i]
    exact ((struck_defers q).2 hx).2
  have stays : w.endDeferral i = w := if_neg (by simp [sole])
  have idle : w.arbitrate i = w := Quiet.arbitrate (by
    rw [bay, struck_bay]
    exact hq.afterEnd _ _)
  refine h.trans ?_
  rw [e, stays, idle]

/-- A failure at the limit that raises no trip, or one that no manager takes (R51; log 38). -/
theorem FailsAtLimit.counted {c : Instr} {q : Response} (h : FailsAtLimit s i c q)
    (hq : Quiet (s.bay i).traffic) (hd : s.due = none) (hn : s.NoTrips)
    (hr : (s.bay i).traffic.tripRaised = true ∨ (s.bay i).state.traffic = false) :
    exec c s = .next (struck s i q) := by
  have due : (struck s i q).due = none := (show (s.respond q).due = none by simpa using hd)
  have idle : (struck s i q).arbitrate i = struck s i q := Quiet.arbitrate (by
    rw [struck_bay]
    exact hq.afterEnd _ _)
  refine h.trans ?_
  rw [raiseTrip_counted q hr, endDeferral_of_none
    (by rw [struck_bay]; exact noTrips_bay hn i), idle, State.closeEvent_of_settled due]

/-- An acknowledgment withdraws a deferred trip (R20, R53). -/
theorem exec_write_withdraws (hb : (s.bay i).traffic.bus = some x) (ho : x.owner = .host r true)
    (hx : x.write = true) (hd : s.due = none) (ht : (s.bay i).tripDeferred = true)
    (hq : Quiet (s.bay i).traffic) (data : List Byte) :
    exec (.transactionCompletion i (.own (.ack data))) s =
      .next (tripSet ((counted s i).respond (hostResponse i r .ok [])) i false).closeEvent := by
  have counts : (freed s i).countAck i = tripSet (Proofs.counted s i) i false := by
    refine (if_pos (by rw [freed_bay]; exact ht)).trans ?_
    rw [onTraffic_withTraffic, freed_bay, freed, withTraffic_withTraffic]
    exact onIndications_tripSet (s := Proofs.counted s i) hd false
  have own : (tripSet (Proofs.counted s i) i false).acknowledged i x
      (if x.write then [] else exactly x.size.bytes data) =
      tripSet ((Proofs.counted s i).respond (hostResponse i r .ok [])) i false := by
    rw [State.acknowledged, ho, hx]
    exact tripSet_respond ..
  have bay : (tripSet ((Proofs.counted s i).respond (hostResponse i r .ok [])) i false).bay i =
      { (Proofs.counted s i).bay i with tripDeferred := false } := by
    rw [tripSet_bay, respond_bay]
  have run := complete_ack hb data
  rw [counts, own, endDeferral_of_none (by rw [bay]), Quiet.arbitrate (by
    rw [bay, counted_bay]
    exact hq.afterEnd 0 false)] at run
  exact congrArg (fun v : State => Host.Outcome.next v.closeEvent) run

/-- A read acknowledged, before the end of its event: its snoop and its answer (R8, R19). -/
theorem read_acknowledged (hb : (s.bay i).traffic.bus = some x) (ho : x.owner = .host r true)
    (hx : x.write = false) (hl : data.length = x.size.bytes) (hd : s.due = none) (hn : s.NoTrips)
    (hq : Quiet (s.bay i).traffic) : ∃ w : State, BayEvent s i w ∧
      exec (.transactionCompletion i (.own (.ack data))) s = .next w.closeEvent ∧
      w.link = (s.respond (hostResponse i r .ok data)).link ∧
      w.bay i = ((counted s i).snoop i x.snoop data).bay i ∧
      TrafficLeft ((counted s i).bay i) (w.bay i) := by
  let v := (counted s i).snoop i x.snoop data
  have event : BayEvent s i v := (counted_event hd hn).snoop _ _
  have left : TrafficLeft ((counted s i).bay i) (v.bay i) :=
    snoop_traffic (by rw [counted_bay]; exact hq.ident)
  have bay : (v.respond (hostResponse i r .ok data)).bay i = v.bay i := respond_bay ..
  have traffic := left.traffic
  rw [counted_bay] at traffic
  have quiet : Quiet (v.bay i).traffic := by
    rw [traffic]
    exact ⟨hq.waiting, hq.alert, hq.ident, hq.reverify, hq.round⟩
  have link : v.link = s.link := by simp [v, counted, withTraffic]
  have lines : v.lines.resetN = s.lines.resetN := by simp [v, counted, withTraffic]
  have run := complete_acknowledged hb (noTrips_bay hn i) data
    (u := v.respond (hostResponse i r .ok data)) (by
      rw [State.acknowledged, ho, hx, exactly_length hl]
      rfl) (by rw [bay]; exact noTrips_bay event.noTrips i)
  rw [Quiet.arbitrate (by rw [bay]; exact quiet)] at run
  exact ⟨_, event.respond _, congrArg (fun v : State => Host.Outcome.next v.closeEvent) run,
    respond_link link lines _, bay, by rw [bay]; exact left⟩

end

/-- Settles O50, from the rules of the arbiter, of a trip taken and of a snoop. -/
theorem hostTransactionEnds : Obligations.HostTransactionEnds := by
  unfold Obligations.HostTransactionEnds
  refine ⟨fun r now v d => ?_, fun s i hd => ?_⟩
  · refine ⟨rfl, congrArg (fun n => { r with voltage := some ⟨n, now⟩ }) (min_comm v 20000), rfl,
      rfl, writePct_eq r now v, rfl, rfl, writeAlarms_eq r now v, rfl, rfl, rfl, rfl⟩
  intro y quiet ended answer deferred
  refine ⟨fun hb => ⟨?_, fun a => ?_⟩, fun a => rfl, fun x hb => ⟨fun hl => ?_,
    fun r ho ht hn => ?arbiter, fun r hq => ?quiet⟩⟩
  · exact congrArg Host.Outcome.next
      (if_neg (by rw [show (s.bay i).traffic.bus = _ from hb]; simp [ranDown]))
  · exact congrArg Host.Outcome.next
      ((congrArg State.closeEvent (complete_free hb _)).trans (State.closeEvent_of_settled hd))
  · exact congrArg Host.Outcome.next
      (if_neg (by rw [show (s.bay i).traffic.bus = _ from hb]; simpa [ranDown] using hl))
  case arbiter =>
    intro t held allHeld grants own idle arbiter limit more
    have arb {c : Instr} {o : Answer} {n : Nat} {raised : Bool}
        (g : Grants s.policy s.holdMask t
          (fun t' => exec c s = .next ((withTraffic s i { t' with
            failures := n, tripRaised := raised }).respond (hostResponse i r o [])))
          (fun t' => exec c s = exec c (withTraffic s i t'))) : arbiter c o n raised := by
      refine ⟨fun ha => ⟨g.alert ha, g.alertMissing ha⟩, fun ha => ⟨fun hi hh => g.idle ha ?_ hh,
        fun hm before q after hw hb hq => g.request ha ?_ before q after hw hb (by simpa [held] using hq),
        fun hm => ⟨g.ident ha hm.symm, g.reverify ha hm.symm, fun hi hv k hk =>
          ⟨fun m e he => g.poll ha hm.symm hi hv k m e hk he, g.pollEnded ha hm.symm hi hv k hk⟩⟩⟩⟩
      · obtain ⟨hi, hv, hk⟩ := hi
        rw [Traffic.maintains, hi, hv, hk]
        rfl
      · refine hm.imp_left fun ⟨hi, hv, hk⟩ => ?_
        rw [Traffic.maintains, hi, hv, hk]
        rfl
    have grants' {c : Instr} {o : Answer} {n : Nat} {raised : Bool}
        (h : ∀ t' : Traffic, t'.bus = t.bus → t'.failures = t.failures →
          t'.tripRaised = t.tripRaised →
          Concludes (withTraffic s i t') i c (hostResponse i r o []) n raised) :
        arbiter c o n raised := arb (grants_of_concludes hd ht (noTrips_bay hn i) h)
    have bay (t' : Traffic) := withTraffic_bay s i t'
    have failing (t' : Traffic) (hf : t.failures ≠ limit) (hb' : t'.bus = t.bus)
        (hf' : t'.failures = t.failures) (ht' : t'.tripRaised = t.tripRaised) :
        Concludes (withTraffic s i t') i (.transactionCompletion i (.own .nack))
          (hostResponse i r .nack []) more t.tripRaised ∧
        (x.limit.left = 0 → Concludes (withTraffic s i t') i (.transactionLimitExpiry i)
          (hostResponse i r .timeout []) more t.tripRaised) := by
      have h := concludes_failed (s := withTraffic s i t') (i := i) (by rw [bay]; exact hb'.trans hb)
        ho (by rw [bay]; exact noTrips_bay hn i) (by rw [bay, hf']; exact hf)
      have count : failuresAfter (withTraffic s i t') i = more := by
        unfold failuresAfter
        rw [bay, hf']
        rfl
      rwa [count, bay, ht'] at h
    refine ⟨fun data hx => grants' fun t' hb' hf' ht' => ?_, fun hf =>
      ⟨grants' fun t' hb' hf' ht' => (failing t' hf hb' hf' ht').1,
        fun hl => grants' fun t' hb' hf' ht' => (failing t' hf hb' hf' ht').2 hl⟩,
      fun hf hr hdef => ?_⟩
    · exact concludes_write (by rw [bay]; exact hb'.trans hb) ho hx
        (by rw [bay]; exact noTrips_bay hn i) data
    · intro silent ends
      have ends' {c : Instr} {o : Answer} (h : FailsAtLimit s i c (hostResponse i r o [])) :
          ends c o := by
        obtain ⟨frame, hub, -, -, b, -⟩ := struck_taken hd hn ht (hostResponse i r o [])
        have log := silentAnswers_struck s i (hostResponse i r o [])
        dsimp only at frame hub
        rw [log] at frame hub
        refine ⟨_, h.taken hr ht hdef, frame, hub, b.state, b.record, b.timer.trans ?_, ?_⟩
        · exact if_neg (fun hs => by
            rw [show y.state = _ from hs] at ht
            exact absurd ht (by decide))
        · intro z
          have z' : z = (Traffic.onMove s.policy s.ctl.mode y.state .silent
              (afterEnd (t.failures + 1) true t)).settled := b.traffic
          obtain ⟨-, kb, kf, kt, -⟩ := onMove_traffic s.policy s.ctl.mode y.state .silent
            (afterEnd (t.failures + 1) true t)
          rw [z']
          refine ⟨rfl, ?_, rfl, rfl, rfl, rfl, rfl, ?_, kt⟩
          · exact (congrArg (Option.map fun w : Transaction =>
              { w with owner := w.owner.discarded }) kb)
          · exact kf.trans (congrArg (· + 1) hf)
      obtain ⟨nack, timeout⟩ := failsAtLimit hb ho hf
      exact ⟨ends' nack, fun hl => ends' (timeout hl)⟩
  case quiet =>
    have q : Quiet y.traffic := by
      obtain ⟨hw, ha, hi, hv, hk⟩ := hq
      exact ⟨hw, ha, hi, hv, hk⟩
    intro n limit more ack only fails
    -- A conclusion with nothing waiting is the end of the event.
    have conclude {c : Instr} {o : Answer} {d : List Byte} {k : Nat} {b : Bool}
        (h : Concludes s i c (hostResponse i r o d) k b) :
        exec c s = .next (answer (ended k b) r o d) :=
      h.goes hd ((q.afterEnd k b).serves)
    have fails' {c : Instr} {o : Answer} (hn : s.NoTrips)
        (hc : n ≠ limit → Concludes s i c (hostResponse i r o []) more y.traffic.tripRaised)
        (hl : n = limit → FailsAtLimit s i c (hostResponse i r o [])) : fails c o := by
      have hs : struck s i (hostResponse i r o []) = answer (ended (n + 1) true) r o [] :=
        (respond_withTraffic ..).symm
      refine ⟨fun hf => conclude (hc hf), fun hf hr => ?_, fun hf hr ht => ⟨fun hx => ?_, fun hx => ?_⟩⟩
      · rw [← hs]
        exact (hl hf).counted q hd hn hr
      · have h := (hl hf).deferred q hd hr hx
        rw [hs] at h
        exact h
      · obtain ⟨frame, -, flags, gates, b, state, record⟩ :=
          struck_taken hd hn ht (hostResponse i r o [])
        have answers : silentAnswers (struck s i (hostResponse i r o [])) i = [] := by
          rw [silentAnswers_struck, show (s.bay i).traffic.waiting = [] from q.waiting]
          rfl
        have lost : ¬ (s.bay i).traffic.reverify = some .record := by
          rw [show (s.bay i).traffic.reverify = none from q.reverify]
          nofun
        rw [answers, if_neg lost] at frame
        obtain ⟨-, kb, kf, kt, -⟩ := onMove_traffic s.policy s.ctl.mode y.state .silent
          (afterEnd (n + 1) true y.traffic)
        have traffic := b.traffic
        refine ⟨_, (hl hf).taken hr ht hx, ⟨frame, ?_, state, record⟩, b.state, b.record,
          b.tripDeferred, ?_, ?_, gates.1, flags⟩
        · rw [traffic]
          exact (congrArg (Option.map fun w : Transaction =>
              { w with owner := w.owner.discarded }) kb)
        · rw [traffic]
          exact kf
        · rw [traffic]
          exact kt
    refine ⟨fun ho hn => ?_, fun ho hn hf => ?_, fun data ho hx => ⟨fun hn => ?_, fun ht => ?_⟩,
      fun data ho hx hl hn hs => conclude (concludes_read hb ho hx (noTrips_bay hn i) hl hs),
      fun data ho hx hl hn hs hi => ?_⟩
    · have short := concludes_failed (s := s) (i := i) hb ho (noTrips_bay hn i)
      have last := failsAtLimit (s := s) (i := i) hb ho
      exact ⟨fails' hn (fun hf => (short hf).1) (fun hf => (last hf).1),
        fun hl => fails' hn (fun hf => (short hf).2 hl) (fun hf => (last hf).2 hl)⟩
    · have both (e : Ending) (he : ∀ d, e ≠ .ack d) : (s.complete i e).closeEvent =
          ended more y.traffic.tripRaised := by
        rw [complete_hostFailed hb ho (noTrips_bay hn i) he hf]
        exact (congrArg State.closeEvent (Quiet.serves (q.afterEnd more y.traffic.tripRaised))).trans
          (withTraffic_closes hd i _)
      exact ⟨congrArg Host.Outcome.next (both .nack (by simp)), fun hl =>
        (exec_limitExpiry hb hl).trans (congrArg Host.Outcome.next (both .timeout (by simp)))⟩
    · exact conclude (concludes_write hb ho hx (noTrips_bay hn i) data)
    · exact exec_write_withdraws hb ho hx hd ht q data
    · obtain ⟨w, event, run, link, bay, left⟩ := read_acknowledged hb ho hx hl hd hn q
      obtain ⟨⟨frame, state, record, -⟩, link', still⟩ := event.closes hd
      have traffic := left.traffic
      rw [counted_bay] at traffic
      rw [link', link] at frame
      refine ⟨_, run, ⟨frame, ?_, state, record⟩, ?_, ?_, ?_⟩
      · rw [still.traffic, traffic]
      · rw [still.traffic, traffic]
      · rw [still.traffic, traffic]
      · have cases' : Inhibits (counted s i) i x.snoop (BitVec.ofNat 4 (snoopValue data)) ↔
            x.snoop = .alarms ∧ ((BitVec.ofNat 4 (leNat (data.take 2))).getLsbD 0 = true ∨
              (BitVec.ofNat 4 (leNat (data.take 2))).getLsbD 3 = true) ∧
            (y.state = .online ∨ y.state = .quarantined ∨ y.state = .releasing) := by
          unfold Inhibits
          rw [alarmOverTemp_eq, alarmCellFault_eq, counted_bay]
          rfl
        have identity : ((counted s i).bay i).record.identity.isSome = true := by
          rw [counted_bay]
          exact hi
        intro z word inhibits
        refine ⟨fun h => ?_, fun h => ?_⟩
        · have b := snoop_written (data := data) identity (mt cases'.1 h)
          rw [still.record, still.state, bay, b, counted_bay]
          exact ⟨by rw [snoopedRecord, counted_bay]; rfl, rfl⟩
        · have b := snoop_inhibits (data := data) identity (cases'.2 h)
          rw [still.record, still.state, still.timer, bay]
          refine ⟨b.state, b.timer.trans ?_, b.record.trans ?_⟩
          · refine if_neg fun hs => ?_
            rw [counted_bay] at hs
            have hs' : y.state = .inhibited := hs
            obtain ⟨-, -, hst⟩ := h
            rw [hs'] at hst
            simp at hst
          · have word' : alarmCellFault (BitVec.ofNat 4 (snoopValue data)) = word.getLsbD 3 :=
              alarmCellFault_eq _
            have same : snoopedRecord (counted s i) i x.snoop data = z := by
              rw [snoopedRecord, counted_bay]
              rfl
            rw [same]
            exact congrArg (fun b : Bool => { z with
              outcome := if b = true then AdmissionOutcome.cellFault else .overTemp }) word'

end Sys2Proof.Proofs
end

section
/-!
PROOFS. The drop record: its figures, its creation, its updates and its end (R152 to R157).
-/

namespace Sys2Proof.Proofs
open Sys2Proof.Machine

/-! ### The integer square root (R154) -/

/-- Each round halves the interval in which the root lies. -/
theorem isqrtFrom_bounds {k m r : Nat} (hl : r * r ≤ m) (hu : m < (r + 2 ^ k) * (r + 2 ^ k)) :
    isqrtFrom k m r * isqrtFrom k m r ≤ m ∧
      m < (isqrtFrom k m r + 1) * (isqrtFrom k m r + 1) := by
  induction k generalizing r with
  | zero => exact ⟨hl, hu⟩
  | succ k ih =>
    rw [isqrtFrom]
    split
    next h =>
      refine ih h ?_
      rwa [add_assoc, ← Nat.two_mul, ← Nat.pow_succ']
    next h => exact ih hl (Nat.lt_of_not_le h)

/-- isqrt is the largest integer whose square does not exceed its argument. -/
theorem isqrt_bounds {m : Nat} (h : m < 2 ^ 32) :
    isqrt m * isqrt m ≤ m ∧ m < (isqrt m + 1) * (isqrt m + 1) :=
  isqrtFrom_bounds (Nat.zero_le m) (by simpa using h)

/-! ### The newest record -/

theorem onNewest_concat (f : DropRecord → DropRecord) (l : List DropRecord) (q : DropRecord) :
    onNewest f (l ++ [q]) = l ++ [f q] := by
  induction l with
  | nil => rfl
  | cons r rs ih =>
    cases rs with
    | nil => rfl
    | cons p ps => exact congrArg (r :: ·) ih

section
variable {s : State} {old : List DropRecord} {q : DropRecord}

theorem holdsOpen_concat (h : s.drop.log = old ++ [q]) : s.drop.holdsOpen = q.isOpen := by
  simp [DropLog.holdsOpen, h]

theorem interruptedClose_drop (s : State) : s.interruptedClose.drop = { s.drop with
    log := if s.drop.holdsOpen then onNewest DropRecord.interrupt s.drop.log else s.drop.log } := by
  unfold State.interruptedClose
  split <;> rfl

theorem interruptedClose_closed (h : s.drop.holdsOpen = false) : s.interruptedClose = s :=
  if_neg (by simp [h])

theorem interruptedClose_traffic (h : s.drop.holdsOpen = true) (i : BayId) :
    (s.interruptedClose.bay i).traffic = (s.bay i).traffic.withdrawReverify := by
  have e : s.interruptedClose = _ := if_pos h
  rw [e]
  cases i <;> rfl

/-- A log with no record OPEN but its newest has none OPEN after the INTERRUPTED close (R156). -/
theorem interruptedClose_allClosed (h : OnlyNewestOpen s.drop.log) {r : DropRecord}
    (hr : r ∈ s.interruptedClose.drop.log) : r.isOpen = false := by
  refine closed_of_holdsOpen ?_ (interruptedClose_holdsOpen s) hr
  rw [interruptedClose_drop]
  dsimp only
  split
  · exact onlyNewestOpen_onNewest _ h
  · exact h

/-! ### A record report (R153 to R155, R157) -/

theorem joinLog_eq (q : DropRecord) (l : List DropRecord) :
    joinLog q l = l.drop (l.length - 15) ++ [q] := by
  unfold joinLog
  split
  next h => rfl
  next h =>
    have : l.length - 15 = 0 := by
      have : ¬ 16 ≤ l.length := h
      omega
    rw [this]
    rfl

/-- The record that a report adds to the log of `s`. -/
def newRecord (s : State) (r : DropReport) : DropRecord :=
  buildRecord r (min 65535 (s.drop.drops + 1)) s.uptime s.streams.stimulusOn
    (s.ctl.mode == .dormant) s.drop.episode

theorem createRecord_drop (s : State) (r : DropReport) : (s.createRecord r).drop = { s.drop with
    drops := min 65535 (s.drop.drops + 1)
    log := joinLog (newRecord s r)
      (if s.drop.holdsOpen then onNewest DropRecord.interrupt s.drop.log else s.drop.log)
    episodeRecord := true } := by
  have drop : (s.createRecord r).drop = { s.interruptedClose.drop with
      drops := min 65535 (s.interruptedClose.drop.drops + 1)
      log := joinLog (newRecord s.interruptedClose r) s.interruptedClose.drop.log
      episodeRecord := true } := by
    unfold State.createRecord
    dsimp only
    split <;> rfl
  have built : newRecord s.interruptedClose r = newRecord s r := by
    simp [newRecord, interruptedClose_drop]
  rw [drop, built, interruptedClose_drop]

theorem createRecord_flags (s : State) (r : DropReport) :
    (s.createRecord r).flags = s.flags.raised .motion 0x20 := by
  have flags : (s.createRecord r).flags = s.interruptedClose.flags.raised .motion 0x20 := by
    unfold State.createRecord
    dsimp only
    split <;> rfl
  rw [flags]
  simp

theorem createRecord_ctl (s : State) (r : DropReport) : (s.createRecord r).ctl =
    if severeEnough r.severity then s.ctl.wakeEvent .drop else s.ctl := by
  have ctl : (s.createRecord r).ctl = if severeEnough r.severity
      then s.interruptedClose.ctl.wakeEvent .drop else s.interruptedClose.ctl := by
    unfold State.createRecord
    dsimp only
    split <;> rfl
  rw [ctl]
  simp

/-! ### A record update (R156, R159) -/

variable {peak : Accel3} {v : Severity} {multiple : Bool}

theorem updateRecord_off (h : s.drop.episodeRecord = false) :
    s.updateRecord peak v multiple = s := if_neg (by simp [h])

theorem newestSeverity_concat (h : s.drop.log = old ++ [q]) :
    s.drop.newestSeverity = q.severity := by
  simp [DropLog.newestSeverity, h]

/-- The state with the newest record updated. -/
def updated (s : State) (peak : Accel3) (v : Severity) (multiple : Bool) : State :=
  s.onDrop fun d => { d with log := onNewest (DropRecord.update peak v multiple) d.log }

theorem updateRecord_on (h : s.drop.episodeRecord = true) (hl : s.drop.log = old ++ [q]) :
    s.updateRecord peak v multiple =
      if (q.severity.map Severity.code).getD 0 < v.code then
        if (q.severity.map Severity.code).getD 0 = 0
        then ((updated s peak v multiple).raise .motion .dropRecorded).wakeEvent .drop
        else (updated s peak v multiple).raise .motion .dropRecorded
      else updated s peak v multiple := by
  rw [← newestSeverity_concat hl]
  exact if_pos h

theorem updateRecord_frame' (h : s.drop.episodeRecord = true) (hl : s.drop.log = old ++ [q]) :
    let t := s.updateRecord peak v multiple
    t = { s with drop := { s.drop with log := t.drop.log }, flags := t.flags, ctl := t.ctl } ∧
    t.drop.log = old ++ [DropRecord.update peak v multiple q] := by
  have log : (updated s peak v multiple).drop.log = old ++ [DropRecord.update peak v multiple q] := by
    refine (congrArg (onNewest _) hl).trans (onNewest_concat ..)
  rw [updateRecord_on h hl]
  dsimp only
  split
  · split <;> exact ⟨rfl, log⟩
  · exact ⟨rfl, log⟩

theorem severity_code_zero (v : Severity) : v.code = 0 ↔ v = .light := by cases v <;> decide

theorem updateRecord_rises (h : s.drop.episodeRecord = true) (hl : s.drop.log = old ++ [q])
    {was : Severity} (hq : q.severity = some was) :
    let t := s.updateRecord peak v multiple
    (v.code ≤ was.code → t.flags = s.flags ∧ t.ctl = s.ctl) ∧
    (was.code < v.code → t.flags = s.flags.raised .motion 0x20 ∧
      t.ctl = if was = .light then s.ctl.wakeEvent .drop else s.ctl) := by
  have code : (q.severity.map Severity.code).getD 0 = was.code := by rw [hq]; rfl
  rw [updateRecord_on h hl, code]
  constructor
  · intro hv
    rw [if_neg (by omega)]
    exact ⟨rfl, rfl⟩
  · intro hv
    rw [if_pos hv]
    simp only [severity_code_zero]
    split <;> exact ⟨rfl, rfl⟩

/-! ### The record-ended notice (R156) -/

theorem recordEnded_closed (h : s.drop.holdsOpen = false) : s.recordEnded =
    s.onDrop fun d => { d with episode := 0, episodeRecord := false } := by
  unfold State.recordEnded
  rw [interruptedClose_closed h]

theorem recordEnded_log (h : s.drop.log = old ++ [q]) (ho : q.isOpen = true) :
    s.recordEnded.drop.log = old ++ [{ q with
      isOpen := false,
      verify := ⟨some (q.verify.a.getD .interrupted), some (q.verify.b.getD .interrupted)⟩ }] := by
  refine (congrArg DropLog.log (interruptedClose_drop s)).trans ?_
  dsimp only
  rw [holdsOpen_concat h, ho, h, onNewest_concat, if_pos rfl, DropRecord.interrupt, if_pos ho]

/-- A withdrawn traffic unit reads for no record (R16). -/
theorem withdrawReverify_left (t : Traffic) :
    t.withdrawReverify.reverify ≠ some .record ∧
    (∀ x, t.withdrawReverify.bus = some x → x.owner ≠ .reverify .record) ∧
    t.withdrawReverify.bus.isSome = t.bus.isSome := by
  refine ⟨?_, fun x hx => ?_, ?_⟩
  · unfold Traffic.withdrawReverify
    dsimp only
    split
    · nofun
    next h => exact h
  · obtain ⟨y, -, rfl⟩ := Option.map_eq_some_iff.1 hx
    cases y.owner with
    | reverify d => cases d <;> simp [Owner.redirect]
    | host r b => simp [Owner.redirect]
    | alert => simp [Owner.redirect]
    | identification n => simp [Owner.redirect]
    | poll => simp [Owner.redirect]
    | orphan => simp [Owner.redirect]
  · simp [Traffic.withdrawReverify]

/-! ### A verify outcome (R152) -/

theorem writeVerify_written {i : BayId} {o : VerifyOutcome} (ho : q.isOpen = true)
    (hv : q.verify.get i = none) : DropRecord.writeVerify i o q = { q with
      verify := q.verify.set i (some o), isOpen := (q.verify.get (otherBay i)).isNone } := by
  refine (if_pos (by simp [ho, hv])).trans ?_
  have verified : ((q.verify.set i (some o)).a.isSome && (q.verify.set i (some o)).b.isSome) =
      (q.verify.get (otherBay i)).isSome := by
    cases i
    · exact Bool.true_and _
    · exact Bool.and_true _
  unfold DropRecord.closeIfVerified
  rw [verified]
  cases q.verify.get (otherBay i) with
  | none => exact congrArg (fun b => { q with
      verify := q.verify.set i (some o), isOpen := b }) ho
  | some w => rfl

theorem writeVerify_kept {i : BayId} {o : VerifyOutcome}
    (h : q.isOpen = false ∨ (q.verify.get i).isSome = true) : DropRecord.writeVerify i o q = q := by
  refine if_neg ?_
  obtain h | h := h
  · simp [h]
  · simp [Option.isNone_eq_false_iff.2 h]

theorem report_log (h : s.drop.log = old ++ [q]) (i : BayId) (o : VerifyOutcome) :
    (s.report i .record o).drop.log = old ++ [DropRecord.writeVerify i o q] :=
  (congrArg (onNewest _) h).trans (onNewest_concat ..)

end
end Sys2Proof.Proofs
end

section
/-!
PROOFS. The ends of a re-verification read (R16, R45), and reports as records (R152 to R157).
-/

namespace Sys2Proof.Proofs
open Sys2Proof.Machine

section
variable {s t : State} {i : BayId} {x : Transaction} {dest : ReverifyDest} {o : VerifyOutcome}
  {data : List Byte}

/-! ### A report and the bay's own block -/

theorem report_counted : (counted s i).report i dest o = counted (s.report i dest o) i := by
  cases dest <;> cases i <;> rfl

theorem report_freed : (freed s i).report i dest o = freed (s.report i dest o) i := by
  cases dest <;> cases i <;> rfl

theorem withTraffic_report {t : Traffic} : withTraffic (s.report i dest o) i t =
    { s.report i dest o with bays := s.bays.set i { s.bay i with traffic := t } } := by
  cases dest <;> cases i <;> rfl

theorem snoop_serial_report : (s.snoop i .serial data).report i dest o =
    (s.report i dest o).snoop i .serial data := by
  have bay := report_bay s i i dest o
  by_cases h : (s.bay i).record.identity = none
  · rw [snoop_none _ _ (.inr h), snoop_none _ _ (.inr (by rw [bay]; exact h))]
  · have hi := Option.isSome_iff_ne_none.2 h
    rw [snoop_field _ (by decide) hi (by decide),
      snoop_field _ (by decide) (by rw [bay]; exact hi) (by decide)]
    cases dest <;> cases i <;> rfl

/-- A record with its serial as read (R19). -/
def serialRead (v : Nat) (r : PackRecord) : PackRecord :=
  { r with identity := r.identity.map fun d => { d with serial := v } }

theorem serialRead_absent {v : Nat} {r : PackRecord} (h : r.identity = none) :
    serialRead v r = r := by
  cases r
  cases h
  rfl

theorem serialRead_same {v : Nat} {r : PackRecord} {d : Identity} (h : r.identity = some d)
    (hv : d.serial = v) : serialRead v r = r := by
  cases r
  cases h
  subst hv
  rfl

theorem snoop_serial_bay (s : State) (i : BayId) (data : List Byte) :
    (s.snoop i .serial data).bay i =
      { s.bay i with record := serialRead (snoopValue data) (s.bay i).record } := by
  cases h : (s.bay i).record.identity with
  | none => rw [snoop_none _ _ (.inr h), serialRead_absent h]
  | some d =>
    rw [snoop_field _ (by decide) (by rw [h]; rfl) (by decide), writeRecord_bay]
    rfl

/-! ### A re-verification read on the bus of a bay where nothing else waits -/

structure Verifying (s : State) (i : BayId) (x : Transaction) (dest : ReverifyDest) : Prop where
  settled : s.due = none
  noTrips : s.NoTrips
  bus : (s.bay i).traffic.bus = some x
  owner : x.owner = .reverify dest
  read : x.write = false
  quiet : Quiet (s.bay i).traffic

/-- The state as the read has been counted, snooped and reported. -/
def verified (s : State) (i : BayId) (dest : ReverifyDest) (o : VerifyOutcome)
    (data : List Byte) : State :=
  (counted (s.report i dest o) i).snoop i .serial data

/-- The outcome of a read (R16). -/
def verifyOutcome (s : State) (i : BayId) (data : List Byte) : VerifyOutcome :=
  if serialMatches (s.bay i).record (snoopValue data) then .verified else .changed

/-- The read sends the bay to identification (R45; log 27). -/
def movesOn (s : State) (i : BayId) (dest : ReverifyDest) (data : List Byte) : Bool :=
  !serialMatches (s.bay i).record (snoopValue data) && dest ≠ .withdrawn &&
    (s.bay i).state.traffic

namespace Verifying

/-- A failed read is reported NO_ANSWER (R16). -/
theorem fails (h : Verifying s i x dest)
    (hf : (s.bay i).traffic.failures ≠ s.policy.lockoutLimit.get i) {e : Ending}
    (he : ∀ d, e ≠ .ack d) : (s.complete i e).closeEvent =
      withTraffic (s.report i dest .noAnswer) i
        { (s.bay i).traffic with bus := none, failures := failuresAfter s i } := by
  have bay : (freed (s.report i dest .noAnswer) i).bay i =
      { s.bay i with traffic := { (s.bay i).traffic with bus := none } } := by
    rw [freed_bay, report_bay]
  have due : (s.report i dest .noAnswer).due = none := by
    rw [report_eq]
    exact h.settled
  have policy : (freed (s.report i dest .noAnswer) i).policy = s.policy := by
    rw [report_eq]
    rfl
  have own : (freed s i).failed i x e.failure = freed (s.report i dest .noAnswer) i := by
    rw [State.failed, h.owner]
    exact report_freed
  have count : failuresAfter (freed (s.report i dest .noAnswer) i) i = failuresAfter s i := by
    unfold failuresAfter
    rw [policy, bay]
  rw [complete_failed_short h.bus he own (by rw [bay]; exact noTrips_bay h.noTrips i)
    (by rw [bay, policy]; exact hf), count, bay, freed, withTraffic_withTraffic]
  exact (congrArg State.closeEvent (Quiet.serves (h.quiet.afterEnd _ _))).trans
    (withTraffic_closes due i _)

theorem event (h : Verifying s i x dest) (o : VerifyOutcome) (data : List Byte) :
    BayEvent (s.report i dest o) i (verified s i dest o data) := by
  refine (counted_event ?_ ?_).snoop _ _
  · rw [report_eq]
    exact h.settled
  · refine noTrips_iff.2 fun j => ?_
    rw [report_bay]
    exact noTrips_bay h.noTrips j

theorem bay (s : State) (i : BayId) (dest : ReverifyDest) (o : VerifyOutcome)
    (data : List Byte) : (verified s i dest o data).bay i = { s.bay i with
      record := serialRead (snoopValue data) (s.bay i).record
      traffic := { (s.bay i).traffic with bus := none, failures := 0, tripRaised := false } } := by
  unfold verified
  rw [snoop_serial_bay, counted_bay, report_bay]

/-- An acknowledged read. -/
theorem ack (h : Verifying s i x dest) (hl : data.length = x.size.bytes) :
    let w := verified s i dest (verifyOutcome s i data) data
    exec (.transactionCompletion i (.own (.ack data))) s =
      .next (if movesOn s i dest data then (w.enterIdentifying i).arbitrate i
        else w.arbitrate i).closeEvent := by
  have event := h.event (verifyOutcome s i data) data
  have own : (counted s i).acknowledged i x (if x.write then [] else exactly x.size.bytes data) =
      if movesOn s i dest data
      then (verified s i dest (verifyOutcome s i data) data).enterIdentifying i
      else verified s i dest (verifyOutcome s i data) data := by
    rw [h.read, exactly_length hl, State.acknowledged, h.owner]
    unfold State.reverifyRead verified
    dsimp only
    rw [snoop_serial_report, report_counted, counted_bay]
    rfl
  have run := complete_acknowledged h.bus (noTrips_bay h.noTrips i) data own (by
    split
    · exact noTrips_bay event.enterIdentifying.noTrips i
    · exact noTrips_bay event.noTrips i)
  refine (congrArg (fun v : State => Host.Outcome.next v.closeEvent) run).trans ?_
  split <;> rfl

/-- A read that leaves the bay in its state. -/
theorem stays (h : Verifying s i x dest) (hl : data.length = x.size.bytes)
    (hm : movesOn s i dest data = false) : ∃ u : State,
    exec (.transactionCompletion i (.own (.ack data))) s = .next u ∧
    u.drop.log = (s.report i dest (verifyOutcome s i data)).drop.log ∧
    (u.bay i).traffic.failures = 0 ∧
    (u.bay i).record = serialRead (snoopValue data) (s.bay i).record ∧
    (u.bay i).state = (s.bay i).state ∧ (u.bay i).traffic.bus = none := by
  have event := h.event (verifyOutcome s i data) data
  have bay := bay s i dest (verifyOutcome s i data) data
  have idle : (verified s i dest (verifyOutcome s i data) data).arbitrate i =
      verified s i dest (verifyOutcome s i data) data := Quiet.arbitrate (by
    rw [bay]
    exact h.quiet.afterEnd 0 false)
  have run := h.ack hl
  dsimp only at run
  rw [hm, if_neg (by decide), idle] at run
  obtain ⟨⟨rest, -⟩, -, still⟩ := event.closes (by rw [report_eq]; exact h.settled)
  rw [bay] at still
  refine ⟨_, run, (congrArg (fun v : State => v.drop.log) rest :), ?_, still.record, still.state, ?_⟩
  · rw [still.traffic]
  · rw [still.traffic]

end Verifying

/-! ### A quiet bay sent to identification (R15, R44, R45) -/

/-- A bay where nothing waits, as it enters identification. -/
structure Reidentifying (t : State) (i : BayId) (r : PackRecord) (n : Nat) : Prop where
  looks : Looks t i
  noTrips : t.NoTrips
  state : (t.bay i).state = .identifying
  timer : (t.bay i).timer = none
  record : (t.bay i).record = r.reidentify
  waiting : (t.bay i).traffic.waiting = []
  alert : (t.bay i).traffic.alert = false
  ident : (t.bay i).traffic.ident = some .first
  reverify : (t.bay i).traffic.reverify = none
  round : (t.bay i).traffic.round = none
  failures : (t.bay i).traffic.failures = n

theorem reidentifying_of (h : BayEvent s i t) (hq : Quiet (t.bay i).traffic)
    (hb : (t.bay i).traffic.bus = none) :
    Reidentifying (t.enterIdentifying i) i (t.bay i).record (t.bay i).traffic.failures := by
  have bay := enterIdentifying_bay t i
  have noTrips := h.enterIdentifying.noTrips
  obtain ⟨kw, kb, kf, -⟩ := onMove_traffic t.policy t.ctl.mode (t.bay i).state .identifying
    (t.bay i).traffic
  obtain ⟨ka, -, kv, kr⟩ := onMove_kinds t.policy t.ctl.mode (t.bay i).state .identifying
    (t.bay i).traffic
  have left := bay.traffic
  exact {
    looks := ⟨by rw [left]; exact kb.trans hb, by rw [bay.state]; rfl, noTrips_bay noTrips i⟩
    noTrips := noTrips
    state := bay.state
    timer := bay.timer
    record := bay.record
    waiting := by rw [left]; exact kw.trans hq.waiting
    alert := by rw [left]; exact ka.trans hq.alert
    ident := by rw [left]; rfl
    reverify := by rw [left]; exact kv.trans hq.reverify
    round := by rw [left]; exact kr
    failures := by rw [left]; exact kf }

namespace Reidentifying
variable {r : PackRecord} {n : Nat}

/-- With an entry for the CLASS read it is made (R15). -/
theorem reads (h : Reidentifying t i r n) (event : BayEvent s i t) (hd : s.due = none)
    {e : CommandEntry} (he : s.policy.ownEntry .cls = some e) :
    let u := (t.arbitrate i).closeEvent
    u.drop.log = s.drop.log ∧ (u.bay i).traffic.failures = n ∧
    (u.bay i).state = .identifying ∧ (u.bay i).record = r.reidentify ∧
    (u.bay i).timer = none ∧ (u.bay i).traffic.ident = some .first ∧
    (u.bay i).traffic.bus = some (ownTransaction s.policy (.identification 0) e .cls) := by
  have policy : t.policy = s.policy := event.work.policy
  have serves := Served.ident (s := t) (i := i) ⟨h.looks.bus, h.looks.runs, h.looks.trip⟩ h.alert
    (.inl (by rw [h.waiting]; simp)) h.ident (by rw [policy]; exact he)
  dsimp only
  rw [serves.arbitrate rfl, policy]
  obtain ⟨⟨rest, -⟩, -, still⟩ := (event.onTraffic fun _ => _).closes hd
  have still' := still
  rw [onTraffic_bay] at still'
  refine ⟨(congrArg (fun v : State => v.drop.log) rest :), ?_, still'.state.trans h.state,
    still'.record.trans h.record, still'.timer.trans h.timer, ?_, ?_⟩
  · exact (congrArg Traffic.failures still'.traffic :).trans h.failures
  · exact (congrArg Traffic.ident still'.traffic :).trans h.ident
  · exact (congrArg Traffic.bus still'.traffic :)

/-- Without one the identification ends in TABLE_INCOMPLETE (R44). -/
theorem incomplete (h : Reidentifying t i r n) (event : BayEvent s i t) (hd : s.due = none)
    (he : s.policy.ownEntry .cls = none) :
    let u := (t.arbitrate i).closeEvent
    u.drop.log = s.drop.log ∧ (u.bay i).traffic.failures = n ∧
    (u.bay i).state = .quarantined ∧
    (u.bay i).record = { r.reidentify with outcome := .tableIncomplete } ∧
    (u.bay i).timer = none ∧ (u.bay i).traffic.ident = none ∧ (u.bay i).traffic.bus = none := by
  have policy : t.policy = s.policy := event.work.policy
  have arbitrates := arbitrate_incomplete h.looks h.alert h.waiting h.ident
    (by rw [policy]; exact he) h.reverify h.round
  obtain ⟨state, record, ident, bus, failures, -⟩ := incomplete_ends h.looks h.noTrips h.state
    h.alert h.waiting h.ident (by rw [policy]; exact he) h.reverify h.round
  obtain ⟨⟨rest, -⟩, -, still⟩ := event.tableIncomplete.closes hd
  dsimp only
  refine ⟨?_, failures.trans h.failures, state, by rw [record, h.record], ?_, ident, bus⟩
  · rw [arbitrates]
    exact (congrArg (fun v : State => v.drop.log) rest :)
  · rw [arbitrates]
    exact still.timer.trans ((tableIncomplete_bay t i).timer.trans (by
      dsimp only [entered]
      rw [h.state]
      exact if_neg (by decide)))

end Reidentifying

/-- What a read leaves that sends its bay to identification (R45). -/
theorem Verifying.moves (h : Verifying s i x dest) (hl : data.length = x.size.bytes)
    (hm : movesOn s i dest data = true) : ∃ w u : State,
    Reidentifying w i (serialRead (snoopValue data) (s.bay i).record) 0 ∧
    BayEvent (s.report i dest (verifyOutcome s i data)) i w ∧
    u = (w.arbitrate i).closeEvent ∧ exec (.transactionCompletion i (.own (.ack data))) s = .next u := by
  have event := h.event (verifyOutcome s i data) data
  have bay := Verifying.bay s i dest (verifyOutcome s i data) data
  have run := h.ack hl
  dsimp only at run
  rw [if_pos hm] at run
  have waits := reidentifying_of event (by rw [bay]; exact h.quiet.afterEnd 0 false) (by rw [bay])
  rw [bay] at waits
  exact ⟨_, _, waits, event.enterIdentifying, rfl, run⟩

theorem serialMatches_iff {r : PackRecord} {v : Nat} :
    serialMatches r v = true ↔ ∃ d, r.identity = some d ∧ d.serial = v := by
  simp [serialMatches]

end

/-- Settles O59, part by part. -/
theorem reportsBecomeRecords : Obligations.ReportsBecomeRecords := by
  unfold Obligations.ReportsBecomeRecords
  refine ⟨fun m h => isqrt_bounds h, fun s r hlen => ?created, fun s old q hlog => ?written,
    fun s i x dest data hd hn hb ho hx hlen hw ha hi hv hk => ?read⟩
  case created =>
    intro t old
    have drop := createRecord_drop s r
    have log : t.drop.log = joinLog (newRecord s r) old := congrArg DropLog.log drop
    refine ⟨newRecord s r, log.trans (joinLog_eq _ _), ?_, rfl, congrArg DropLog.drops drop, rfl, rfl,
      rfl, fun h => if_pos h, fun h => if_neg h, fun h => if_neg h, fun h => ?_, rfl, rfl, rfl, rfl,
      rfl, rfl, rfl, congrArg DropLog.episodeRecord drop, fun h o ho => ?_, createRecord_flags s r,
      fun h => ?_, fun h => ?_⟩
    · have len : old.length = s.drop.log.length := by
        unfold old
        split
        · exact length_onNewest _ _
        · rfl
      rw [log, joinLog_eq, List.length_append, List.length_drop, len, List.length_singleton]
      omega
    · refine (if_pos h).trans ?_
      simp only [heightMm, pow_two]
    · refine interruptedClose_allClosed h ?_
      rwa [interruptedClose_drop]
    · refine (createRecord_ctl s r).trans (if_pos ?_)
      obtain h | h := h <;> rw [h] <;> rfl
    · refine (createRecord_ctl s r).trans (if_neg ?_)
      obtain h | h := h <;> rw [h] <;> decide
  case written =>
    intro newest
    refine ⟨fun peak v multiple => ⟨updateRecord_off, fun h => ?_⟩, ⟨rfl, rfl, ?_, fun ho => ?_,
      fun ho => ⟨recordEnded_log hlog ho, fun i => ?_⟩⟩, fun i o => ⟨fun ho hv => ?_, fun h => ?_, rfl,
      rfl⟩⟩
    · obtain ⟨frame, log⟩ := updateRecord_frame' (peak := peak) (v := v) (multiple := multiple) h hlog
      exact ⟨frame, log, fun was hq => updateRecord_rises h hlog hq⟩
    · refine (congrArg DropLog.inForce (interruptedClose_drop s)).trans rfl
    · have closed := recordEnded_closed ((holdsOpen_concat hlog).trans ho)
      exact ⟨(congrArg (fun v : State => v.drop.log) closed).trans hlog,
        (congrArg State.bays closed).trans rfl⟩
    · have traffic : (s.recordEnded.bay i).traffic = _ :=
        interruptedClose_traffic ((holdsOpen_concat hlog).trans ho) i
      rw [traffic]
      exact withdrawReverify_left _
    · exact (report_log hlog i o).trans (by rw [writeVerify_written ho hv])
    · exact (report_log hlog i o).trans (by rw [writeVerify_kept h])
  case read =>
    intro y n v failed ack serials
    have h : Verifying s i x dest := ⟨hd, hn, hb, ho, hx, hw, ha, hi, hv, hk⟩
    have outcome (b : Bool) (hm : serialMatches y.record v = b) : verifyOutcome s i data =
        if b then .verified else .changed := by
      rw [← hm]
      rfl
    have differs (hv : ∀ d, y.record.identity = some d → d.serial ≠ v) :
        serialMatches y.record v = false := Bool.eq_false_iff.2 fun hm => by
      obtain ⟨d, hd, he⟩ := serialMatches_iff.1 hm
      exact hv d hd he
    refine ⟨fun hf => ⟨?_, fun hl => ?_⟩, fun ⟨d, hd', he⟩ => ?_, fun hv' => ⟨fun hm => ?_,
      fun hdest ht e he => ?_, fun hdest ht he => ?_⟩⟩
    · exact congrArg Host.Outcome.next
        ((h.fails hf (e := .nack) (by simp)).trans withTraffic_report)
    · exact (exec_limitExpiry hb hl).trans
        (congrArg Host.Outcome.next ((h.fails hf (by simp)).trans withTraffic_report))
    · have same : serialMatches y.record v = true := serialMatches_iff.2 ⟨d, hd', he⟩
      obtain ⟨u, run, log, failures, record, state, bus⟩ := h.stays hlen (by
        unfold movesOn
        rw [show serialMatches (s.bay i).record (snoopValue data) = true from same]
        rfl)
      rw [outcome _ same] at log
      exact ⟨u, run, log, failures, record.trans (serialRead_same hd' he), state, bus⟩
    · obtain ⟨u, run, log, failures, record, state, bus⟩ := h.stays hlen (by
        unfold movesOn
        obtain hm | hm := hm
        · simp [hm]
        · rw [show (s.bay i).state.traffic = false from hm, Bool.and_false])
      rw [outcome _ (differs hv')] at log
      exact ⟨u, run, log, failures, record, state, bus⟩
    · obtain ⟨w, u, waits, event, rfl, run⟩ := h.moves hlen (by
        unfold movesOn
        rw [show serialMatches (s.bay i).record (snoopValue data) = false from differs hv',
          show (s.bay i).state.traffic = true from ht]
        simpa using hdest)
      rw [outcome _ (differs hv')] at event
      obtain ⟨log, failures, state, record, timer, ident, bus⟩ := waits.reads event
        (by rw [report_eq]; exact hd) (e := e) (by rw [report_eq]; exact he)
      rw [report_eq] at bus
      exact ⟨_, run, log, failures, state, record, timer, ident, bus⟩
    · obtain ⟨w, u, waits, event, rfl, run⟩ := h.moves hlen (by
        unfold movesOn
        rw [show serialMatches (s.bay i).record (snoopValue data) = false from differs hv',
          show (s.bay i).state.traffic = true from ht]
        simpa using hdest)
      rw [outcome _ (differs hv')] at event
      obtain ⟨log, failures, state, record, timer, ident, bus⟩ := waits.incomplete event
        (by rw [report_eq]; exact hd) (by rw [report_eq]; exact he)
      exact ⟨_, run, log, failures, state, record, timer, ident, bus⟩

end Sys2Proof.Proofs
end

section
/-!
PROOFS. What the arbiters, the bay managers and the end of an event leave of the drop log unit, the
motion unit and the bays' lock reasons (R12, R53, R57, R78).
-/

namespace Sys2Proof.Proofs
open Sys2Proof.Machine

/-! ### Logs that verify outcomes alone tell apart (R152) -/

/-- A log that differs from another in the newest record's verify outcomes alone. -/
def Reverified (l l' : List DropRecord) : Prop :=
  ∃ f : DropRecord → DropRecord,
    (∀ r, ∃ v o, f r = { r with verify := v, isOpen := o }) ∧ l' = onNewest f l

theorem onNewest_id (l : List DropRecord) : onNewest id l = l := by
  induction l with
  | nil => rfl
  | cons r rs ih =>
    cases rs with
    | nil => rfl
    | cons q qs => exact congrArg (r :: ·) ih

namespace Reverified
variable {l l' l'' : List DropRecord}

theorem refl (l : List DropRecord) : Reverified l l :=
  ⟨id, fun r => ⟨r.verify, r.isOpen, rfl⟩, (onNewest_id l).symm⟩

theorem trans (h : Reverified l l') (g : Reverified l' l'') : Reverified l l'' := by
  obtain ⟨f, hf, rfl⟩ := h
  obtain ⟨k, hk, rfl⟩ := g
  refine ⟨fun r => k (f r), fun r => ?_, onNewest_onNewest k f l⟩
  obtain ⟨v, o, hv⟩ := hf r
  obtain ⟨w, p, hw⟩ := hk (f r)
  exact ⟨w, p, hw.trans (by rw [hv])⟩

theorem written (i : BayId) (o : VerifyOutcome) (l : List DropRecord) :
    Reverified l (onNewest (DropRecord.writeVerify i o) l) := by
  refine ⟨_, fun r => ?_, rfl⟩
  unfold DropRecord.writeVerify DropRecord.closeIfVerified
  split
  · split <;> exact ⟨_, _, rfl⟩
  · exact ⟨r.verify, r.isOpen, rfl⟩

theorem length (h : Reverified l l') : l'.length = l.length := by
  obtain ⟨f, -, rfl⟩ := h
  exact length_onNewest f l

/-- The newest record is the same but for its verify outcomes. -/
theorem newest (h : Reverified l l') {q : DropRecord} (hq : l.getLast? = some q) :
    ∃ v o, l'.getLast? = some { q with verify := v, isOpen := o } := by
  obtain ⟨f, hf, rfl⟩ := h
  obtain ⟨v, o, hv⟩ := hf q
  exact ⟨v, o, by rw [getLast?_onNewest, hq, ← hv]; rfl⟩

end Reverified

/-! ### The relation -/

/-- A bay's loss filter shortened again (R41). -/
def shortened (y : Bay) : Bay := { y with loss := y.loss.map fun f => { f with long := false } }

/-- A bay after such work: its GUARD reason as it was, no trip deferred and no loss left to end. -/
structure BayAftermath (y z : Bay) : Prop where
  guard : z.reasons.guard = y.reasons.guard
  trip : y.tripDeferred = false → z.tripDeferred = false
  loss : y.lossEndsAtReturn = false → z.lossEndsAtReturn = false

namespace BayAftermath
variable {x y z : Bay}

theorem of_same (hg : z.reasons = y.reasons) (ht : z.tripDeferred = y.tripDeferred)
    (hl : z.loss = y.loss) : BayAftermath y z :=
  ⟨by rw [hg], fun h => ht.trans h, fun h => by unfold Bay.lossEndsAtReturn at *; rwa [hl]⟩

theorem refl (y : Bay) : BayAftermath y y := of_same rfl rfl rfl

theorem trans (h : BayAftermath x y) (g : BayAftermath y z) : BayAftermath x z :=
  ⟨g.guard.trans h.guard, fun hx => g.trip (h.trip hx), fun hx => g.loss (h.loss hx)⟩

end BayAftermath

/-- `t` is `s` after work of the arbiters, the bay managers and the supply controller: of the drop log
unit, the PARK pin and verify outcomes may differ; the motion unit and the hold mask are as they were;
no GUARD reason changes, no trip is deferred; what waits for a busy transmitter in the ACCEL slot stays. -/
structure Aftermath (s t : State) : Prop where
  drop : ∃ p l, t.drop = { s.drop with parkPin := p, log := l } ∧ Reverified s.drop.log l
  motion : t.motion = s.motion
  holdMask : t.holdMask = s.holdMask
  flag : t.flags.motion = s.flags.motion
  bays : ∀ i, BayAftermath (s.bay i) (t.bay i)
  slot : s.link.sending.isSome = true →
    t.link.sending = s.link.sending ∧ t.link.accelSlot = s.link.accelSlot

namespace Aftermath
variable {s t u : State}

theorem refl (s : State) : Aftermath s s :=
  ⟨⟨_, _, rfl, .refl _⟩, rfl, rfl, rfl, fun _ => .refl _, fun _ => ⟨rfl, rfl⟩⟩

theorem trans (h : Aftermath s t) (g : Aftermath t u) : Aftermath s u := by
  obtain ⟨p, l, hd, hl⟩ := h.drop
  obtain ⟨p', l', gd, gl⟩ := g.drop
  refine ⟨⟨p', l', by rw [gd, hd], hl.trans (by rw [hd] at gl; exact gl)⟩, g.motion.trans h.motion,
    g.holdMask.trans h.holdMask, g.flag.trans h.flag, fun i => (h.bays i).trans (g.bays i),
    fun hs => ?_⟩
  obtain ⟨h1, h2⟩ := h.slot hs
  obtain ⟨g1, g2⟩ := g.slot (by rw [h1]; exact hs)
  exact ⟨g1.trans h1, g2.trans h2⟩

theorem of_same (hd : t.drop = s.drop) (hm : t.motion = s.motion) (hh : t.holdMask = s.holdMask)
    (hf : t.flags.motion = s.flags.motion) (hl : t.link = s.link)
    (hb : ∀ i, BayAftermath (s.bay i) (t.bay i)) : Aftermath s t :=
  ⟨⟨s.drop.parkPin, s.drop.log, hd, .refl _⟩, hm, hh, hf, hb, fun _ => by rw [hl]; exact ⟨rfl, rfl⟩⟩

/-! ### Elementary updates -/

theorem onBay (h : Aftermath s t) (i : BayId) {f : Bay → Bay}
    (hf : BayAftermath (t.bay i) (f (t.bay i))) : Aftermath s (t.onBay i f) := by
  refine h.trans (of_same rfl rfl rfl rfl rfl ((forall_bay_iff i).2 ⟨?_, ?_⟩))
  · rw [State.onBay_bay]
    exact hf
  · rw [State.onBay_bay_ne t (otherBay_ne i)]
    exact .refl _

theorem onTraffic (h : Aftermath s t) (i : BayId) (f : Traffic → Traffic) :
    Aftermath s (t.onTraffic i f) :=
  h.onBay i (f := fun y => { y with traffic := f y.traffic }) (.of_same rfl rfl rfl)

theorem onRecord (h : Aftermath s t) (i : BayId) (f : PackRecord → PackRecord) :
    Aftermath s (t.onRecord i f) :=
  h.onBay i (f := fun y => { y with record := f y.record }) (.of_same rfl rfl rfl)

theorem owe (h : Aftermath s t) (e : SupplyEvent) : Aftermath s (t.owe e) :=
  h.trans (of_same rfl rfl rfl rfl rfl fun _ => .refl _)

theorem wakeEvent (h : Aftermath s t) (k : WakeKind) : Aftermath s (t.wakeEvent k) :=
  h.trans (of_same rfl rfl rfl rfl rfl fun _ => .refl _)

theorem bumpChoice (h : Aftermath s t) : Aftermath s t.bumpChoice :=
  h.trans (of_same rfl rfl rfl rfl rfl fun _ => .refl _)

theorem raise (h : Aftermath s t) {sp : Space} (hs : sp ≠ .motion) (f : Flag) :
    Aftermath s (t.raise sp f) := by
  refine h.trans (of_same rfl rfl rfl ?_ rfl fun _ => .refl _)
  rw [raise_eq]
  exact SpaceFlags.get_set_ne _ (Ne.symm hs) _

theorem syncPins (h : Aftermath s t) : Aftermath s t.syncPins := by
  obtain ⟨b, hb⟩ := syncPins_drop t
  refine h.trans ⟨⟨b, t.drop.log, hb, .refl _⟩, by simp, by simp, by simp, fun i => ?_,
    fun _ => by simp⟩
  rw [syncPins_bay_eq]
  exact .of_same rfl rfl rfl

theorem setReasons (h : Aftermath s t) (i : BayId) {f : LockReasons → LockReasons}
    (hf : ∀ r, (f r).guard = r.guard) : Aftermath s (t.setReasons i f) := by
  refine (h.onBay i (f := fun y => y.setReasons (t.lines.lockConfirm.get i) (f y.reasons))
    ⟨?_, ?_, ?_⟩).syncPins
  · simp [hf]
  · simp
  · simp [Bay.lossEndsAtReturn]

theorem report (h : Aftermath s t) (i : BayId) (d : ReverifyDest) (o : VerifyOutcome) :
    Aftermath s (t.report i d o) := by
  cases d with
  | record =>
    refine h.trans ⟨⟨t.drop.parkPin, _, rfl, .written i o _⟩, rfl, rfl, rfl,
      fun _ => .refl _, fun _ => ⟨rfl, rfl⟩⟩
  | removed => exact h
  | withdrawn => exact h

theorem respond (h : Aftermath s t) (r : Response) : Aftermath s (t.respond r) := by
  refine h.trans ⟨⟨t.drop.parkPin, t.drop.log, by simp, .refl _⟩, by simp, by simp, ?_, fun i => ?_,
    fun hs => ?_⟩
  · rw [respond_eq]
  · rw [respond_bay]
    exact .refl _
  · by_cases hf : 8 ≤ t.link.responses.length
    · rw [respond_full r hf]
      exact ⟨rfl, rfl⟩
    · have busy := transmit_of_sending (s := t.onLink fun l =>
        { l with responses := l.responses ++ [r] }) (.inl hs)
      rw [respond_room r (Nat.not_le.1 hf), busy]
      exact ⟨rfl, rfl⟩

theorem respondAll (h : Aftermath s t) (rs : List Response) : Aftermath s (t.respondAll rs) := by
  induction rs generalizing t with
  | nil => exact h
  | cons r rs ih => exact ih (h.respond r)

/-! ### Bays that move, and their traffic -/

theorem moveBay (h : Aftermath s t) (i : BayId) (n : BayState) : Aftermath s (t.moveBay i n) := by
  have moved := ((h.onBay i (f := Bay.enter t.policy t.ctl.mode (t.lines.lockConfirm.get i) n)
    (.of_same (by simp) (by simp) (by simp))).syncPins).owe .other
  unfold State.moveBay
  dsimp only
  split
  · exact moved
  · exact moved.raise (by cases i <;> decide) _

theorem reportLost (h : Aftermath s t) (i : BayId) (tr : Traffic) :
    Aftermath s (t.reportLost i tr) := by
  unfold State.reportLost
  dsimp only
  (repeat' split) <;> simp only [Aftermath.report, h]

theorem settleSilent (h : Aftermath s t) (i : BayId) : Aftermath s (t.settleSilent i) := by
  rw [settleSilent_eq]
  exact ((h.onTraffic i _).reportLost i _).respondAll _

theorem settleEmpty (h : Aftermath s t) (i : BayId) : Aftermath s (t.settleEmpty i) := by
  rw [settleEmpty_eq]
  exact ((h.onTraffic i _).reportLost i _).respondAll _

theorem contactLoss (h : Aftermath s t) (i : BayId) : Aftermath s (t.contactLoss i) := by
  have cleared := h.onBay i (f := Bay.cleared) ⟨rfl, fun _ => rfl, fun _ => rfl⟩
  unfold State.contactLoss
  dsimp only
  split
  · exact cleared
  · split
    · exact (cleared.moveBay i .empty).settleEmpty i
    · exact ((cleared.raise (by cases i <;> decide) _).moveBay i .empty).settleEmpty i

theorem takeCheck (h : Aftermath s t) (i : BayId) : Aftermath s (t.takeCheck i) :=
  (h.onRecord i _).moveBay i _

theorem tableIncomplete (h : Aftermath s t) (i : BayId) : Aftermath s (t.tableIncomplete i) :=
  (h.onRecord i _).moveBay i _

/-! ### The arbiters (R12) -/

theorem grant (h : Aftermath s t) (i : BayId) (x : Transaction) (f : Traffic → Traffic) :
    Aftermath s (t.grant i x f) := h.onTraffic i _

theorem serveMaintenance (h : Aftermath s t) (i : BayId) :
    Aftermath s (t.serveMaintenance i).1 := by
  unfold State.serveMaintenance
  dsimp only
  (repeat' split) <;> try dsimp only
  · exact h.grant i _ _
  · exact h.tableIncomplete i
  · exact h.grant i _ _
  · exact (h.onTraffic i _).report i _ _
  · exact h.grant i _ _
  · exact h.onTraffic i _
  · exact h

theorem arbitrateOnce (h : Aftermath s t) (i : BayId) : Aftermath s (t.arbitrateOnce i).1 := by
  unfold State.arbitrateOnce
  dsimp only
  (repeat' split) <;> try dsimp only
  · exact h
  · exact h.grant i _ _
  · exact h.onTraffic i _
  · exact h.serveMaintenance i
  · exact h.grant i _ _
  · exact h.serveMaintenance i

theorem arbitrate (h : Aftermath s t) (i : BayId) : Aftermath s (t.arbitrate i) := by
  suffices ∀ n, Aftermath s (t.arbitrateIn i n) from this 8
  intro n
  induction n generalizing t with
  | zero => exact h
  | succ n ih =>
    unfold State.arbitrateIn
    dsimp only
    split
    · exact h.arbitrateOnce i
    · exact ih (h.arbitrateOnce i)

/-! ### The end of an event (R53, R78) -/

theorem supplyTransition (h : Aftermath s t) (ev : SupplyEvent) :
    Aftermath s (t.supplyTransition ev) := by
  refine h.trans (of_same (by simp) (by simp) (by simp) ?_ (by simp) fun i => ?_)
  · exact supplyTransition_flags ev t (sp := .motion) (by decide)
  · have same : (t.supplyTransition ev).bay i = t.bay i := by simp [State.bay]
    rw [same]
    exact .refl _

theorem onBoth (h : Aftermath s t) {f g : Bay → Bay} (hf : ∀ y, BayAftermath y (f y))
    (hg : ∀ y, BayAftermath y (g y)) : Aftermath s ((t.onBay .a f).onBay .b g) :=
  (h.onBay .a (hf _)).onBay .b (hg _)

theorem reevaluate (h : Aftermath s t) (ev : SupplyEvent) : Aftermath s (t.reevaluate ev) := by
  have discharge {u : State} (h : Aftermath s u) : Aftermath s u.selectDischarge := by
    unfold State.selectDischarge
    dsimp only
    split <;> exact h.onBoth (fun _ => .of_same rfl rfl rfl) fun _ => .of_same rfl rfl rfl
  have charge {u : State} (h : Aftermath s u) : Aftermath s u.selectCharge := by
    unfold State.selectCharge
    dsimp only
    refine h.onBoth ?_ ?_ <;> exact fun _ => .of_same rfl rfl rfl
  have last {u : State} (h : Aftermath s u) : Aftermath s (u.setLastSupply id) := by
    unfold State.setLastSupply
    dsimp only
    refine (h.setReasons .a ?_).setReasons .b ?_ <;> exact fun _ => rfl
  have allow {u : State} (h : Aftermath s u) : Aftermath s u.allowPower := by
    rw [allowPower_state]
    exact h.trans (of_same rfl rfl rfl rfl rfl fun _ => .refl _)
  exact allow (last (charge (discharge (h.supplyTransition ev))))

theorem endDeferral (h : Aftermath s t) (i : BayId) : Aftermath s (t.endDeferral i) := by
  unfold State.endDeferral
  split
  · exact ((h.onBay i (f := undeferred) ⟨rfl, fun _ => rfl, id⟩).moveBay i .silent).settleSilent i
  · exact h

theorem closeEvent (h : Aftermath s t) : Aftermath s t.closeEvent := by
  suffices ∀ n, Aftermath s (t.closeEventIn n) from this 3
  have settled {u : State} (h : Aftermath s u) : Aftermath s u.settled :=
    h.trans (of_same rfl rfl rfl rfl rfl fun _ => .refl _)
  intro n
  induction n generalizing t with
  | zero => exact settled h
  | succ n ih =>
    unfold State.closeEventIn
    split
    · exact h
    · exact ih ((((settled h).reevaluate _).endDeferral .a).endDeferral .b)

/-! ### The managers' part of the guard's return (R57, R150, R151) -/

theorem requestReverify (h : Aftermath s t) (i : BayId) : Aftermath s (t.requestReverify i) := by
  unfold State.requestReverify
  split
  · exact (h.onTraffic i _).arbitrate i
  · exact h.report i _ _

theorem verifyBay (h : Aftermath s t) (i : BayId) (x : BayState) :
    Aftermath s (t.verifyBay i x) := by
  unfold State.verifyBay
  split
  · exact h.requestReverify i
  · exact h.report i _ _

theorem readmissionTest (h : Aftermath s t) (i : BayId) : Aftermath s (t.readmissionTest i) := by
  unfold State.readmissionTest
  dsimp only
  split
  · exact h.takeCheck i
  · exact h

theorem returnFilters (h : Aftermath s t) (i : BayId) : Aftermath s (t.returnFilters i) := by
  have unpause {u : State} (h : Aftermath s u) : Aftermath s (u.onBay i (Bay.pauseTimer false)) :=
    h.onBay i (.of_same (by simp) (by simp) (by simp))
  unfold State.returnFilters
  dsimp only
  split
  · exact unpause (h.contactLoss i)
  · refine unpause (h.onBay i (f := shortened) ⟨rfl, id, fun _ => ?_⟩)
    unfold Bay.lossEndsAtReturn shortened
    cases (t.bay i).loss <;> rfl

theorem bayReturn (h : Aftermath s t) (i : BayId) : Aftermath s (t.bayReturn i) := by
  have decision {u : State} (h : Aftermath s u) : Aftermath s (u.returnDecision i) := by
    unfold State.returnDecision
    split
    · exact h.takeCheck i
    · exact h
  have online {u : State} (h : Aftermath s u) : Aftermath s (u.returnOnline i) := by
    unfold State.returnOnline
    dsimp only
    split
    · exact h.moveBay i .online
    · exact h
  have readmission {u : State} (h : Aftermath s u) : Aftermath s (u.returnReadmission i) := by
    unfold State.returnReadmission
    split
    · exact h.readmissionTest i
    · exact h
  exact readmission (online (decision (h.returnFilters i)))

theorem baysReturn (h : Aftermath s t) : Aftermath s t.baysReturn :=
  (h.bayReturn .a).bayReturn .b

end Aftermath

end Sys2Proof.Proofs
end

section
/-!
PROOFS. Accelerometer samples on their way to the guard and to the ACCEL stream, and injected samples
(R129, R132, R135, R143, R162 to R167, R182).
-/

namespace Sys2Proof.Proofs
open Sys2Proof.Machine

section
variable {s : State} {a : Accel3} {x y z : Int} {guard injected : Bool}

/-! ### Magnitudes and thresholds (R129, R132) -/

theorem accelOf_eq (x y z : Int) :
    accelOf x y z = ⟨x, y, z, x.natAbs ^ 2 + y.natAbs ^ 2 + z.natAbs ^ 2⟩ := by
  simp only [accelOf, pow_two]

theorem squaredCounts_eq (mg : Nat) : squaredCounts mg = (mg * 2048 / 1000) ^ 2 := by
  simp only [squaredCounts, pow_two]

/-! ### The ACCEL stream (R162 to R164) -/

theorem take_eq (c : StreamCtl) : c.take = if c.divider ≤ c.count + 1
    then { c with count := 0, forward := if 65535 ≤ c.forward then 1 else c.forward + 1 }
    else { c with count := c.count + 1 } := by
  unfold StreamCtl.take StreamCtl.forwards
  by_cases h : c.divider ≤ c.count + 1
  · rw [if_pos (by simpa using h), if_pos h]
    rfl
  · rw [if_neg (by simpa using h), if_neg h]

/-- The item that the sample makes (R163, R164). -/
def accelItem (s : State) (x y z : Int) (guard injected : Bool) : AccelItem :=
  ⟨if 65535 ≤ s.streams.accel.forward then 1 else s.streams.accel.forward + 1, s.uptime, x, y, z,
    guard, injected⟩

theorem takes_iff (m : PartMode) (c : StreamCtl) :
    c.takes m = true ↔ c.enabled = true ∧ m ≠ .dormant := by
  simp [StreamCtl.takes]

theorem offerAccel_off (h : ¬ (s.streams.accel.enabled = true ∧ s.ctl.mode ≠ .dormant)) :
    s.offerAccel x y z guard injected = s := if_neg (mt (takes_iff _ _).1 h)

theorem offerAccel_taken (h : s.streams.accel.enabled = true ∧ s.ctl.mode ≠ .dormant) :
    s.offerAccel x y z guard injected =
      if s.streams.accel.divider ≤ s.streams.accel.count + 1 then
        State.transmit { s with
          streams := { s.streams with accel := s.streams.accel.take }
          link := { s.link with accelSlot := some (accelItem s x y z guard injected) } }
      else { s with streams := { s.streams with accel := s.streams.accel.take } } := by
  refine (if_pos ((takes_iff _ _).2 h)).trans ?_
  dsimp only
  by_cases hf : s.streams.accel.divider ≤ s.streams.accel.count + 1
  · have number : s.streams.accel.take.forward =
        if 65535 ≤ s.streams.accel.forward then 1 else s.streams.accel.forward + 1 := by
      rw [take_eq, if_pos hf]
    rw [if_pos hf, if_pos (by simpa [StreamCtl.forwards] using hf), number]
    rfl
  · rw [if_neg hf, if_neg (by simpa [StreamCtl.forwards] using hf)]
    rfl

theorem offerAccel_streams (h : s.streams.accel.enabled = true ∧ s.ctl.mode ≠ .dormant) :
    (s.offerAccel x y z guard injected).streams =
      { s.streams with accel := s.streams.accel.take } := by
  rw [offerAccel_taken h]
  split
  · simp
  · rfl

/-! ### A sample in CALM (R135) -/

theorem calmSample_knock (h : s.motion.convert.hard2 ≤ a.m2) : s.calmSample a =
    (s.onMotion (Motion.enterKnock s.motion.convert a (takeSnapshot s))).guardLeavesCalm :=
  if_pos h

theorem calmSample_falls (h : a.m2 < s.motion.convert.hard2)
    (hf : fallBegins s.motion.convert a.m2 s.motion.freeFallRun = true) : s.calmSample a =
      ((s.onMotion (Motion.enterFalling s.motion.convert
        (nextRun s.motion.convert a.m2 s.motion.freeFallRun))).guardLeavesCalm).takeTrigger
          .freeFall :=
  (if_neg (Nat.not_le.2 h)).trans (if_pos hf)

theorem calmSample_rests (h : a.m2 < s.motion.convert.hard2)
    (hf : fallBegins s.motion.convert a.m2 s.motion.freeFallRun = false) : s.calmSample a =
      s.onMotion fun m =>
        { m with freeFallRun := nextRun s.motion.convert a.m2 s.motion.freeFallRun } :=
  (if_neg (Nat.not_le.2 h)).trans (if_neg (by simp [hf]))

theorem calmSample_accel (s : State) (a : Accel3) :
    (s.calmSample a).motion.accel = s.motion.accel := by
  unfold State.calmSample
  dsimp only
  (repeat' split) <;> simp [Motion.enterKnock, Motion.enterFalling]

/-! ### Samples accepted (R129, R143) -/

/-- The state with the stale timer restarted and the sample the latest. -/
def received (s : State) (a : Accel3) : State := { s with motion := { s.motion with
  accel := { s.motion.accel with
    stale := ⟨s.motion.accel.odr.staleLimit, s.motion.accel.odr.staleLimit⟩
    latest := some ⟨a, s.uptime⟩ } } }

/-- The guard takes the sample, then the stream. -/
def taken (s : State) (x y z : Int) (injected : Bool) : State :=
  let v := (received s (accelOf x y z)).guardSample (accelOf x y z)
  v.offerAccel x y z (guardActive v) injected

theorem accelArrival_replaced (h : s.streams.replaces .accel = true) : s.accelArrival x y z = s :=
  if_pos h

theorem accelArrival_running (h : s.streams.replaces .accel = false)
    (hc : s.motion.accel.condition = .running) : s.accelArrival x y z = taken s x y z false := by
  refine (if_neg (by simp [h])).trans ?_
  dsimp only
  rw [hc]
  rfl

/-- The state with its accelerometer RUNNING, nothing left to discard (R143). -/
def injecting (s : State) : State := { s with motion := { s.motion with
  accel := { s.motion.accel with condition := .running, discards := 0 } } }

theorem accelInjected_eq (s : State) (x y z : Int) :
    s.accelInjected x y z = taken (injecting s) x y z true := rfl

theorem taken_motion (s : State) (x y z : Int) (injected : Bool) :
    (taken s x y z injected).motion =
      ((received s (accelOf x y z)).guardSample (accelOf x y z)).motion := by
  simp [taken]

theorem guardSample_calm (h : s.motion.guard = .calm) : s.guardSample a = s.calmSample a := by
  unfold State.guardSample
  rw [h]

end

section
variable {s : State}

/-! ### Injected samples (R106, R143) -/

theorem light_injected {i : SensorId} {count : Nat} {g : Gain} {t : Integration} {th : Byte}
    {u : Light} (h : (u.sensor i).condition ≠ .off) (now : Nat) :
    u.injected now i count g t th =
      { u.onSensor i fun r => { r.accept now u.staleLimit count g t with discardOwed := false } with
        theta := if i = .front then some ⟨min 125 (max (-40) th.toInt), now⟩ else u.theta } := by
  refine (if_neg h).trans ?_
  cases i <;> rfl

theorem front_injected (count : Half) (g : Gain) (t : Integration) (th : Byte) (hd : s.due = none) :
    (s.takeSample (.front count g t th)).closeEvent =
      { s with light := s.light.injected s.uptime .front count.toNat g t th } :=
  State.closeEvent_of_settled hd

theorem rear_injected (count : Half) (g : Gain) (t : Integration) (hd : s.due = none) :
    (s.takeSample (.rear count g t)).closeEvent =
      { s with light := s.light.injected s.uptime .rear count.toNat g t 0 } :=
  State.closeEvent_of_settled hd

/-- The slot of a busy transmitter after a forwarded injected sample (R163, R189). -/
theorem taken_slot (x y z : Int) (injected : Bool) (hg : s.motion.guard = .calm)
    (hk : s.streams.accel.enabled = true) (hm : s.ctl.mode ≠ .dormant)
    (hf : s.streams.accel.divider ≤ s.streams.accel.count + 1)
    (hs : s.link.sending.isSome = true) :
    let u := (taken s x y z injected).closeEvent
    u.link.accelSlot = some (accelItem s x y z (u.motion.guard != .calm) injected) := by
  have sample := guardSample_calm (s := received s (accelOf x y z)) (a := accelOf x y z) hg
  have streams : ((received s (accelOf x y z)).calmSample (accelOf x y z)).streams = s.streams := by
    simp [received]
  have ctl : ((received s (accelOf x y z)).calmSample (accelOf x y z)).ctl = s.ctl := by
    simp [received]
  have link : ((received s (accelOf x y z)).calmSample (accelOf x y z)).link = s.link := by
    simp [received]
  have uptime : ((received s (accelOf x y z)).calmSample (accelOf x y z)).uptime = s.uptime := by
    simp [received]
  have motion : (taken s x y z injected).closeEvent.motion =
      ((received s (accelOf x y z)).calmSample (accelOf x y z)).motion := by
    simp [taken_motion, sample]
  dsimp only
  rw [motion]
  unfold taken
  dsimp only
  rw [sample]
  generalize (received s (accelOf x y z)).calmSample (accelOf x y z) = v at *
  have busy (w : State) (h : w.link.sending = s.link.sending) : w.transmit = w :=
    transmit_of_sending (.inl (by rw [h]; exact hs))
  rw [offerAccel_taken (by rw [streams, ctl]; exact ⟨hk, hm⟩), streams, if_pos hf]
  refine (congrArg (fun w : State => w.closeEvent.link.accelSlot)
    (busy _ ?_)).trans (((Aftermath.refl _).closeEvent.slot ?_).2.trans ?_)
  · exact (congrArg Link.sending link :)
  · exact (congrArg (fun l : Link => l.sending.isSome) link :).trans hs
  · rw [accelItem, streams, uptime]
    rfl

end

/-- Settles O25: an INJECT's bookkeeping, and each kind of sample as its block takes it. -/
theorem injectedSampleIsTaken : Obligations.InjectedSampleIsTaken := by
  unfold Obligations.InjectedSampleIsTaken
  refine ⟨fun s w x xs hw hx => ⟨fun hne => ?_, fun he => ?_⟩, fun v n => ⟨fun h => ?_,
    fun p ps hp hi => ?_⟩, fun s x y z c g t th hd => ?samples⟩
  · refine congrArg Host.Outcome.next ?_
    unfold State.injectedSample
    rw [hw]
    dsimp only
    rw [hx]
    exact if_neg hne
  · refine congrArg Host.Outcome.next ?_
    unfold State.injectedSample
    rw [hw]
    dsimp only
    rw [hx]
    exact if_pos he
  · cases n with
    | zero => rfl
    | succ n =>
      unfold State.drain
      obtain h | h := h
      · exact if_pos h
      · rw [h]
        split <;> rfl
  · rw [State.drain, hi, hp]
    exact congrArg (State.drain n) (handOn_of_free (s := v.onLink fun l => { l with waiting := ps })
      p hi).symm
  case samples =>
    intro taken' front rear u m2 sq k number
    have light {u v : Light} (h : u = v) : ({ s with light := u } : State) = { s with light := v } :=
      congrArg (fun u => { s with light := u }) h
    refine ⟨fun h => (front_injected c g t th hd).trans (light (if_pos h)),
      fun h => (front_injected c g t th hd).trans (light (light_injected (i := .front) h _)),
      fun h => (rear_injected c g t hd).trans (light (if_pos h)),
      fun h => (rear_injected c g t hd).trans (light (light_injected (i := .rear) h _)),
      fun hg => ?_⟩
    · have value := accelOf_eq x.toInt y.toInt z.toInt
      have sample := guardSample_calm (s := received (injecting s) (accelOf x.toInt y.toInt z.toInt))
        (a := accelOf x.toInt y.toInt z.toInt) hg
      have motion : u.motion = ((received (injecting s) (accelOf x.toInt y.toInt z.toInt)).calmSample
          (accelOf x.toInt y.toInt z.toInt)).motion := by
        rw [← sample, ← taken_motion _ _ _ _ true]
        exact (State.closeEvent_frame _).2.2.2.2.2.2.2.1
      refine ⟨?_, fun h => ?_, fun h hf => ?_, fun hk hm hf hs =>
        taken_slot (s := injecting s) _ _ _ true hg hk hm hf hs⟩
      · rw [motion, calmSample_accel, value]
        rfl
      · rw [motion, value]
        rw [calmSample_knock (by exact (squaredCounts_eq _).trans_le h)]
        simp [Motion.enterKnock]
      · rw [motion, value, calmSample_rests]
        · refine ⟨hg, if_neg ?_⟩
          exact Nat.not_lt.2 ((squaredCounts_eq _).trans_le hf)
        · exact h.trans_eq (squaredCounts_eq _).symm
        · simp only [fallBegins, Bool.and_eq_false_iff, decide_eq_false_iff_not]
          exact .inl (Nat.not_lt.2 ((squaredCounts_eq _).trans_le hf))

end Sys2Proof.Proofs
end

section
/-!
PROOFS. The guard's return to CALM at the drop log unit and the bay managers (R142, R150, R151, R57).
-/

namespace Sys2Proof.Proofs
open Sys2Proof.Machine

/-- The drop log unit with its actions withdrawn (R150). -/
def withdrawn (d : DropLog) : DropLog :=
  { d with parkLine := false, inForce := 0, episode := 0, episodeRecord := false }

/-- `t` is `s` after the drop log unit's part of the return, but for the removal of GUARD. -/
structure Withdrawn (s t : State) : Prop where
  drop : ∃ p l, t.drop = { withdrawn s.drop with parkPin := p, log := l } ∧ Reverified s.drop.log l
  motion : t.motion = s.motion
  holdMask : t.holdMask = if hasAction s.drop.inForce .hold then 0 else s.holdMask
  flag : t.flags.motion = s.flags.motion
  bays : ∀ i, BayAftermath (s.bay i) (t.bay i)
  slot : s.link.sending.isSome = true →
    t.link.sending = s.link.sending ∧ t.link.accelSlot = s.link.accelSlot

namespace Withdrawn
variable {s t u : State}

theorem after (h : Aftermath s t) (g : Withdrawn t u) : Withdrawn s u := by
  obtain ⟨p, l, hd, hl⟩ := h.drop
  obtain ⟨p', l', gd, gl⟩ := g.drop
  rw [hd] at gl gd
  have hold := g.holdMask
  rw [h.holdMask, hd] at hold
  refine ⟨⟨p', l', gd, hl.trans gl⟩, g.motion.trans h.motion, hold, g.flag.trans h.flag,
    fun i => (h.bays i).trans (g.bays i), fun hs => ?_⟩
  obtain ⟨h1, h2⟩ := h.slot hs
  obtain ⟨g1, g2⟩ := g.slot (by rw [h1]; exact hs)
  exact ⟨g1.trans h1, g2.trans h2⟩

theorem before (h : Withdrawn s t) (g : Aftermath t u) : Withdrawn s u := by
  obtain ⟨p, l, hd, hl⟩ := h.drop
  obtain ⟨p', l', gd, gl⟩ := g.drop
  rw [hd] at gl gd
  refine ⟨⟨p', l', gd, hl.trans gl⟩, g.motion.trans h.motion, g.holdMask.trans h.holdMask,
    g.flag.trans h.flag, fun i => (h.bays i).trans (g.bays i), fun hs => ?_⟩
  obtain ⟨h1, h2⟩ := h.slot hs
  obtain ⟨g1, g2⟩ := g.slot (by rw [h1]; exact hs)
  exact ⟨g1.trans h1, g2.trans h2⟩

end Withdrawn

section
variable {s t : State}

/-! ### The drop log unit's part (R150, R151) -/

theorem withdrawHold_eq (s : State) : s.withdrawHold =
    if hasAction s.drop.inForce .hold then (s.withHoldMask 0).arbitrateBoth else s := rfl

/-- What follows the withdrawal: the PARK pin and the re-verifications. -/
theorem startReverify_aftermath (s : State) : Aftermath
    (s.onDrop fun d => { d with episodeRecord := false }) s.startReverify := by
  unfold State.startReverify
  dsimp only
  (repeat' split)
  · exact ((Aftermath.refl _).verifyBay .a _).verifyBay .b _
  · exact .refl _
  · exact .refl _

/-- The actions withdrawn, once the mask is empty and the arbiters have looked. -/
theorem withdrawn_of_hold {m : BitVec 4}
    (hm : m = if hasAction s.drop.inForce .hold then 0 else s.holdMask)
    (h : Aftermath (s.withHoldMask m) t) : Withdrawn s (t.onDrop withdrawn) := by
  obtain ⟨p, l, hd, hl⟩ := h.drop
  exact ⟨⟨p, l, congrArg withdrawn hd, hl⟩, h.motion, h.holdMask.trans hm, h.flag, h.bays, h.slot⟩

theorem withdrawRest_eq (s : State) :
    (s.withdrawRest.onDrop fun d => { d with episodeRecord := false }) =
      (s.withdrawHold.onDrop withdrawn).syncPins := by
  unfold State.withdrawRest
  rw [syncPins_eq, syncPins_eq]
  rfl

theorem dropReturn_withdrawn (s : State) : Withdrawn s s.dropReturn := by
  refine Withdrawn.before ?_ (startReverify_aftermath s.withdrawRest)
  rw [withdrawRest_eq]
  refine Withdrawn.before ?_ (Aftermath.refl _).syncPins
  rw [withdrawHold_eq]
  split
  next h =>
    exact withdrawn_of_hold (m := 0) (by rw [if_pos h])
      (((Aftermath.refl _).arbitrate .a).arbitrate .b)
  next h => exact withdrawn_of_hold (m := s.holdMask) (by rw [if_neg h]) (.refl _)

/-! ### The return at both blocks (R142, log 14) -/

theorem bay_setReasons_still (c : Bool) (r : LockReasons) (y : Bay) :
    BayStill y (y.setReasons c r) := by
  have h := setReasons_eq c r y
  generalize y.setReasons c r = z at h
  rw [h]
  rfl

theorem setReasons_still (s : State) (i j : BayId) (f : LockReasons → LockReasons) :
    BayStill (s.bay j) ((s.setReasons i f).bay j) := by
  by_cases h : j = i
  · subst h
    rw [setReasons_bay]
    exact (bay_setReasons_still _ _ _).trans (pinned_still _ _)
  · rw [setReasons_bay_ne s h]
    exact pinned_still _ _

theorem setReasons_reasons (s : State) (i : BayId) (f : LockReasons → LockReasons) :
    ((s.setReasons i f).bay i).reasons = f (s.bay i).reasons := by
  rw [setReasons_bay]
  exact Bay.setReasons_reasons _ _ _

theorem setReasons_reasons_ne (s : State) {i j : BayId} (h : j ≠ i)
    (f : LockReasons → LockReasons) :
    ((s.setReasons i f).bay j).reasons = (s.bay j).reasons := by
  rw [setReasons_bay_ne s h]
  rfl

/-- Both lock-reason sets changed at once. -/
def bothReasons (s : State) (f : LockReasons → LockReasons) : State :=
  (s.setReasons .a f).setReasons .b f

theorem bothReasons_reasons (s : State) (f : LockReasons → LockReasons) (i : BayId) :
    ((bothReasons s f).bay i).reasons = f (s.bay i).reasons := by
  unfold bothReasons
  cases i with
  | a => rw [setReasons_reasons_ne _ (by decide), setReasons_reasons]
  | b => rw [setReasons_reasons, setReasons_reasons_ne _ (by decide)]

theorem bothReasons_still (s : State) (f : LockReasons → LockReasons) (i : BayId) :
    BayStill (s.bay i) ((bothReasons s f).bay i) :=
  (setReasons_still s .a i f).trans (setReasons_still _ .b i f)

/-- What a change of the lock reasons leaves: of the drop log unit, all but the PARK pin. -/
theorem bothReasons_drop (s : State) (f : LockReasons → LockReasons) :
    ∃ p, (bothReasons s f).drop = { s.drop with parkPin := p } := by
  obtain ⟨p, hp⟩ := syncPins_drop (s.onBay .a fun y =>
    y.setReasons (s.lines.lockConfirm.get .a) (f y.reasons))
  obtain ⟨q, hq⟩ := syncPins_drop ((s.setReasons .a f).onBay .b fun y =>
    y.setReasons ((s.setReasons .a f).lines.lockConfirm.get .b) (f y.reasons))
  exact ⟨q, hq.trans (congrArg (fun d : DropLog => { d with parkPin := q }) hp)⟩

theorem withdrawLock_eq (s : State) : s.withdrawLock =
    if hasAction s.drop.inForce .lock then bothReasons s (fun r => { r with guard := false })
    else s := rfl

/-- The state after the whole of the return at both blocks (R142, R150). -/
structure Returned (s t : State) : Prop where
  drop : ∃ p l, t.drop = { withdrawn s.drop with parkPin := p, log := l } ∧ Reverified s.drop.log l
  motion : t.motion = s.motion
  hold : hasAction s.drop.inForce .hold = true → t.holdMask = 0
  lock : hasAction s.drop.inForce .lock = true → ∀ i, (t.bay i).reasons.guard = false
  flag : t.flags.motion = s.flags.motion
  trips : s.NoTrips → t.NoTrips
  slot : s.link.sending.isSome = true →
    t.link.sending = s.link.sending ∧ t.link.accelSlot = s.link.accelSlot

/-- The removal of GUARD, which comes first (R57). -/
structure Unlocked (s t : State) : Prop where
  drop : ∃ p, t.drop = { s.drop with parkPin := p }
  still : ∀ i, BayStill (s.bay i) (t.bay i)
  lock : hasAction s.drop.inForce .lock = true → ∀ i, (t.bay i).reasons.guard = false
  rest : t = { s with drop := t.drop, bays := t.bays }

theorem withdrawLock_unlocked (s : State) : Unlocked s s.withdrawLock := by
  rw [withdrawLock_eq]
  split
  · refine ⟨bothReasons_drop s _, bothReasons_still s _, fun _ i => ?_, ?_⟩
    · rw [bothReasons_reasons]
    · unfold bothReasons
      rw [setReasons_state, setReasons_state]
  next h =>
    exact ⟨⟨_, rfl⟩, fun i => .refl _, fun hl => absurd hl h, rfl⟩

/-- The parts of both blocks, in the order that the return takes. -/
theorem returnAtBlocks_withdrawn (s : State) : Withdrawn s.withdrawLock s.returnAtBlocks := by
  unfold State.returnAtBlocks
  dsimp only
  split
  · split
    · exact .after (Aftermath.refl _).bumpChoice
        ((dropReturn_withdrawn _).before (Aftermath.refl _).baysReturn)
    · exact .after ((Aftermath.refl _).bumpChoice.baysReturn) (dropReturn_withdrawn _)
  · exact (dropReturn_withdrawn _).before (Aftermath.refl _).baysReturn

theorem returnAtBlocks_returned (s : State) : Returned s s.returnAtBlocks := by
  obtain ⟨⟨p, hp⟩, still, lock, rest⟩ := withdrawLock_unlocked s
  have w := returnAtBlocks_withdrawn s
  obtain ⟨q, l, hd, hl⟩ := w.drop
  generalize s.withdrawLock = v at *
  have hold := w.holdMask
  rw [hp] at hd hl hold
  have link : v.link = s.link := (congrArg State.link rest :)
  refine ⟨⟨q, l, hd, hl⟩, w.motion.trans (congrArg State.motion rest :),
    fun h => hold.trans (if_pos h), fun h i => (w.bays i).guard.trans (lock h i),
    w.flag.trans (congrArg (·.flags.motion) rest :), fun hn => noTrips_iff.2 fun i =>
      (w.bays i).trip ((still i).tripDeferred.trans (noTrips_bay hn i)), fun hs => ?_⟩
  rw [← link] at hs ⊢
  exact w.slot hs

theorem Returned.before {u : State} (h : Returned s t) (g : Aftermath t u) : Returned s u := by
  obtain ⟨p, l, hd, hl⟩ := h.drop
  obtain ⟨p', l', gd, gl⟩ := g.drop
  rw [hd] at gd gl
  refine ⟨⟨p', l', gd, hl.trans gl⟩, g.motion.trans h.motion, fun hh => g.holdMask.trans (h.hold hh),
    fun hl i => (g.bays i).guard.trans (h.lock hl i), g.flag.trans h.flag, fun hn =>
      noTrips_iff.2 fun i => (g.bays i).trip (noTrips_bay (h.trips hn) i), fun hs => ?_⟩
  obtain ⟨h1, h2⟩ := h.slot hs
  obtain ⟨g1, g2⟩ := g.slot (by rw [h1]; exact hs)
  exact ⟨g1.trans h1, g2.trans h2⟩

/-! ### A return that takes no contact loss -/

/-- No loss filter ends at the return (R41). -/
def NoLoss (s : State) : Prop := ∀ i, (s.bay i).lossEndsAtReturn = false

theorem noLoss_of (h : NoLoss s) (ht : ∀ i, (t.bay i).loss = (s.bay i).loss) : NoLoss t :=
  fun i => by unfold Bay.lossEndsAtReturn; rw [ht]; exact h i

theorem NoLoss.after (h : NoLoss s) (g : Aftermath s t) : NoLoss t := fun i => (g.bays i).loss (h i)

theorem returnAtBlocks_quiet (h : NoLoss s) :
    s.returnAtBlocks = s.withdrawLock.dropReturn.baysReturn := by
  have ha : s.bays.a.lossEndsAtReturn = false := h .a
  have hb : s.bays.b.lossEndsAtReturn = false := h .b
  exact if_neg (by simp [ha, hb])

theorem bayReturn_link (i : BayId) (h : (s.bay i).lossEndsAtReturn = false) :
    (s.bayReturn i).link = s.link := by
  have filters : (s.returnFilters i).link = s.link := by
    unfold State.returnFilters
    dsimp only
    rw [if_neg (by simp [h])]
    rfl
  unfold State.bayReturn
  simp [filters]

theorem baysReturn_link (h : NoLoss s) : s.baysReturn.link = s.link := by
  have h' : NoLoss (s.bayReturn .a) := h.after ((Aftermath.refl _).bayReturn .a)
  exact (bayReturn_link .b (h' .b)).trans (bayReturn_link .a (h .a))

theorem returnAtBlocks_link (h : NoLoss s) : s.returnAtBlocks.link = s.link := by
  have unlocked := withdrawLock_unlocked s
  have h1 : NoLoss s.withdrawLock := noLoss_of h fun i => (unlocked.still i).loss
  have h2 : NoLoss s.withdrawLock.dropReturn :=
    fun i => ((dropReturn_withdrawn _).bays i).loss (h1 i)
  rw [returnAtBlocks_quiet h, baysReturn_link h2]
  have link : s.withdrawLock.link = s.link := (congrArg State.link unlocked.rest :)
  exact (by simp : s.withdrawLock.dropReturn.link = s.withdrawLock.link).trans link

end
end Sys2Proof.Proofs
end

section
/-!
PROOFS. A trigger's actions taken (R146 to R149, R55), and the return to CALM (R142).
-/

namespace Sys2Proof.Proofs
open Sys2Proof.Machine

/-! ### The actions that a trigger takes (R146) -/

/-- The actions of a trigger's entry that it takes. -/
def taking (s : State) (t : Trigger) : BitVec 6 := triggerTakes s.ctl.mode (s.drop.entry t)

/-- The lasting actions among them that are not yet in force. -/
def freshActions (s : State) (t : Trigger) : BitVec 6 :=
  taking s t &&& lastingActions &&& ~~~s.drop.inForce

/-- The actions that join the record (R156). -/
def joining (s : State) (t : Trigger) : BitVec 6 :=
  taking s t ||| (s.drop.entry t &&& s.drop.inForce)

/-! ### The actions one after another -/

def noteTrigger (s : State) (t : Trigger) : State := s.onDrop fun d =>
  { d with inForce := d.inForce ||| freshActions s t, episode := d.episode ||| joining s t,
           log := if d.episodeRecord then onNewest (DropRecord.join (joining s t)) d.log else d.log }

def parkIf (b : Bool) (s : State) : State :=
  if b then (s.onDrop (DropLog.park s.lines.parkAck)).syncPins else s

def lockIf (b : Bool) (s : State) : State := if b then s.takeLock else s

def freezeIf (b : Bool) (s : State) : State := if b then s.takeFreeze else s

def holdIf (b : Bool) (m : BitVec 4) (s : State) : State := if b then s.withHoldMask m else s

def suspectIf (b : Bool) (s : State) : State := if b then s.takeSuspect else s

section
variable {s u : State} {t : Trigger} {b : Bool}

theorem takeTrigger_eq (s : State) (t : Trigger) : s.takeTrigger t =
    suspectIf (hasAction (taking s t) .suspect)
      (holdIf (hasAction (freshActions s t) .hold) s.drop.holdClasses
        (freezeIf (hasAction (freshActions s t) .freeze)
          (lockIf (hasAction (freshActions s t) .lock)
            (parkIf (hasAction (freshActions s t) .park) (noteTrigger s t))))) := rfl

/-- A bay after FREEZE and SUSPECT, where they are taken. -/
def triggeredBay (fz su : Bool) (y : Bay) : Bay :=
  { y with
    timer := if fz then y.timer.map fun x => { x with paused := true } else y.timer
    record := if su && y.contact then { y.record with suspect := true } else y.record }

/-- The drop log unit after PARK and LOCK, where they are taken. -/
def triggeredDrop (s : State) (t : Trigger) (d : DropLog) : DropLog :=
  { d with
    inForce := s.drop.inForce ||| freshActions s t
    episode := s.drop.episode ||| joining s t
    log := if s.drop.episodeRecord then onNewest (DropRecord.join (joining s t)) s.drop.log
      else s.drop.log
    parkLine := hasAction (freshActions s t) .park || s.drop.parkLine
    parkMark := if hasAction (freshActions s t) .park then s.lines.parkAck else s.drop.parkMark
    priorLock := if hasAction (freshActions s t) .lock
      then ⟨s.bays.a.latch == .locked, s.bays.b.latch == .locked⟩ else s.drop.priorLock }

/-- `u` is `s` after the trigger `t` was taken. -/
structure TriggerTaken (s : State) (t : Trigger) (u : State) : Prop where
  drop : ∃ p, u.drop = { triggeredDrop s t s.drop with parkPin := p }
  bays : ∀ i, BayStill (triggeredBay (hasAction (freshActions s t) .freeze)
    (hasAction (taking s t) .suspect) (s.bay i)) (u.bay i)
  guard : ∀ i, (u.bay i).reasons.guard =
    (hasAction (freshActions s t) .lock || (s.bay i).reasons.guard)
  holdMask : u.holdMask = if hasAction (freshActions s t) .hold then s.drop.holdClasses
    else s.holdMask
  due : u.due = s.due ∨ u.due = (s.owe .other).due

theorem parkIf_parks (b : Bool) (s : State) :
    (∃ p, (parkIf b s).drop = { s.drop with
      parkLine := b || s.drop.parkLine
      parkMark := if b then s.lines.parkAck else s.drop.parkMark, parkPin := p }) ∧
    (∀ i, (parkIf b s).bay i = { s.bay i with solenoidPin := ((parkIf b s).bay i).solenoidPin }) ∧
    parkIf b s = { s with drop := (parkIf b s).drop, bays := (parkIf b s).bays } := by
  cases b with
  | false => exact ⟨⟨_, rfl⟩, fun _ => rfl, rfl⟩
  | true =>
    obtain ⟨p, hp⟩ := syncPins_drop (s.onDrop (DropLog.park s.lines.parkAck))
    refine ⟨⟨p, hp⟩, fun i => ?_, ?_⟩
    · have e : (parkIf true s).bay i = pinned _ (s.bay i) := syncPins_bay_eq _ i
      rw [e]
      rfl
    · have e : parkIf true s = _ := syncPins_eq _
      rw [e]
      rfl

theorem lockIf_locks (b : Bool) (s : State) :
    (∃ p, (lockIf b s).drop = { s.drop with
      priorLock := if b then ⟨s.bays.a.latch == .locked, s.bays.b.latch == .locked⟩
        else s.drop.priorLock
      parkPin := p }) ∧
    (∀ i, BayStill (s.bay i) ((lockIf b s).bay i)) ∧
    (∀ i, ((lockIf b s).bay i).reasons.guard = (b || (s.bay i).reasons.guard)) ∧
    lockIf b s = { s with drop := (lockIf b s).drop, bays := (lockIf b s).bays } := by
  cases b with
  | false => exact ⟨⟨_, rfl⟩, fun _ => .refl _, fun _ => rfl, rfl⟩
  | true =>
    let w := s.onDrop fun d =>
      { d with priorLock := ⟨s.bays.a.latch == .locked, s.bays.b.latch == .locked⟩ }
    have e : lockIf true s = bothReasons w fun r => { r with guard := true } := rfl
    obtain ⟨p, hp⟩ := bothReasons_drop w fun r => { r with guard := true }
    rw [e]
    refine ⟨⟨p, hp⟩, bothReasons_still w _, fun i => ?_, ?_⟩
    · rw [bothReasons_reasons]
      rfl
    · unfold bothReasons
      rw [setReasons_state, setReasons_state]
      rfl

theorem freezeIf_bay (b : Bool) (s : State) (i : BayId) : (freezeIf b s).bay i = { s.bay i with
    timer := if b then (s.bay i).timer.map fun x => { x with paused := true }
      else (s.bay i).timer } := by
  cases b <;> cases i <;> rfl

theorem freezeIf_rest (b : Bool) (s : State) :
    freezeIf b s = { s with bays := (freezeIf b s).bays } := by
  cases b <;> rfl

theorem markSuspect_eq (y : Bay) : y.markSuspect = { y with
    record := if y.contact then { y.record with suspect := true } else y.record } := by
  unfold Bay.markSuspect
  split <;> rfl

theorem suspectIf_bay (b : Bool) (s : State) (i : BayId) : (suspectIf b s).bay i = { s.bay i with
    record := if b && (s.bay i).contact then { (s.bay i).record with suspect := true }
      else (s.bay i).record } := by
  cases b with
  | false => rfl
  | true =>
    have marked : (suspectIf true s).bay i = (s.bay i).markSuspect := by
      change s.takeSuspect.bay i = _
      unfold State.takeSuspect
      dsimp only
      split <;> cases i <;> rfl
    rw [marked, markSuspect_eq]
    rfl

theorem suspectIf_rest (b : Bool) (s : State) :
    suspectIf b s = { s with bays := (suspectIf b s).bays, due := (suspectIf b s).due } ∧
    ((suspectIf b s).due = s.due ∨ (suspectIf b s).due = (s.owe .other).due) := by
  cases b with
  | false => exact ⟨rfl, .inl rfl⟩
  | true =>
    change s.takeSuspect = { s with bays := s.takeSuspect.bays, due := s.takeSuspect.due } ∧
      (s.takeSuspect.due = s.due ∨ s.takeSuspect.due = (s.owe .other).due)
    unfold State.takeSuspect
    dsimp only
    split
    · exact ⟨rfl, .inr rfl⟩
    · exact ⟨rfl, .inl rfl⟩

theorem holdIf_rest (b : Bool) (m : BitVec 4) (s : State) : holdIf b m s =
    { s with holdMask := if b then m else s.holdMask } := by
  cases b <;> rfl

theorem takeTrigger_taken (s : State) (t : Trigger) : TriggerTaken s t (s.takeTrigger t) := by
  rw [takeTrigger_eq]
  generalize hp : hasAction (freshActions s t) .park = park
  generalize hl : hasAction (freshActions s t) .lock = lock
  generalize hf : hasAction (freshActions s t) .freeze = freeze
  generalize hh : hasAction (freshActions s t) .hold = hold
  generalize hs : hasAction (taking s t) .suspect = suspect
  have marks : ∀ i, (noteTrigger s t).bay i = s.bay i := fun i => by cases i <;> rfl
  obtain ⟨⟨p, pd⟩, pb, pr⟩ := parkIf_parks park (noteTrigger s t)
  generalize parkIf park (noteTrigger s t) = s2 at *
  obtain ⟨⟨q, ld⟩, lb, lg, lr⟩ := lockIf_locks lock s2
  generalize lockIf lock s2 = s3 at *
  have fb := freezeIf_bay freeze s3
  have fr := freezeIf_rest freeze s3
  generalize freezeIf freeze s3 = s4 at *
  rw [holdIf_rest]
  generalize hw : ({ s4 with holdMask := if hold then s.drop.holdClasses else s4.holdMask } : State)
    = s5
  have sb := suspectIf_bay suspect s5
  obtain ⟨sr, sd⟩ := suspectIf_rest suspect s5
  generalize suspectIf suspect s5 = u at *
  have held (i : BayId) : s5.bay i = s4.bay i := by rw [← hw]; cases i <;> rfl
  have due : s5.due = s.due := by
    rw [← hw, show s4.due = s3.due from (congrArg State.due fr :),
      show s3.due = s2.due from (congrArg State.due lr :)]
    exact (congrArg State.due pr :)
  have drop : u.drop = s3.drop := by
    rw [show u.drop = s5.drop from (congrArg State.drop sr :), ← hw]
    exact (congrArg State.drop fr :)
  have locked (i : BayId) : (s2.bay i).latch = (s.bay i).latch := by
    rw [pb, marks]
  refine ⟨⟨q, ?_⟩, fun i => ?_, fun i => ?_, ?_, ?_⟩
  · rw [drop, ld, pd]
    have la : s2.bays.a.latch = s.bays.a.latch := locked .a
    have lb : s2.bays.b.latch = s.bays.b.latch := locked .b
    rw [la, lb]
    unfold triggeredDrop
    rw [hp, hl]
    rfl
  · have still : BayStill (s.bay i) (s3.bay i) := by
      have parked : BayStill (s.bay i) (s2.bay i) := by
        rw [pb, marks]
        rfl
      exact parked.trans (lb i)
    have taken : u.bay i = triggeredBay freeze suspect (s3.bay i) := by
      rw [sb, held, fb]
      rfl
    rw [taken, hf, hs]
    exact (congrArg (triggeredBay freeze suspect) still :)
  · rw [sb, held, fb, hl]
    refine (lg i).trans ?_
    rw [pb, marks]
  · rw [show u.holdMask = s5.holdMask from (congrArg State.holdMask sr :), ← hw, hh]
    dsimp only
    rw [show s4.holdMask = s3.holdMask from (congrArg State.holdMask fr :),
      show s3.holdMask = s2.holdMask from (congrArg State.holdMask lr :),
      show s2.holdMask = s.holdMask from (congrArg State.holdMask pr :)]
  · exact sd.imp (fun h => h.trans due) fun h => h.trans (by
      unfold State.owe
      rw [due])

/-! ### The guard's own work on the bays -/

/-- A bay's running loss filter lengthened (R41). -/
def lengthened (y : Bay) : Bay := { y with loss := y.loss.map fun f => { f with long := true } }

theorem guardLeavesCalm_bay (s : State) (i : BayId) :
    s.guardLeavesCalm.bay i = lengthened (s.bay i) := by
  cases i <;> rfl

theorem interruptedClose_bay (s : State) (i : BayId) :
    ∃ t, s.interruptedClose.bay i = { s.bay i with traffic := t } := by
  cases h : s.drop.holdsOpen with
  | false => exact ⟨_, by rw [interruptedClose_closed h]⟩
  | true =>
    have e : s.interruptedClose = _ := if_pos h
    rw [e]
    cases i <;> exact ⟨_, rfl⟩

theorem createRecord_bays (s : State) (r : DropReport) :
    (s.createRecord r).bays = s.interruptedClose.bays := by
  unfold State.createRecord
  dsimp only
  split <;> rfl

theorem createRecord_bay (s : State) (r : DropReport) (i : BayId) :
    ∃ t, (s.createRecord r).bay i = { s.bay i with traffic := t } := by
  obtain ⟨t, h⟩ := interruptedClose_bay s i
  exact ⟨t, (by unfold State.bay; rw [createRecord_bays] : _ = s.interruptedClose.bay i).trans h⟩

theorem wakeEvent_mode (c : ModeCtl) (k : WakeKind) : (c.wakeEvent k).mode = c.mode := by
  unfold ModeCtl.wakeEvent
  split <;> rfl

/-! ### What a sample leaves: without a return, and with one -/

/-- `t` is `s` after work of the guard and the drop log unit without a return to CALM. -/
structure Steady (s t : State) : Prop where
  mode : t.ctl.mode = s.ctl.mode
  link : t.link = s.link
  bays : ∀ i, (t.bay i).tripDeferred = (s.bay i).tripDeferred ∧ (t.bay i).loss = (s.bay i).loss

/-- `t` is `s` after such work that ends in a return to CALM. -/
structure Ended (s t : State) : Prop where
  mode : t.ctl.mode = s.ctl.mode
  guard : t.motion.guard = .calm
  work : t.motion.work = .clear
  trips : s.NoTrips → t.NoTrips
  link : NoLoss s → t.link = s.link

namespace Steady
variable {s t : State}

theorem refl (s : State) : Steady s s := ⟨rfl, rfl, fun _ => ⟨rfl, rfl⟩⟩

theorem trans {u : State} (h : Steady s t) (g : Steady t u) : Steady s u :=
  ⟨g.mode.trans h.mode, g.link.trans h.link, fun i =>
    ⟨(g.bays i).1.trans (h.bays i).1, (g.bays i).2.trans (h.bays i).2⟩⟩

theorem onMotion (h : Steady s t) (f : Motion → Motion) : Steady s (t.onMotion f) :=
  ⟨h.mode, h.link, h.bays⟩

theorem takeTrigger (h : Steady s t) (x : Trigger) : Steady s (t.takeTrigger x) := by
  have taken := (takeTrigger_taken t x).bays
  exact h.trans ⟨by simp, by simp, fun i => ⟨(taken i).tripDeferred, (taken i).loss⟩⟩

theorem createRecord (h : Steady s t) (r : DropReport) : Steady s (t.createRecord r) := by
  refine h.trans ⟨?_, by simp, fun i => ?_⟩
  · rw [createRecord_ctl]
    split
    · exact wakeEvent_mode _ _
    · rfl
  · obtain ⟨t', e⟩ := createRecord_bay t r i
    rw [e]
    exact ⟨rfl, rfl⟩

theorem updateRecord (h : Steady s t) (p : Accel3) (v : Severity) (m : Bool) :
    Steady s (t.updateRecord p v m) := by
  refine h.trans ⟨?_, by simp, fun i => by simp [State.bay]⟩
  unfold State.updateRecord
  dsimp only
  (repeat' split)
  · exact wakeEvent_mode _ _
  · rfl
  · rfl
  · rfl

theorem recordEnded (h : Steady s t) : Steady s t.recordEnded := by
  refine h.trans ⟨by simp, by simp, fun i => ?_⟩
  obtain ⟨t', e⟩ := interruptedClose_bay t i
  rw [show t.recordEnded.bay i = _ from e]
  exact ⟨rfl, rfl⟩

theorem noTrips (h : Steady s t) (hn : s.NoTrips) : t.NoTrips :=
  noTrips_iff.2 fun i => (h.bays i).1.trans (noTrips_bay hn i)

end Steady

/-- The return after the guard's other work (R142). -/
theorem returnToCalm_eq (s : State) : ∃ r : State,
    Returned (s.onMotion fun m => { m with guard := .calm, work := .clear }) r ∧
    r = (s.onMotion fun m => { m with guard := .calm, work := .clear }).returnAtBlocks ∧
    s.returnToCalm = r.onMotion Motion.applyPending :=
  ⟨_, returnAtBlocks_returned _, rfl, rfl⟩

theorem applyPending_guard (m : Motion) : m.applyPending.guard = m.guard ∧
    m.applyPending.work = m.work ∧ m.applyPending.freeFallRun = m.freeFallRun := by
  unfold Motion.applyPending
  split <;> exact ⟨rfl, rfl, rfl⟩

theorem Steady.ends {s t : State} (h : Steady s t) : Ended s t.returnToCalm := by
  obtain ⟨r, ret, hr, e⟩ := returnToCalm_eq t
  have mode : r.ctl.mode = t.ctl.mode := by
    rw [hr]
    simp
  obtain ⟨hg, hw, -⟩ := applyPending_guard r.motion
  rw [e]
  refine ⟨mode.trans h.mode, hg.trans (by rw [ret.motion]; rfl), hw.trans (by rw [ret.motion]; rfl),
    fun hn => ret.trips (h.noTrips hn), fun hl => ?_⟩
  have loss : NoLoss t := noLoss_of hl fun i => (h.bays i).2
  have link : r.link = t.link := by
    rw [hr]
    exact returnAtBlocks_link loss
  exact link.trans h.link

section
variable {a : Accel3}

theorem afterWindow_steady {t : State} (h : Steady s t) (lost : Bool) :
    Steady s (t.afterWindow lost) ∨ Ended s (t.afterWindow lost) := by
  cases lost
  · exact .inl (h.onMotion _)
  · exact .inr h.ends

theorem windowEnd_steady {t : State} (h : Steady s t) (lost : Bool) :
    Steady s (t.windowEnd lost) ∨ Ended s (t.windowEnd lost) := by
  unfold State.windowEnd
  dsimp only
  split
  · exact afterWindow_steady (((h.onMotion _).takeTrigger _).createRecord _) lost
  · unfold State.laterWindowEnd
    extract_lets best sev multiple s1 s2
    have h1 : Steady s s1 := h.onMotion _
    refine afterWindow_steady (Steady.updateRecord ?_ _ _ _) lost
    unfold s2
    split
    · exact h1.takeTrigger _
    · exact h1
  · exact afterWindow_steady h lost

theorem guardSample_steady (h : s.motion.guard ≠ .calm) :
    Steady s (s.guardSample a) ∨ Ended s (s.guardSample a) := by
  have start := Steady.refl s
  cases hg : s.motion.guard with
  | calm => exact absurd hg h
  | falling =>
    have e : s.guardSample a = s.fallingSample a := by rw [State.guardSample, hg]
    rw [e]
    unfold State.fallingSample State.caught
    extract_lets c count catches s1
    have h1 : Steady s s1 := start.onMotion _
    (repeat' split)
    · exact .inl (start.onMotion _)
    · exact .inr (h1.createRecord _).ends
    · exact .inr h1.ends
    · exact .inr (h1.createRecord _).ends
    · exact .inl h1
  | impact =>
    have e : s.guardSample a = s.impactSample a := by rw [State.guardSample, hg]
    rw [e]
    unfold State.impactSample
    dsimp only
    split
    · exact windowEnd_steady (start.onMotion _) false
    · exact .inl (start.onMotion _)
  | settling =>
    have e : s.guardSample a = s.settlingSample a := by rw [State.guardSample, hg]
    rw [e]
    unfold State.settlingSample
    extract_lets c run count s1
    have h1 : Steady s s1 := start.onMotion _
    (repeat' split)
    · exact .inl (start.onMotion _)
    · exact .inl ((start.recordEnded.onMotion _).takeTrigger _)
    · exact .inr h1.ends
    · exact .inl h1

theorem calmSample_noTrips (hn : s.NoTrips) : (s.calmSample a).NoTrips := by
  have leaves {u : State} (hu : u.NoTrips) : u.guardLeavesCalm.NoTrips := noTrips_iff.2 fun i => by
    rw [guardLeavesCalm_bay]
    exact noTrips_bay hu i
  unfold State.calmSample
  dsimp only
  (repeat' split)
  · exact leaves (u := s.onMotion _) hn
  · exact ((Steady.refl _).takeTrigger _).noTrips (leaves (u := s.onMotion _) hn)
  · exact hn

theorem guardSample_mode : (s.guardSample a).ctl.mode = s.ctl.mode := by
  by_cases h : s.motion.guard = .calm
  · rw [guardSample_calm h]
    simp
  · exact (guardSample_steady h).elim (·.mode) (·.mode)

theorem guardSample_noTrips (hn : s.NoTrips) : (s.guardSample a).NoTrips := by
  by_cases h : s.motion.guard = .calm
  · rw [guardSample_calm h]
    exact calmSample_noTrips hn
  · exact (guardSample_steady h).elim (fun g => g.noTrips hn) (fun g => g.trips hn)

/-- The link is as it was, unless the sample ends in a return that takes a contact loss. -/
theorem guardSample_link (h : s.motion.guard = .calm ∨ (s.guardSample a).motion.guard ≠ .calm ∨
    NoLoss s) : (s.guardSample a).link = s.link := by
  by_cases hc : s.motion.guard = .calm
  · rw [guardSample_calm hc]
    simp
  · obtain g | g := guardSample_steady (a := a) hc
    · exact g.link
    · obtain h | h | h := h
      · exact absurd h hc
      · exact absurd g.guard h
      · exact g.link h

end

end
end Sys2Proof.Proofs
end

section
/-!
PROOFS. The streams and their items (R162 to R164, R189).
-/

namespace Sys2Proof.Proofs
open Sys2Proof.Machine

section
variable {s : State} {x y z : Int} {ef er a : Option Nat} {lout : Nat}

theorem choose_accel {l : Link} {i : AccelItem} (hr : l.responses = []) (ha : l.alerts = [])
    (hs : l.accelSlot = some i) :
    l.choose = { l with accelSlot := none, sending := some (.accelSample i) } := by
  simp [Link.choose, hr, ha, hs]

theorem choose_light {l : Link} {i : LightItem} (hr : l.responses = []) (ha : l.alerts = [])
    (hs : l.accelSlot = none) (hl : l.lightSlot = some i) :
    l.choose = { l with lightSlot := none, sending := some (.lightSample i) } := by
  simp [Link.choose, hr, ha, hs, hl]

theorem transmit_link_busy {t : State} {l : Link} (hl : t.link = l)
    (h : l.sending.isSome = true ∨ t.lines.resetN = false) : t.transmit.link = l := by
  subst hl
  rw [transmit_of_sending h]

theorem transmit_link_idle {t : State} {l : Link} (hl : t.link = l) (hs : l.sending = none)
    (hr : t.lines.resetN = true) : t.transmit.link = l.choose := by
  subst hl
  rw [transmit_of_idle hs hr]
  rfl

/-! ### The LIGHT stream -/

theorem offerLight_taken (h : s.streams.light.enabled = true ∧ s.ctl.mode ≠ .dormant) :
    s.offerLight ef er a lout =
      if s.streams.light.divider ≤ s.streams.light.count + 1 then
        State.transmit { s with
          streams := { s.streams with light := s.streams.light.take }
          link := { s.link with lightSlot := some ⟨if 65535 ≤ s.streams.light.forward then 1
            else s.streams.light.forward + 1, s.uptime, ef, er, a, lout⟩ } }
      else { s with streams := { s.streams with light := s.streams.light.take } } := by
  refine (if_pos ((takes_iff _ _).2 h)).trans ?_
  dsimp only
  by_cases hf : s.streams.light.divider ≤ s.streams.light.count + 1
  · have number : s.streams.light.take.forward =
        if 65535 ≤ s.streams.light.forward then 1 else s.streams.light.forward + 1 := by
      rw [take_eq, if_pos hf]
    rw [if_pos hf, if_pos (by simpa [StreamCtl.forwards] using hf), number]
    rfl
  · rw [if_neg hf, if_neg (by simpa [StreamCtl.forwards] using hf)]
    rfl

/-- The item that the tick makes (R163, R164). -/
def lightItem (s : State) (ef er a : Option Nat) (lout : Nat) : LightItem :=
  ⟨if 65535 ≤ s.streams.light.forward then 1 else s.streams.light.forward + 1, s.uptime, ef, er, a,
    lout⟩

/-- What becomes of a LIGHT item that is taken (R164, R189). -/
theorem offerLight_item (h : s.streams.light.enabled = true ∧ s.ctl.mode ≠ .dormant) :
    let u := s.offerLight ef er a lout
    let item := lightItem s ef er a lout
    u.streams = { s.streams with light := s.streams.light.take } ∧
    (s.streams.light.count + 1 < s.streams.light.divider → u.link = s.link) ∧
    (s.streams.light.divider ≤ s.streams.light.count + 1 →
      (s.link.sending.isSome = true ∨ s.lines.resetN = false →
        u.link = { s.link with lightSlot := some item }) ∧
      (s.link.sending = none → s.lines.resetN = true → s.link.responses = [] →
        s.link.alerts = [] → s.link.accelSlot = none →
        u.link = { s.link with lightSlot := none, sending := some (.lightSample item) })) := by
  dsimp only
  rw [offerLight_taken h]
  refine ⟨?_, fun hf => ?_, fun hf => ?_⟩
  · split
    · simp
    · rfl
  · rw [if_neg (Nat.not_le.2 hf)]
  · rw [if_pos hf]
    refine ⟨fun hb => transmit_link_busy rfl hb, fun hs hr hp ha hc => ?_⟩
    refine Eq.trans (transmit_link_idle rfl (by exact hs) (by exact hr)) ?_
    exact choose_light (l := { s.link with lightSlot := some (lightItem s ef er a lout) })
      hp ha hc rfl

/-- What becomes of an ACCEL item that is taken (R164, R189). -/
theorem offerAccel_item {guard injected : Bool}
    (h : s.streams.accel.enabled = true ∧ s.ctl.mode ≠ .dormant) :
    let u := s.offerAccel x y z guard injected
    let item := accelItem s x y z guard injected
    (s.streams.accel.count + 1 < s.streams.accel.divider → u.link = s.link) ∧
    (s.streams.accel.divider ≤ s.streams.accel.count + 1 →
      (s.link.sending.isSome = true ∨ s.lines.resetN = false →
        u.link = { s.link with accelSlot := some item }) ∧
      (s.link.sending = none → s.lines.resetN = true → s.link.responses = [] →
        s.link.alerts = [] →
        u.link = { s.link with accelSlot := none, sending := some (.accelSample item) })) := by
  dsimp only
  rw [offerAccel_taken h]
  refine ⟨fun hf => ?_, fun hf => ?_⟩
  · rw [if_neg (Nat.not_le.2 hf)]
  · rw [if_pos hf]
    refine ⟨fun hb => transmit_link_busy rfl hb, fun hs hr hp ha => ?_⟩
    refine Eq.trans (transmit_link_idle rfl (by exact hs) (by exact hr)) ?_
    exact choose_accel (l := { s.link with accelSlot := some (accelItem s x y z guard injected) })
      hp ha rfl

/-- The state in which a tick offers its item. -/
theorem brightnessTick_offers (s : State) : ∃ t : State,
    t = { s with flags := t.flags, back := s.brightnessTick.back } ∧
    s.brightnessTick = t.offerLight s.light.front.usable s.light.rear.usable
      s.brightnessTick.back.filtered s.brightnessTick.back.lout := by
  have back := CurveRead.brightnessTick_back s
  rw [back]
  unfold State.brightnessTick
  dsimp only
  split <;> exact ⟨_, rfl, rfl⟩

theorem usable_eq (r : Sensor) : r.usable =
    if r.condition = .fresh then r.sample.map LightSample.lux else none := rfl

/-! ### An accepted sample's event -/

theorem closeEvent_link (hn : s.NoTrips) : s.closeEvent.link = s.link :=
  (congrArg State.link (BayWork.closeEvent hn (.refl s)) :)

/-- The state in which the sample is offered to the stream. -/
def guarded (s : State) (x y z : Int) : State :=
  (received s (accelOf x y z)).guardSample (accelOf x y z)

theorem taken_eq (s : State) (x y z : Int) (b : Bool) :
    taken s x y z b = (guarded s x y z).offerAccel x y z (guardActive (guarded s x y z)) b := rfl

theorem exec_accel (hr : s.streams.replaces .accel = false)
    (hc : s.motion.accel.condition = .running) (x y z : Half) :
    exec (.accelSampleArrival x y z) s =
      .next (taken s x.toInt y.toInt z.toInt false).closeEvent :=
  congrArg (fun v : State => Host.Outcome.next v.closeEvent) (accelArrival_running hr hc)

theorem taken_noTrips (hn : s.NoTrips) (b : Bool) : (taken s x y z b).NoTrips := by
  have guarded' : (guarded s x y z).NoTrips := guardSample_noTrips (s := received s _) hn
  rw [taken_eq]
  exact noTrips_iff.2 fun i => by simpa [State.bay] using noTrips_bay guarded' i

theorem guarded_streams (s : State) (x y z : Int) : (guarded s x y z).streams = s.streams := by
  simp [guarded, received]

theorem guarded_lines (s : State) (x y z : Int) : (guarded s x y z).lines = s.lines := by
  simp [guarded, received]

theorem guarded_uptime (s : State) (x y z : Int) : (guarded s x y z).uptime = s.uptime := by
  simp [guarded, received]

theorem guarded_mode (s : State) (x y z : Int) : (guarded s x y z).ctl.mode = s.ctl.mode :=
  guardSample_mode

/-- The motion unit after the sample is as the guard left it. -/
theorem taken_closes_motion (s : State) (x y z : Int) (b : Bool) :
    (taken s x y z b).closeEvent.motion = (guarded s x y z).motion := by
  simp [taken_eq]

theorem taken_closes_streams (s : State) (x y z : Int) (b : Bool) :
    (s.streams.accel.enabled = true ∧ s.ctl.mode ≠ .dormant →
      (taken s x y z b).closeEvent.streams =
        { s.streams with accel := s.streams.accel.take }) ∧
    (¬ (s.streams.accel.enabled = true ∧ s.ctl.mode ≠ .dormant) →
      (taken s x y z b).closeEvent.streams = s.streams) := by
  have closes : (taken s x y z b).closeEvent.streams = (taken s x y z b).streams := by simp
  rw [closes, taken_eq]
  constructor
  · intro h
    rw [offerAccel_streams (by rw [guarded_streams, guarded_mode]; exact h), guarded_streams]
  · intro h
    rw [offerAccel_off (by rw [guarded_streams, guarded_mode]; exact h), guarded_streams]

end

/-- Settles O60: a tick's item and a sample's. -/
theorem streamsForwardTheirItems : Obligations.StreamsForwardTheirItems := by
  unfold Obligations.StreamsForwardTheirItems
  intro s hd next taken'
  refine ⟨fun hm he ht => ⟨_, CurveRead.exec_brightnessTick_of_running ht, ?_⟩,
    fun x y z => ?_⟩
  · intro c lux item
    obtain ⟨t, ht, offers⟩ := brightnessTick_offers s
    have streams : t.streams = s.streams := (congrArg State.streams ht :)
    have link : t.link = s.link := (congrArg State.link ht :)
    have lines : t.lines = s.lines := (congrArg State.lines ht :)
    have uptime : t.uptime = s.uptime := (congrArg State.uptime ht :)
    have ctl : t.ctl = s.ctl := (congrArg State.ctl ht :)
    have given := offerLight_item (s := t) (ef := s.light.front.usable)
      (er := s.light.rear.usable) (a := s.brightnessTick.back.filtered)
      (lout := s.brightnessTick.back.lout) (by rw [streams, ctl]; exact ⟨he, hm⟩)
    rw [← offers, lightItem, streams, link, lines, uptime, take_eq] at given
    exact given
  · intro m2 sq c hr hc hn
    refine ⟨_, exec_accel hr hc x y z, ?_⟩
    intro item takes
    have motion := taken_closes_motion s x.toInt y.toInt z.toInt false
    have streams := taken_closes_streams s x.toInt y.toInt z.toInt false
    have value := accelOf_eq x.toInt y.toInt z.toInt
    refine ⟨fun hg hh hf => ?_, fun ht => ?_, streams.2, fun hl => ?_⟩
    · have rests : guarded s x.toInt y.toInt z.toInt = _ :=
        (guardSample_calm (s := received s _) hg).trans (calmSample_rests
          (by rw [value]; exact hh.trans_eq (squaredCounts_eq _).symm)
          (by
            simp only [fallBegins, Bool.and_eq_false_iff, decide_eq_false_iff_not, value]
            exact .inl (Nat.not_lt.2 ((squaredCounts_eq _).trans_le hf))))
      rw [motion, rests]
      exact hg
    · exact (streams.1 ht).trans (by rw [take_eq])
    · have link : (guarded s x.toInt y.toInt z.toInt).link = s.link :=
        guardSample_link (s := received s _) (hl.imp id (Or.imp (fun h => by
          rw [motion] at h
          exact h) fun h => h))
      have closes := closeEvent_link (taken_noTrips (x := x.toInt) (y := y.toInt) (z := z.toInt)
        hn false)
      rw [closes]
      refine ⟨fun ht => ?_, ?_⟩
      · rw [taken_eq, offerAccel_off (by rw [guarded_streams, guarded_mode]; exact ht), link]
      · have given (ht : takes) := offerAccel_item (s := guarded s x.toInt y.toInt z.toInt)
          (x := x.toInt) (y := y.toInt) (z := z.toInt)
          (guard := guardActive (guarded s x.toInt y.toInt z.toInt)) (injected := false)
          (by rw [guarded_streams, guarded_mode]; exact ht)
        rw [← taken_eq, accelItem, guarded_streams, guarded_uptime, guarded_lines, link,
          guardActive, ← motion] at given
        exact ⟨fun ht => (given ht).1, fun ht => (given ht).2⟩

end Sys2Proof.Proofs
end

section
/-!
PROOFS. The accelerometer's arrivals and its loss (R129 to R131, R134, R135, R141 to R143).
-/

namespace Sys2Proof.Proofs
open Sys2Proof.Machine

section
variable {s t u : State}

/-! ### A state after the return (R142) -/

/-- `u` is the state of an event in which `t` returned to CALM. -/
structure CalmAfter (t u : State) : Prop where
  guard : u.motion.guard = .calm
  work : u.motion.work = .clear
  run : u.motion.freeFallRun = t.motion.freeFallRun
  accel : u.motion.accel = t.motion.applyPending.accel
  drop : ∃ p l, u.drop = { withdrawn t.drop with parkPin := p, log := l } ∧ Reverified t.drop.log l
  hold : hasAction t.drop.inForce .hold = true → u.holdMask = 0
  lock : hasAction t.drop.inForce .lock = true → ∀ i, (u.bay i).reasons.guard = false
  flag : u.flags.motion = t.flags.motion

theorem returnToCalm_after (t : State) : CalmAfter t t.returnToCalm := by
  obtain ⟨r, ret, -, e⟩ := returnToCalm_eq t
  obtain ⟨hg, hw, hr⟩ := applyPending_guard r.motion
  have accel : r.motion.applyPending.accel = t.motion.applyPending.accel := by
    rw [ret.motion]
    unfold Motion.applyPending
    cases h : t.motion.accel.pendingOdr with
    | none => simp [State.onMotion, h]
    | some o => simp [State.onMotion, h]
  rw [e]
  exact ⟨hg.trans (by rw [ret.motion]; rfl), hw.trans (by rw [ret.motion]; rfl),
    hr.trans (by rw [ret.motion]; rfl), accel, ret.drop, ret.hold, ret.lock, ret.flag⟩

namespace CalmAfter

theorem offers (h : CalmAfter t u) (x y z : Int) (g b : Bool) :
    CalmAfter t (u.offerAccel x y z g b) := by
  refine ⟨?_, ?_, ?_, ?_, ?_, fun hh => ?_, fun hl i => ?_, ?_⟩
  · simpa using h.guard
  · simpa using h.work
  · simpa using h.run
  · simpa using h.accel
  · simpa using h.drop
  · simpa using h.hold hh
  · simpa [State.bay] using h.lock hl i
  · simpa using h.flag

theorem before {v : State} (h : CalmAfter t u) (g : Aftermath u v) : CalmAfter t v := by
  obtain ⟨p, l, hd, hl⟩ := h.drop
  obtain ⟨p', l', gd, gl⟩ := g.drop
  rw [hd] at gd gl
  exact ⟨by rw [g.motion]; exact h.guard, by rw [g.motion]; exact h.work,
    by rw [g.motion]; exact h.run, by rw [g.motion]; exact h.accel, ⟨p', l', gd, hl.trans gl⟩,
    fun hh => g.holdMask.trans (h.hold hh), fun hl i => (g.bays i).guard.trans (h.lock hl i),
    g.flag.trans h.flag⟩

theorem closes (h : CalmAfter t u) : CalmAfter t u.closeEvent := h.before (.closeEvent (.refl u))

/-- The actions are withdrawn, where the guard's other work left them as they were. -/
theorem calmAgain (h : CalmAfter t u) (hi : t.drop.inForce = s.drop.inForce)
    (hm : t.drop.parkMark = s.drop.parkMark) : s.CalmAgain u := by
  obtain ⟨p, l, hd, -⟩ := h.drop
  exact ⟨h.guard, h.work, by rw [hd]; rfl, by rw [hd]; rfl, by rw [hd]; rfl, by rw [hd]; rfl,
    by rw [hd]; exact hm, fun hh => h.hold (by rw [hi]; exact hh), fun hl =>
      ⟨h.lock (by rw [hi]; exact hl) .a, h.lock (by rw [hi]; exact hl) .b⟩⟩

end CalmAfter

/-! ### A record reported in the same event (R155) -/

/-- The newest record after a report. -/
structure Recorded (d : DropLog) (q : DropRecord) (e : DropLog) : Prop where
  newest : ∃ v o, e.log.getLast? = some { q with verify := v, isOpen := o }
  length : e.log.length = min 16 (d.log.length + 1)
  drops : e.drops = min 65535 (d.drops + 1)
  sequence : q.sequence = min 65535 (d.drops + 1)

theorem createRecord_recorded (r : DropReport) (h : s.drop.log.length ≤ 16) :
    Recorded s.drop (newRecord s r) (s.createRecord r).drop := by
  have drop := createRecord_drop s r
  have len : (if s.drop.holdsOpen then onNewest DropRecord.interrupt s.drop.log
      else s.drop.log).length = s.drop.log.length := by
    split
    · exact length_onNewest _ _
    · rfl
  rw [drop, joinLog_eq]
  refine ⟨⟨_, _, List.getLast?_concat⟩, ?_, rfl, rfl⟩
  rw [List.length_append, List.length_drop, List.length_singleton, len]
  omega

theorem Recorded.after {d : DropLog} {q : DropRecord} (h : Recorded d q t.drop)
    (g : CalmAfter t u) : Recorded d q u.drop := by
  obtain ⟨p, l, hd, hl⟩ := g.drop
  obtain ⟨v, o, hq⟩ := h.newest
  obtain ⟨v', o', hq'⟩ := hl.newest hq
  rw [hd]
  exact ⟨⟨v', o', hq'⟩, hl.length.trans h.length, h.drops, h.sequence⟩

/-! ### The loss of the sensor (R131, R141) -/

/-- The sensor STALE, started at its rate, and MOTION_STALE set (R131). -/
def staleSensor (s : State) : State := { s with
  flags := s.flags.raised .motion 0x10
  motion := { s.motion with accel := { s.motion.accel with
    condition := .stale, discards := 4
    stale := ⟨s.motion.accel.odr.staleLimit, s.motion.accel.odr.staleLimit⟩ } } }

theorem accelStale_eq (s : State) : s.accelStale = (staleSensor s).guardLoss := rfl

/-- Work of the guard that ends in a return: the sensor as it was, and DROP_RECORDED the one flag of
the motion unit that may be set. -/
structure GuardEnds (s t : State) : Prop where
  accel : t.motion.accel = s.motion.accel
  flag : t.flags.motion = s.flags.motion ∨ t.flags.motion = s.flags.motion ||| 0x20

namespace GuardEnds

theorem refl (s : State) : GuardEnds s s := ⟨rfl, .inl rfl⟩

theorem same (h : GuardEnds s t) (ha : u.motion.accel = t.motion.accel)
    (hf : u.flags.motion = t.flags.motion) : GuardEnds s u :=
  ⟨ha.trans h.accel, by rw [hf]; exact h.flag⟩

theorem createRecord (ha : t.motion.accel = s.motion.accel) (hf : t.flags.motion = s.flags.motion)
    (r : DropReport) : GuardEnds s (t.createRecord r) := by
  refine ⟨by simpa using ha, .inr ?_⟩
  rw [createRecord_flags, ← hf]
  rfl

theorem updateRecord (ha : t.motion.accel = s.motion.accel) (hf : t.flags.motion = s.flags.motion)
    (p : Accel3) (v : Severity) (m : Bool) : GuardEnds s (t.updateRecord p v m) := by
  refine ⟨by simpa using ha, ?_⟩
  rw [← hf]
  unfold State.updateRecord
  dsimp only
  (repeat' split)
  · exact .inr rfl
  · exact .inr rfl
  · exact .inl rfl
  · exact .inl rfl

end GuardEnds

theorem reportFall_eq (s : State) (k : RecordKind) (n : Nat) : s.reportFall k n = s.createRecord
    { kind := k, fallSamples := some n, periodUs := s.motion.accel.odr.periodUs,
      peak := none, severity := none, snapshot := takeSnapshot s } := rfl

theorem guardLoss_falling (h : s.motion.guard = .falling) : s.guardLoss =
    (s.reportFall .sensorLost (s.motion.work.fallCount.getD 0)).returnToCalm := by
  rw [State.guardLoss, h]

theorem guardLoss_impact (h : s.motion.guard = .impact) : s.guardLoss = s.windowEnd true := by
  rw [State.guardLoss, h]

theorem guardLoss_settling (h : s.motion.guard = .settling) : s.guardLoss = s.returnToCalm := by
  rw [State.guardLoss, h]

/-- The first window of a record ended, before what follows it (R139). -/
def firstWindowTaken (s : State) (kind : ImpactKind) (peak : Accel3) : State :=
  let sev := classify s.motion.conv peak.m2
  ((s.onMotion fun m => { m with work := { m.work with
      recordPeak := some peak, severity := some sev, multiple := some false } }).takeTrigger
    (severityTrigger kind sev)).createRecord
    { kind := kind.record,
      fallSamples := if kind = .knock then none else s.motion.work.fallCount,
      periodUs := s.motion.accel.odr.periodUs, peak := some peak, severity := some sev,
      snapshot := s.motion.work.snapshot.getD (takeSnapshot s) }

theorem windowEnd_first {peak : Accel3} {kind : ImpactKind}
    (hp : s.motion.work.windowPeak = some peak) (hk : s.motion.work.kind = some kind)
    (hs : s.motion.work.severity = none) (lost : Bool) :
    s.windowEnd lost = (firstWindowTaken s kind peak).afterWindow lost := by
  unfold State.windowEnd
  dsimp only
  rw [hp, hs, hk]
  rfl

/-- A loss of the sensor outside CALM ends in a return (R141). -/
theorem guardLoss_returns (h : s.motion.guard ≠ .calm) : ∃ t, GuardEnds s t ∧
    s.guardLoss = t.returnToCalm := by
  cases hg : s.motion.guard with
  | calm => exact absurd hg h
  | falling => exact ⟨_, .createRecord rfl rfl _, guardLoss_falling hg⟩
  | settling => exact ⟨_, .refl s, guardLoss_settling hg⟩
  | impact =>
    rw [guardLoss_impact hg]
    unfold State.windowEnd
    dsimp only
    split
    · exact ⟨_, .createRecord (by simp) (by simp) _, rfl⟩
    · unfold State.laterWindowEnd
      extract_lets best sev multiple s1 s2
      have same : s2.motion.accel = s.motion.accel ∧ s2.flags = s.flags := by
        unfold s2
        split
        · exact ⟨by simp [s1], by simp [s1]⟩
        · exact ⟨rfl, rfl⟩
      exact ⟨_, .updateRecord same.1 (by rw [same.2]) _ _ _, rfl⟩
    · exact ⟨_, .refl s, rfl⟩

theorem applyPending_none {m : Motion} (h : m.accel.pendingOdr = none) : m.applyPending = m := by
  unfold Motion.applyPending
  rw [h]

theorem applyPending_some {m : Motion} {o : Odr} (h : m.accel.pendingOdr = some o) :
    m.applyPending.accel = if o = m.accel.odr then { m.accel with pendingOdr := none }
      else { m.accel with
        pendingOdr := none, condition := .starting, discards := 4, odr := o
        stale := ⟨o.staleLimit, o.staleLimit⟩ } := by
  unfold Motion.applyPending
  rw [h]
  dsimp only [Accelerometer.setRate]
  by_cases ho : o = m.accel.odr
  · rw [if_pos ho, if_pos ho.symm]
  · rw [if_neg ho, if_neg (Ne.symm ho)]
    rfl

theorem accelStale_after (h : (staleSensor s).guardLoss = t.returnToCalm) :
    CalmAfter t s.accelStale.closeEvent := by
  rw [accelStale_eq, h]
  exact (returnToCalm_after t).closes

/-- What a record leaves in force (R155). -/
theorem createRecord_inForce (s : State) (r : DropReport) :
    (s.createRecord r).drop.inForce = s.drop.inForce ∧
    (s.createRecord r).drop.parkMark = s.drop.parkMark ∧
    (s.createRecord r).drop.episode = s.drop.episode := by
  rw [createRecord_drop]
  exact ⟨rfl, rfl, rfl⟩

/-- A trigger leaves the log's length and its counts. -/
theorem takeTrigger_log (s : State) (x : Trigger) :
    (s.takeTrigger x).drop.log.length = s.drop.log.length ∧
    (s.takeTrigger x).drop.drops = s.drop.drops := by
  obtain ⟨p, hp⟩ := (takeTrigger_taken s x).drop
  rw [hp]
  refine ⟨?_, rfl⟩
  dsimp only [triggeredDrop]
  split
  · exact length_onNewest _ _
  · rfl

theorem Recorded.of_same {d d' e : DropLog} {q : DropRecord} (h : Recorded d q e)
    (hl : d.log.length = d'.log.length) (hd : d.drops = d'.drops) : Recorded d' q e :=
  ⟨h.newest, by rw [h.length, hl], by rw [h.drops, hd], by rw [h.sequence, hd]⟩

/-- An expiry of the stale timer outside CALM. -/
theorem accelStale_returns (h : s.motion.guard ≠ .calm) : ∃ t, GuardEnds (staleSensor s) t ∧
    (staleSensor s).guardLoss = t.returnToCalm ∧
    CalmAfter t s.accelStale.closeEvent := by
  obtain ⟨t, ends, e⟩ := guardLoss_returns (s := staleSensor s) h
  refine ⟨t, ends, e, ?_⟩
  rw [accelStale_eq, e]
  exact (returnToCalm_after t).closes

theorem exec_accelStale (h : s.motion.accel.stale.left = 0) :
    exec .accelStaleExpiry s = .next s.accelStale.closeEvent :=
  congrArg Host.Outcome.next (if_pos (by simpa [ranDown] using h))

end

section
variable {s : State}

/-- An accepted sample reaches the streams and the link, but for the guard's own work (R162). -/
theorem offerAccel_state (s : State) (x y z : Int) (g b : Bool) : s.offerAccel x y z g b = { s with
    streams := (s.offerAccel x y z g b).streams, link := (s.offerAccel x y z g b).link } := by
  unfold State.offerAccel
  dsimp only
  (repeat' split)
  · rw [transmit_eq]
    rfl
  · rfl
  · rfl

end

/-- Settles O57: the arrival in each condition of the sensor, and its loss in each guard state. -/
theorem accelerometerFollowsItsEvents : Obligations.AccelerometerFollowsItsEvents := by
  unfold Obligations.AccelerometerFollowsItsEvents
  intro s x y z hd c w k fresh lost m2 sq n arrival
  have run : exec arrival s = .next (s.accelArrival x.toInt y.toInt z.toInt).closeEvent := rfl
  have settled {t : State} (ht : s.accelArrival x.toInt y.toInt z.toInt = t) (hd' : t.due = none) :
      exec arrival s = .next t := by
    rw [run, ht, State.closeEvent_of_settled hd']
  refine ⟨fun h => settled (accelArrival_replaced h) hd, fun hr => ⟨fun hc => settled ?_ ?_,
    fun hc => settled ?_ ?_, fun hc hg hh hf => ?accepted⟩,
    fun h => congrArg Host.Outcome.next (if_neg (by simpa [ranDown] using h)), fun h hg => ?calm,
    fun h hg => ?lost⟩
  · refine (if_neg (by simp [hr])).trans ?_
    dsimp only
    rw [hc]
    rfl
  · exact hd
  · refine (if_neg (by simp [hr])).trans ?_
    dsimp only
    rw [hc]
    rfl
  · exact hd
  case accepted =>
    have value := accelOf_eq x.toInt y.toInt z.toInt
    have below : m2 < s.motion.convert.freeFall2 ↔ m2 < sq s.motion.freeFallMg := by
      change m2 < squaredCounts s.motion.freeFallMg ↔ _
      rw [squaredCounts_eq]
    have short (h : m2 < sq s.motion.freeFallMg) :
        s.motion.freeFallRun + 1 < s.motion.convert.freeFallN := hf h
    have rests : guarded s x.toInt y.toInt z.toInt = _ :=
      (guardSample_calm (s := received s _) hg).trans (calmSample_rests
        (by rw [value]; exact hh.trans_eq (squaredCounts_eq _).symm)
        (by
          rw [value, Bool.eq_false_iff]
          intro h
          simp only [fallBegins, Bool.and_eq_true, decide_eq_true_eq] at h
          exact absurd h.2 (Nat.not_le.2 (short (below.1 h.1)))))
    have run' : nextRun s.motion.convert m2 s.motion.freeFallRun =
        if m2 < sq s.motion.freeFallMg then s.motion.freeFallRun + 1 else 0 := by
      unfold nextRun
      by_cases h : m2 < sq s.motion.freeFallMg
      · rw [if_pos (below.2 h), if_pos h, min_eq_right (short h).le]
      · rw [if_neg (mt below.1 h), if_neg h]
    have taken' : s.accelArrival x.toInt y.toInt z.toInt =
        (guarded s x.toInt y.toInt z.toInt).offerAccel x.toInt y.toInt z.toInt false false := by
      rw [accelArrival_running hr hc, taken_eq, rests]
      exact congrArg (fun b => State.offerAccel _ x.toInt y.toInt z.toInt b false)
        (show guardActive _ = false from guardActive_iff.2 hg)
    rw [rests] at taken'
    refine ⟨_, settled taken' ?_, ?_, fun he => ?_⟩
    · rw [offerAccel_state]
      exact hd
    · refine (offerAccel_state _ _ _ _ _ _).trans ?_
      rw [value]
      exact congrArg (fun r : Nat => ({ s with
        streams := _, link := _, motion := { s.motion with
          freeFallRun := r
          accel := { c with stale := fresh, latest := some ⟨⟨x.toInt, y.toInt, z.toInt, m2⟩,
            s.uptime⟩ } } } : State)) run'
    · rw [offerAccel_off fun h => ?_]
      · exact ⟨rfl, rfl⟩
      · exact absurd (he.symm.trans h.1) (by decide)
  case calm =>
    refine (exec_accelStale h).trans ?_
    have rests : s.accelStale = (staleSensor s).onMotion fun m => { m with freeFallRun := 0 } := by
      rw [accelStale_eq, State.guardLoss, show (staleSensor s).motion.guard = .calm from hg]
    rw [rests]
    exact congrArg Host.Outcome.next (State.closeEvent_of_settled hd)
  case lost =>
    obtain ⟨t, ends, -, after⟩ := accelStale_returns hg
    have flags : (staleSensor s).flags.motion = s.flags.motion ||| 0x10 := rfl
    obtain ⟨p, l, drop, -⟩ := after.drop
    refine ⟨_, exec_accelStale h, after.guard, after.work, by rw [drop]; rfl, by rw [drop]; rfl,
      by rw [drop]; rfl, by rw [drop]; rfl, ?_, fun ho => ?_, fun o ho => ?_, fun hs => ?_, ?_⟩
    · rw [after.flag]
      obtain hf | hf := ends.flag
      · rw [hf, flags]
        exact or_and_self _ _
      · rw [hf, flags, BitVec.or_assoc, BitVec.or_comm 0x10 0x20, ← BitVec.or_assoc]
        exact or_and_self _ _
    · rw [after.accel, applyPending_none (by rw [ends.accel]; exact ho), ends.accel]
      rfl
    · rw [after.accel, applyPending_some (o := o) (by rw [ends.accel]; exact ho), ends.accel]
      rfl
    · have settles := accelStale_after (guardLoss_settling (s := staleSensor s) hs)
      obtain ⟨p, l, drop, -⟩ := settles.drop
      exact ⟨settles.calmAgain rfl rfl, by rw [drop]; rfl, settles.flag⟩
    · intro reported
      have report {t' : State} {r : DropReport} (hl : t'.drop.log.length ≤ 16)
          (ht : t'.drop.log.length = s.drop.log.length) (hn : t'.drop.drops = s.drop.drops)
          (hf : t'.flags.motion = s.flags.motion ||| 0x10)
          (h' : CalmAfter (t'.createRecord r) s.accelStale.closeEvent) :
          ∃ v o, reported { newRecord t' r with verify := v, isOpen := o } := by
        have made := ((createRecord_recorded r hl).of_same ht hn).after h'
        obtain ⟨v, o, newest⟩ := made.newest
        refine ⟨v, o, newest, made.length, made.drops, made.sequence.trans made.drops.symm, ?_⟩
        rw [h'.flag, createRecord_flags, SpaceFlags.raised]
        refine (SpaceFlags.get_set _ .motion _).trans ?_
        exact (congrArg (· ||| (0x20 : Half)) hf).trans (BitVec.or_assoc ..)
      refine ⟨fun f hs hw hl => ?_, fun p kd hs hp hk hv hl => ?_⟩
      · have falls := accelStale_after (guardLoss_falling (s := staleSensor s) hs)
        rw [reportFall_eq] at falls
        obtain ⟨v, o, rep⟩ := report (t' := staleSensor s) hl rfl rfl rfl falls
        refine ⟨falls.calmAgain (createRecord_inForce _ _).1 (createRecord_inForce _ _).2.1, _, rep, rfl,
          ?_, rfl, rfl, rfl, rfl⟩
        change some ((w.fallCount.getD 0) * _ / 1000) = _
        rw [hw]
        rfl
      · have ended := accelStale_after ((guardLoss_impact (s := staleSensor s) hs).trans
          (windowEnd_first (s := staleSensor s) hp hk hv true))
        obtain ⟨len, drops⟩ := takeTrigger_log ((staleSensor s).onMotion fun m => { m with
          work := { m.work with recordPeak := some p,
                                severity := some (classify (staleSensor s).motion.conv p.m2),
                                multiple := some false } })
          (severityTrigger kd (classify (staleSensor s).motion.conv p.m2))
        obtain ⟨v, o, rep⟩ := report (by rw [len]; exact hl) len drops (by simp; rfl) ended
        exact ⟨_, rep, rfl, rfl, rfl⟩

end Sys2Proof.Proofs
end

section
/-!
PROOFS. What the end of a sample's event leaves, and a trigger's actions seen from the state before the
event (R146 to R149).
-/

namespace Sys2Proof.Proofs
open Sys2Proof.Machine

section
variable {s v u w : State} {t : Trigger}

/-! ### The end of the event (R78) -/

/-- `u` is `v` after the stream's part and the end of the event. -/
structure EventEnds (v u : State) : Prop where
  drop : ∃ p, u.drop = { v.drop with parkPin := p }
  motion : u.motion = v.motion
  bays : ∀ i, BayStill (v.bay i) (u.bay i)
  guard : ∀ i, (u.bay i).reasons.guard = (v.bay i).reasons.guard
  holdMask : u.holdMask = v.holdMask
  flags : ∀ sp, sp ≠ .supply → u.flags.get sp = v.flags.get sp
  ctl : v.due = none ∨ v.due = some .other → u.ctl = v.ctl
  settled : v.due = none → u.drop = v.drop ∧ u.bays = v.bays

theorem offerAccel_ends (hn : v.NoTrips) (x y z : Int) (g b : Bool) :
    EventEnds v (v.offerAccel x y z g b).closeEvent := by
  have offered := offerAccel_state v x y z g b
  generalize v.offerAccel x y z g b = w at *
  have drop : w.drop = v.drop := (congrArg State.drop offered :)
  have bays : w.bays = v.bays := (congrArg State.bays offered :)
  have due : w.due = v.due := (congrArg State.due offered :)
  have bay (i : BayId) : w.bay i = v.bay i := congrArg (·.get i) bays
  have hw : w.NoTrips := noTrips_iff.2 fun i => by rw [bay]; exact noTrips_bay hn i
  have work : BayWork w w.closeEvent := (BayWork.refl w).closeEvent hw
  have after := (Aftermath.refl w).closeEvent
  refine ⟨⟨w.closeEvent.drop.parkPin, ?_⟩, ?_, fun i => ?_, fun i => ?_, ?_, fun sp hsp => ?_,
    fun hd => ?_, fun hd => ?_⟩
  · have h : { w.closeEvent.drop with parkPin := w.drop.parkPin } = w.drop :=
      (congrArg State.drop work :)
    rw [← drop, ← h]
  · exact after.motion.trans (congrArg State.motion offered :)
  · rw [← bay]
    exact closeEvent_still hw i
  · rw [← bay]
    exact (after.bays i).guard
  · exact after.holdMask.trans (congrArg State.holdMask offered :)
  · rw [closeEvent_flags hw hsp]
    exact (congrArg (·.flags.get sp) offered :)
  · have ctl : w.ctl = v.ctl := (congrArg State.ctl offered :)
    obtain hd | hd := hd
    · rw [State.closeEvent_of_settled (due.trans hd), ctl]
    · rw [closeEvent_ctl (due.trans hd) hw, ctl]
  · rw [State.closeEvent_of_settled (due.trans hd)]
    exact ⟨drop, bays⟩

/-! ### A trigger (R146) -/

theorem or_fresh (f t : BitVec 6) : f ||| (t &&& lastingActions &&& ~~~f) =
    f ||| (t &&& 0b001111) := by
  ext i hi
  simp only [lastingActions, BitVec.getElem_or, BitVec.getElem_and, BitVec.getElem_not]
  cases f[i] <;> simp

/-- The bit of an action in a set. -/
def actionBit : DropAction → Nat
  | .park => 0 | .lock => 1 | .freeze => 2 | .hold => 3 | .reverify => 4 | .suspect => 5

theorem hasAction_eq (m : BitVec 6) (x : DropAction) : hasAction m x = m.getLsbD (actionBit x) := by
  revert m
  cases x <;> decide

theorem hasAction_and (m n : BitVec 6) (x : DropAction) :
    hasAction (m &&& n) x = (hasAction m x && hasAction n x) := by
  simp only [hasAction_eq, BitVec.getLsbD_and]

/-- An action that is fresh is one that the trigger takes. -/
theorem hasAction_fresh_of (x : DropAction) (h : hasAction (taking s t) x = false) :
    hasAction (freshActions s t) x = false := by
  simp [freshActions, hasAction_and, h]

/-- With nothing in force every lasting action that the trigger takes is fresh. -/
theorem hasAction_fresh (h0 : s.drop.inForce = 0) {x : DropAction}
    (hx : hasAction lastingActions x = true) (h : hasAction (taking s t) x = true) :
    hasAction (freshActions s t) x = true := by
  have all : hasAction (63#6) x = true := by cases x <;> decide
  simp [freshActions, hasAction_and, h, hx, h0, all]

theorem taking_eq (s : State) (t : Trigger) : taking s t =
    if s.ctl.mode = .dormant then s.drop.entry t &&& 0b111110 else s.drop.entry t := rfl

/-- What the trigger `t` of the event leaves of the state `s` before it, in `u` (R146 to R149). -/
def Triggers (s : State) (t : Trigger) (before : BitVec 6) (u : State) : Prop :=
  u.drop.inForce = s.drop.inForce ||| (taking s t &&& 0b001111) ∧
  u.drop.episode = before ||| taking s t ||| (s.drop.entry t &&& s.drop.inForce) ∧
  (hasAction (taking s t) .park = false → u.drop.parkLine = s.drop.parkLine ∧
    u.drop.parkMark = s.drop.parkMark) ∧
  (hasAction (taking s t) .suspect = true → ∀ i, (s.bay i).contact = true →
    (u.bay i).record.suspect = true) ∧
  (s.drop.inForce = 0 →
    (hasAction (taking s t) .park = true → u.drop.parkLine = true ∧
      u.drop.parkMark = s.lines.parkAck) ∧
    (hasAction (taking s t) .lock = true → (∀ i, (u.bay i).reasons.guard = true) ∧
      u.drop.priorLock = ⟨s.bays.a.latch == .locked, s.bays.b.latch == .locked⟩) ∧
    (hasAction (taking s t) .freeze = true → ∀ i,
      (u.bay i).timer = (s.bay i).timer.map fun x => { x with paused := true }) ∧
    (hasAction (taking s t) .hold = true → u.holdMask = s.drop.holdClasses))

/-- `w` is `s` in what a trigger reads, but for the log and the episode's set, which is `before`. -/
structure TriggerSees (s : State) (before : BitVec 6) (w : State) : Prop where
  drop : ∃ b l, w.drop = { s.drop with episode := before, episodeRecord := b, log := l }
  mode : w.ctl.mode = s.ctl.mode
  parkAck : w.lines.parkAck = s.lines.parkAck
  bays : ∀ i, (w.bay i).contact = (s.bay i).contact ∧ (w.bay i).timer = (s.bay i).timer ∧
    (w.bay i).latch = (s.bay i).latch

/-- `u` is `v` in what a trigger writes. -/
structure TriggerKept (v u : State) : Prop where
  drop : ∃ p l n b, u.drop =
    { v.drop with parkPin := p, log := l, drops := n, episodeRecord := b }
  bays : ∀ i, (u.bay i).record = (v.bay i).record ∧ (u.bay i).timer = (v.bay i).timer ∧
    (u.bay i).reasons.guard = (v.bay i).reasons.guard
  holdMask : u.holdMask = v.holdMask

theorem TriggerKept.trans (h : TriggerKept w v) (g : TriggerKept v u) : TriggerKept w u := by
  obtain ⟨p, l, n, b, hd⟩ := h.drop
  obtain ⟨p', l', n', b', gd⟩ := g.drop
  refine ⟨⟨p', l', n', b', by rw [gd, hd]⟩, fun i => ?_, g.holdMask.trans h.holdMask⟩
  obtain ⟨h1, h2, h3⟩ := h.bays i
  obtain ⟨g1, g2, g3⟩ := g.bays i
  exact ⟨g1.trans h1, g2.trans h2, g3.trans h3⟩

theorem EventEnds.kept (h : EventEnds v u) : TriggerKept v u := by
  obtain ⟨p, hd⟩ := h.drop
  exact ⟨⟨p, v.drop.log, v.drop.drops, v.drop.episodeRecord, hd⟩,
    fun i => ⟨(h.bays i).record, (h.bays i).timer, h.guard i⟩, h.holdMask⟩

theorem triggers_of {before : BitVec 6} (hw : TriggerSees s before w) (h : TriggerTaken w t v)
    (hu : TriggerKept v u) : Triggers s t before u := by
  obtain ⟨b, l, hd⟩ := hw.drop
  obtain ⟨p', hv⟩ := h.drop
  obtain ⟨p, l', n, b', hd'⟩ := hu.drop
  have drop : u.drop = { triggeredDrop w t w.drop with
      parkPin := p, log := l', drops := n, episodeRecord := b' } := by rw [hd', hv]
  have takes : taking w t = taking s t := by
    rw [taking_eq, taking_eq, hw.mode, hd]
    rfl
  have inForce : w.drop.inForce = s.drop.inForce := by rw [hd]
  have fresh : freshActions w t = freshActions s t := by
    unfold freshActions
    rw [takes, inForce]
  have la : w.bays.a.latch = s.bays.a.latch := (hw.bays .a).2.2
  have lb : w.bays.b.latch = s.bays.b.latch := (hw.bays .b).2.2
  unfold triggeredDrop joining at drop
  rw [fresh, takes, inForce, la, lb, hw.parkAck, hd] at drop
  have bay (i : BayId) : BayStill _ (v.bay i) := h.bays i
  have lasting (x : DropAction) (hx : hasAction lastingActions x = true) (h0 : s.drop.inForce = 0)
      (ht : hasAction (taking s t) x = true) : hasAction (freshActions s t) x = true :=
    hasAction_fresh h0 hx ht
  refine ⟨?_, ?_, fun hp => ?_, fun hs i hc => ?_, fun h0 => ⟨fun hp => ?_, fun hl => ⟨fun i => ?_, ?_⟩,
    fun hf i => ?_, fun hh => ?_⟩⟩
  · rw [drop]
    exact or_fresh _ _
  · rw [drop]
    exact (BitVec.or_assoc ..).symm
  · rw [drop]
    dsimp only
    rw [hasAction_fresh_of _ hp]
    exact ⟨rfl, rfl⟩
  · rw [(hu.bays i).1, (bay i).record]
    dsimp only [triggeredBay]
    rw [takes, hs, (hw.bays i).1, hc]
    rfl
  · rw [drop]
    dsimp only
    rw [lasting .park (by decide) h0 hp]
    exact ⟨rfl, rfl⟩
  · rw [(hu.bays i).2.2, h.guard, fresh, lasting .lock (by decide) h0 hl]
    rfl
  · rw [drop]
    dsimp only
    rw [lasting .lock (by decide) h0 hl]
    rfl
  · rw [(hu.bays i).2.1, (bay i).timer]
    dsimp only [triggeredBay]
    rw [fresh, lasting .freeze (by decide) h0 hf, (hw.bays i).2.1]
    rfl
  · rw [hu.holdMask, h.holdMask, fresh, lasting .hold (by decide) h0 hh, hd]
    rfl

end
end Sys2Proof.Proofs
end

section
/-!
PROOFS. A sample taken in CALM and in FALLING (R134 to R137).
-/

namespace Sys2Proof.Proofs
open Sys2Proof.Machine

section
variable {s t u v : State} {a : Accel3}

/-- The guard's work on an accepted sample. -/
def sampled (s : State) (a : Accel3) : State := (received s a).guardSample a

theorem guarded_eq (s : State) (x y z : Int) : guarded s x y z =
    sampled s ⟨x, y, z, x.natAbs ^ 2 + y.natAbs ^ 2 + z.natAbs ^ 2⟩ := by
  unfold guarded sampled
  rw [accelOf_eq]

/-- The free-fall run after the sample (R134). -/
def runAfter (s : State) (a : Accel3) : Nat := nextRun s.motion.conv a.m2 s.motion.freeFallRun

/-- Nothing but the motion unit has changed, of what the guard may change. -/
def Same (s u : State) : Prop :=
  u.drop = s.drop ∧ u.bays = s.bays ∧ u.flags.motion = s.flags.motion

theorem EventEnds.same {f : Motion → Motion} (hd : s.due = none)
    (hv : v = (received s a).onMotion f) (e : EventEnds v u) :
    u.motion = f (received s a).motion ∧ Same s u := by
  subst hv
  obtain ⟨drop, bays⟩ := e.settled hd
  exact ⟨e.motion, drop, bays, e.flags .motion (by decide)⟩

/-! ### Records of the event -/

/-- `q` is the record that the event has added to the log (R155, R159). -/
def Reported (s u : State) (q : DropRecord) : Prop :=
  u.drop.log.getLast? = some q ∧ u.drop.log.length = min 16 (s.drop.log.length + 1) ∧
  u.drop.drops = min 65535 (s.drop.drops + 1) ∧ q.sequence = u.drop.drops ∧
  u.flags.motion = s.flags.motion ||| 0x20

theorem Recorded.reported {q : DropRecord} (h : Recorded s.drop q u.drop)
    (hf : u.flags.motion = s.flags.motion ||| 0x20) :
    ∃ w o, Reported s u { q with verify := w, isOpen := o } := by
  obtain ⟨w, o, newest⟩ := h.newest
  exact ⟨w, o, newest, h.length, h.drops, h.sequence.trans h.drops.symm, hf⟩

theorem createRecord_flag (t : State) (r : DropReport) :
    (t.createRecord r).flags.motion = t.flags.motion ||| 0x20 := by
  rw [createRecord_flags]
  exact SpaceFlags.get_set _ .motion _

theorem CalmAfter.ends (h : CalmAfter t v) (e : EventEnds v u) : CalmAfter t u := by
  obtain ⟨p, l, hd, hl⟩ := h.drop
  obtain ⟨p', ed⟩ := e.drop
  exact ⟨by rw [e.motion]; exact h.guard, by rw [e.motion]; exact h.work,
    by rw [e.motion]; exact h.run, by rw [e.motion]; exact h.accel, ⟨p', l, by rw [ed, hd], hl⟩,
    fun hh => e.holdMask.trans (h.hold hh), fun hl i => (e.guard i).trans (h.lock hl i),
    (e.flags .motion (by decide)).trans h.flag⟩

/-- A report of the event whose guard returned to CALM. -/
theorem CalmAfter.reported {r : DropReport} (h : CalmAfter (t.createRecord r) u)
    (hd : t.drop = s.drop) (hf : t.flags = s.flags) (hl : s.drop.log.length ≤ 16) :
    ∃ w o, Reported s u { newRecord t r with verify := w, isOpen := o } := by
  have made := createRecord_recorded r (s := t) (by rw [hd]; exact hl)
  rw [hd] at made
  refine (made.after h).reported ?_
  rw [h.flag, createRecord_flag, hf]

/-- What a trigger leaves of the log and its counts (R156). -/
theorem TriggerTaken.log {x : Trigger} (h : TriggerTaken s x v) :
    (v.drop.log = if s.drop.episodeRecord then onNewest (DropRecord.join (joining s x)) s.drop.log
      else s.drop.log) ∧
    v.drop.drops = s.drop.drops ∧ v.drop.episodeRecord = s.drop.episodeRecord := by
  obtain ⟨p, hp⟩ := h.drop
  rw [hp]
  exact ⟨rfl, rfl, rfl⟩

/-! ### In CALM (R135) -/

theorem sampled_calm (hg : s.motion.guard = .calm) : sampled s a = (received s a).calmSample a :=
  guardSample_calm hg

/-- A knock. -/
theorem knock_taken (hg : s.motion.guard = .calm) (hh : s.motion.convert.hard2 ≤ a.m2)
    (hd : s.due = none) (e : EventEnds (sampled s a) u) :
    u.motion.guard = .impact ∧ u.motion.freeFallRun = 0 ∧
    u.motion.work = { Working.clear with
      converted := some s.motion.convert, kind := some .knock, windowPeak := some a,
      recordPeak := u.motion.work.recordPeak, windowCount := some 1,
      snapshot := some (takeSnapshot s) } ∧
    u.motion.work.recordPeak.isSome = true ∧ u.drop = s.drop ∧
    ∀ i, u.bay i = { s.bay i with
      loss := (s.bay i).loss.map fun f => { f with long := true } } := by
  rw [sampled_calm hg, calmSample_knock (by exact hh)] at e
  obtain ⟨drop, bays⟩ := e.settled hd
  have motion := e.motion
  rw [motion]
  refine ⟨rfl, rfl, rfl, rfl, drop, fun i => ?_⟩
  exact (congrArg (·.get i) bays).trans (guardLeavesCalm_bay _ i)

/-- The state of a fall that begins, before its trigger. -/
def fallEntered (s : State) (a : Accel3) : State := ((received s a).onMotion
  (Motion.enterFalling s.motion.convert
    (nextRun s.motion.convert a.m2 s.motion.freeFallRun))).guardLeavesCalm

theorem fallEntered_bay (s : State) (a : Accel3) (i : BayId) :
    (fallEntered s a).bay i = lengthened (s.bay i) := guardLeavesCalm_bay _ i

theorem fallEntered_sees (s : State) (a : Accel3) :
    TriggerSees s s.drop.episode (fallEntered s a) := by
  refine ⟨⟨s.drop.episodeRecord, s.drop.log, rfl⟩, rfl, rfl, fun i => ?_⟩
  rw [fallEntered_bay]
  exact ⟨rfl, rfl, rfl⟩

/-- A fall begins. -/
theorem fall_begins (hg : s.motion.guard = .calm) (hh : a.m2 < s.motion.convert.hard2)
    (hf : fallBegins s.motion.convert a.m2 s.motion.freeFallRun = true)
    (e : EventEnds (sampled s a) u) :
    u.motion.guard = .falling ∧
    u.motion.work = { Working.clear with
      converted := some s.motion.convert,
      fallCount := some (nextRun s.motion.convert a.m2 s.motion.freeFallRun),
      catchRun := some 0 } ∧
    Triggers s .freeFall s.drop.episode u ∧
    (s.drop.episodeRecord = false → u.drop.log = s.drop.log) ∧
    ∀ i, (u.bay i).state = (s.bay i).state ∧
      (u.bay i).loss = (s.bay i).loss.map fun f => { f with long := true } := by
  have begins : sampled s a = (fallEntered s a).takeTrigger .freeFall :=
    (sampled_calm hg).trans (calmSample_falls (by exact hh) (by exact hf))
  have sees := fallEntered_sees s a
  have bays := fallEntered_bay s a
  have motion : (fallEntered s a).motion = Motion.enterFalling s.motion.convert
    (nextRun s.motion.convert a.m2 s.motion.freeFallRun) (received s a).motion := rfl
  have drop : (fallEntered s a).drop = s.drop := rfl
  rw [begins] at e
  generalize fallEntered s a = w at *
  have taken := takeTrigger_taken w .freeFall
  have after : u.motion = w.motion := e.motion.trans (by simp)
  rw [after, motion]
  refine ⟨rfl, rfl, triggers_of sees taken e.kept, fun hr => ?_, fun i => ?_⟩
  · obtain ⟨p, hp⟩ := e.drop
    rw [hp]
    refine taken.log.1.trans ?_
    rw [drop, hr]
    rfl
  · have b := taken.bays i
    rw [bays] at b
    exact ⟨(e.bays i).state.trans b.state, (e.bays i).loss.trans b.loss⟩

/-! ### In FALLING (R136, R137) -/

/-- The catch run after a sample that is no impact (R137). -/
def catchesAfter (s : State) (a : Accel3) : Nat :=
  if s.motion.conv.freeFall2 ≤ a.m2 then s.motion.work.catchRun.getD 0 + 1 else 0

/-- The motion unit with the sample counted in the fall. -/
def fallCounted (s : State) (a : Accel3) (m : Motion) : Motion :=
  { m with freeFallRun := nextRun s.motion.conv a.m2 m.freeFallRun
           work := { m.work with fallCount := some (s.motion.work.fallCount.getD 0 + 1)
                                 catchRun := some (catchesAfter s a) } }

theorem sampled_falling (hg : s.motion.guard = .falling) : sampled s a =
    if s.motion.conv.light2 ≤ a.m2 then
      (received s a).onMotion (Motion.enterImpact a (takeSnapshot s))
    else if s.motion.conv.catchN ≤ catchesAfter s a then
      ((received s a).onMotion (fallCounted s a)).caught
        (s.motion.work.fallCount.getD 0 + 1 - catchesAfter s a)
    else if s.motion.conv.maxFallN ≤ s.motion.work.fallCount.getD 0 + 1 then
      (((received s a).onMotion (fallCounted s a)).reportFall .longFall
        (s.motion.work.fallCount.getD 0 + 1)).returnToCalm
    else (received s a).onMotion (fallCounted s a) := by
  unfold sampled State.guardSample
  rw [show (received s a).motion.guard = .falling from hg]
  rfl

theorem caught_eq (t : State) (n : Nat) : t.caught n =
    if 100 ≤ n * t.motion.accel.odr.periodUs / 1000 then (t.reportFall .caught n).returnToCalm
    else t.returnToCalm := rfl

/-- The impact that ends a fall. -/
theorem fall_impact (hg : s.motion.guard = .falling) (hl : s.motion.conv.light2 ≤ a.m2)
    (hd : s.due = none) (e : EventEnds (sampled s a) u) :
    u.motion.guard = .impact ∧ u.motion.freeFallRun = 0 ∧ Same s u ∧
    u.motion.work = { s.motion.work with
      kind := some .fallImpact, windowPeak := some a, recordPeak := u.motion.work.recordPeak,
      windowCount := some 1, snapshot := some (takeSnapshot s) } ∧
    u.motion.work.recordPeak.isSome = true := by
  obtain ⟨motion, same⟩ := e.same hd ((sampled_falling hg).trans (if_pos hl))
  rw [motion]
  exact ⟨rfl, rfl, same, rfl, rfl⟩

/-- The fall goes on. -/
theorem fall_goesOn (hg : s.motion.guard = .falling) (hl : a.m2 < s.motion.conv.light2)
    (hc : catchesAfter s a < s.motion.conv.catchN)
    (hm : s.motion.work.fallCount.getD 0 + 1 < s.motion.conv.maxFallN)
    (hd : s.due = none) (e : EventEnds (sampled s a) u) :
    u.motion.guard = .falling ∧ u.motion.freeFallRun = runAfter s a ∧ Same s u ∧
    u.motion.work = { s.motion.work with
      fallCount := some (s.motion.work.fallCount.getD 0 + 1), catchRun := some (catchesAfter s a) } := by
  have taken : sampled s a = (received s a).onMotion (fallCounted s a) := by
    rw [sampled_falling hg, if_neg (Nat.not_le.2 hl), if_neg (Nat.not_le.2 hc),
      if_neg (Nat.not_le.2 hm)]
  obtain ⟨motion, same⟩ := e.same hd taken
  rw [motion]
  exact ⟨hg, rfl, same, rfl⟩

/-- What a record of a fall without an impact holds (R137, R153, R154). -/
def FellFrom (s : State) (q : DropRecord) : Prop :=
  q.height = none ∧ q.peak = none ∧ q.axis = none ∧ q.severity = none ∧
  q.actions = s.drop.episode ∧ q.snapshot = (takeSnapshot s).record

/-- A fall without an impact is reported. -/
theorem fall_reported {k : RecordKind} {n : Nat} (hk : k = .caught ∨ k = .longFall)
    (h : CalmAfter (((received s a).onMotion (fallCounted s a)).reportFall k n) u) :
    s.CalmAgain u ∧ u.motion.freeFallRun = runAfter s a ∧
    (s.drop.log.length ≤ 16 → ∃ q, Reported s u q ∧ FellFrom s q ∧ q.kind = k ∧
      q.fallTime = some (n * s.motion.accel.odr.periodUs / 1000)) := by
  rw [reportFall_eq] at h
  obtain ⟨inForce, mark, -⟩ := createRecord_inForce ((received s a).onMotion (fallCounted s a))
    { kind := k, fallSamples := some n, periodUs := s.motion.accel.odr.periodUs,
      peak := none, severity := none, snapshot := takeSnapshot s }
  refine ⟨h.calmAgain inForce mark, h.run.trans (by simp [fallCounted]; rfl), fun hl => ?_⟩
  obtain ⟨w, o, rep⟩ := h.reported (s := s) rfl rfl hl
  refine ⟨_, rep, ?_, rfl, ?_⟩
  · obtain rfl | rfl := hk <;> exact ⟨rfl, rfl, rfl, rfl, rfl, rfl⟩
  · obtain rfl | rfl := hk <;> rfl

/-- The fall is caught. -/
theorem fall_caught (hg : s.motion.guard = .falling) (hl : a.m2 < s.motion.conv.light2)
    (hc : s.motion.conv.catchN ≤ catchesAfter s a) (e : EventEnds (sampled s a) u) :
    let ms := (s.motion.work.fallCount.getD 0 + 1 - catchesAfter s a) *
      s.motion.accel.odr.periodUs / 1000
    s.CalmAgain u ∧ u.motion.freeFallRun = runAfter s a ∧
    (ms < 100 → u.drop.drops = s.drop.drops ∧ u.flags.motion = s.flags.motion ∧
      u.drop.log.length = s.drop.log.length) ∧
    (100 ≤ ms → s.drop.log.length ≤ 16 → ∃ q, Reported s u q ∧ FellFrom s q ∧ q.kind = .caught ∧
      q.fallTime = some ms) := by
  intro ms
  rw [sampled_falling hg, if_neg (Nat.not_le.2 hl), if_pos hc, caught_eq] at e
  by_cases hs : 100 ≤ ms
  · rw [if_pos (by exact hs)] at e
    obtain ⟨again, run, rep⟩ := fall_reported (.inl rfl) ((returnToCalm_after _).ends e)
    exact ⟨again, run, fun h => absurd hs (Nat.not_le.2 h), fun _ => rep⟩
  · rw [if_neg (by exact hs)] at e
    have after := (returnToCalm_after _).ends e
    obtain ⟨p, l, drop, log⟩ := after.drop
    exact ⟨after.calmAgain rfl rfl, after.run, fun _ => ⟨by rw [drop]; rfl, after.flag,
      by rw [drop]; exact log.length⟩, fun h => absurd h hs⟩

/-- The fall is too long. -/
theorem fall_long (hg : s.motion.guard = .falling) (hl : a.m2 < s.motion.conv.light2)
    (hc : catchesAfter s a < s.motion.conv.catchN)
    (hm : s.motion.conv.maxFallN ≤ s.motion.work.fallCount.getD 0 + 1)
    (e : EventEnds (sampled s a) u) :
    s.CalmAgain u ∧ (s.drop.log.length ≤ 16 → ∃ q, Reported s u q ∧ FellFrom s q ∧
      q.kind = .longFall ∧ q.fallTime = some ((s.motion.work.fallCount.getD 0 + 1) *
        s.motion.accel.odr.periodUs / 1000)) := by
  rw [sampled_falling hg, if_neg (Nat.not_le.2 hl), if_neg (Nat.not_le.2 hc), if_pos hm] at e
  obtain ⟨again, -, rep⟩ := fall_reported (.inr rfl) ((returnToCalm_after _).ends e)
  exact ⟨again, rep⟩

end
end Sys2Proof.Proofs
end

section
/-!
PROOFS. A sample taken in IMPACT, and one taken in SETTLING that does not end it (R138 to R140, R156).
-/

namespace Sys2Proof.Proofs
open Sys2Proof.Machine

section
variable {s t u v : State} {a peak best old : Accel3} {kd : ImpactKind} {was sev : Severity}

/-! ### An impact window (R139, R140) -/

/-- The motion unit with the sample counted in the window. -/
def windowCounted (s : State) (a : Accel3) (m : Motion) : Motion :=
  { m with freeFallRun := nextRun s.motion.conv a.m2 m.freeFallRun
           work := { m.work with windowCount := some (s.motion.work.windowCount.getD 0 + 1)
                                 windowPeak := some (greaterPeak m.work.windowPeak a) } }

theorem sampled_impact (hg : s.motion.guard = .impact) : sampled s a =
    if s.motion.conv.windowN ≤ s.motion.work.windowCount.getD 0 + 1 then
      ((received s a).onMotion (windowCounted s a)).windowEnd false
    else (received s a).onMotion (windowCounted s a) := by
  unfold sampled State.guardSample
  rw [show (received s a).motion.guard = .impact from hg]
  rfl

/-- The window goes on. -/
theorem window_goesOn (hg : s.motion.guard = .impact)
    (hc : s.motion.work.windowCount.getD 0 + 1 < s.motion.conv.windowN)
    (hd : s.due = none) (e : EventEnds (sampled s a) u) :
    u.motion.guard = .impact ∧ u.motion.freeFallRun = runAfter s a ∧ Same s u ∧
    u.motion.work = { s.motion.work with
      windowCount := some (s.motion.work.windowCount.getD 0 + 1)
      windowPeak := some (greaterPeak s.motion.work.windowPeak a) } := by
  obtain ⟨motion, same⟩ := e.same hd ((sampled_impact hg).trans (if_neg (Nat.not_le.2 hc)))
  rw [motion]
  exact ⟨hg, rfl, same, rfl⟩

/-- A window has ended, and the guard settles. -/
def Settles (s : State) (a best : Accel3) (v : Severity) (m : Option Bool) (u : State) : Prop :=
  u.motion.guard = .settling ∧ u.motion.freeFallRun = runAfter s a ∧
  u.motion.work = { s.motion.work with
    windowPeak := some (greaterPeak s.motion.work.windowPeak a), recordPeak := some best,
    severity := some v, multiple := m, windowCount := none, settleCount := some 0 }

/-- The bays after a record is created, in what a trigger writes. -/
theorem createRecord_kept (t : State) (r : DropReport) : TriggerKept t (t.createRecord r) := by
  refine ⟨⟨t.drop.parkPin, _, _, _, createRecord_drop t r⟩, fun i => ?_, by simp⟩
  obtain ⟨x, h⟩ := createRecord_bay t r i
  rw [h]
  exact ⟨rfl, rfl, rfl⟩

theorem onMotion_kept (t : State) (f : Motion → Motion) : TriggerKept t (t.onMotion f) :=
  ⟨⟨_, _, _, _, rfl⟩, fun _ => ⟨rfl, rfl, rfl⟩, rfl⟩

/-- The state of a first window that has ended, before its trigger. -/
def classified (s : State) (a : Accel3) (peak : Accel3) (v : Severity) : State :=
  ((received s a).onMotion (windowCounted s a)).onMotion fun m => { m with work := { m.work with
    recordPeak := some peak, severity := some v, multiple := some false } }

theorem classified_sees (s : State) (a peak : Accel3) (v : Severity) :
    TriggerSees s s.drop.episode (classified s a peak v) :=
  ⟨⟨s.drop.episodeRecord, s.drop.log, rfl⟩, rfl, rfl, fun _ => ⟨rfl, rfl, rfl⟩⟩

/-- The report of a first window. -/
def firstReport (s : State) (a : Accel3) (kd : ImpactKind) (peak : Accel3) (v : Severity) :
    DropReport :=
  { kind := kd.record
    fallSamples := if kd = .knock then none else s.motion.work.fallCount
    periodUs := s.motion.accel.odr.periodUs
    peak := some peak, severity := some v
    snapshot := s.motion.work.snapshot.getD
      (takeSnapshot ((received s a).onMotion (windowCounted s a))) }

theorem sampled_first (hg : s.motion.guard = .impact)
    (hc : s.motion.conv.windowN ≤ s.motion.work.windowCount.getD 0 + 1)
    (hk : s.motion.work.kind = some kd) (hs : s.motion.work.severity = none) :
    let peak := greaterPeak s.motion.work.windowPeak a
    let v := classify s.motion.conv peak.m2
    sampled s a = (((classified s a peak v).takeTrigger (severityTrigger kd v)).createRecord
      (firstReport s a kd peak v)).onMotion Motion.enterSettling := by
  rw [sampled_impact hg, if_pos hc, windowEnd_first (by rfl) (by exact hk) (by exact hs)]
  rfl

/-- The first window of a record ends. -/
theorem window_first (hg : s.motion.guard = .impact)
    (hc : s.motion.conv.windowN ≤ s.motion.work.windowCount.getD 0 + 1)
    (hk : s.motion.work.kind = some kd) (hs : s.motion.work.severity = none)
    (hd : s.due = none) (e : EventEnds (sampled s a) u) :
    let peak := greaterPeak s.motion.work.windowPeak a
    let v := classify s.motion.conv peak.m2
    Settles s a peak v (some false) u ∧ Triggers s (severityTrigger kd v) s.drop.episode u ∧
    u.drop.episodeRecord = true ∧
    (v = .light → u.ctl = s.ctl) ∧ (v ≠ .light → u.ctl = s.ctl.wakeEvent .drop) ∧
    (s.drop.log.length ≤ 16 → ∃ q, Reported s u q ∧ q.kind = kd.record ∧
      q.severity = some v ∧ q.peak = some (isqrt peak.m2 * 1000 / 2048) ∧
      q.axis = some (peakAxis peak) ∧ q.actions = u.drop.episode ∧
      (kd = .knock → q.fallTime = none) ∧
      (kd = .fallImpact → q.fallTime = s.motion.work.fallCount.map fun f =>
        f * s.motion.accel.odr.periodUs / 1000) ∧
      ∀ p, s.motion.work.snapshot = some p → q.snapshot = p.record) := by
  intro peak v
  rw [sampled_first hg hc hk hs] at e
  have taken := takeTrigger_taken (classified s a peak v) (severityTrigger kd v)
  have motion : ((classified s a peak v).takeTrigger (severityTrigger kd v)).motion =
      (classified s a peak v).motion := by simp
  have ctl : ((classified s a peak v).takeTrigger (severityTrigger kd v)).ctl = s.ctl := by
    simp [classified, received]
  have flags : ((classified s a peak v).takeTrigger (severityTrigger kd v)).flags = s.flags := by
    simp [classified, received]
  have due : ((classified s a peak v).takeTrigger (severityTrigger kd v)).due = none ∨
      ((classified s a peak v).takeTrigger (severityTrigger kd v)).due = some .other :=
    taken.due.imp (·.trans hd) (·.trans (owe_other_due (.inl hd)))
  obtain ⟨log, drops, -⟩ := taken.log
  have len : ((classified s a peak v).takeTrigger (severityTrigger kd v)).drop.log.length =
      s.drop.log.length := by
    rw [log]
    split
    · exact length_onNewest _ _
    · rfl
  change EventEnds (((State.takeTrigger _ (severityTrigger kd v)).createRecord
    (firstReport s a kd peak v)).onMotion Motion.enterSettling) u at e
  generalize (classified s a peak v).takeTrigger (severityTrigger kd v) = w at *
  have drop := createRecord_drop w (firstReport s a kd peak v)
  obtain ⟨p, ends⟩ := e.drop
  have dropU : u.drop = { (w.createRecord (firstReport s a kd peak v)).drop with
    parkPin := p } := ends
  have after : u.motion = (classified s a peak v).motion.enterSettling := by
    rw [e.motion]
    exact congrArg Motion.enterSettling ((by simp : _ = w.motion).trans motion)
  have newCtl : u.ctl = if severeEnough (some v) then s.ctl.wakeEvent .drop else s.ctl := by
    rw [e.ctl (by simpa using due), ← ctl]
    exact createRecord_ctl w _
  refine ⟨by rw [Settles, after]; exact ⟨rfl, rfl, rfl⟩,
    triggers_of (classified_sees s a peak v) taken
      (((createRecord_kept w _).trans (onMotion_kept _ _)).trans e.kept), ?_, fun hv => ?_,
    fun hv => ?_, fun hl => ?_⟩
  · rw [dropU, drop]
  · rw [newCtl, hv]
    rfl
  · rw [newCtl, if_pos]
    generalize v = x at hv
    cases x with
    | light => exact absurd rfl hv
    | hard => rfl
    | severe => rfl
  · have made := (createRecord_recorded (firstReport s a kd peak v)
      (by rw [len]; exact hl)).of_same len drops
    have rep : Recorded s.drop (newRecord w (firstReport s a kd peak v)) u.drop := by
      rw [dropU]
      exact ⟨made.newest, made.length, made.drops, made.sequence⟩
    obtain ⟨x, o, rep⟩ := rep.reported (by
      refine (e.flags .motion (by decide)).trans ((createRecord_flag w _).trans ?_)
      rw [flags])
    refine ⟨_, rep, rfl, rfl, rfl, rfl, ?_, fun hk => ?_, fun hk => ?_, fun p hp => ?_⟩
    · rw [dropU, drop]
      rfl
    · subst hk
      rfl
    · subst hk
      rfl
    · change (s.motion.work.snapshot.getD _).record = _
      rw [hp]
      rfl

/-! ### A later window (R140, R156) -/

theorem updateRecord_drop (t : State) (peak : Accel3) (v : Severity) (m : Bool) :
    (t.updateRecord peak v m).drop = { t.drop with
      log := if t.drop.episodeRecord then onNewest (DropRecord.update peak v m) t.drop.log
        else t.drop.log } := by
  by_cases h : t.drop.episodeRecord = true
  · rw [if_pos h]
    unfold State.updateRecord
    rw [if_pos h]
    dsimp only
    (repeat' split) <;> rfl
  · rw [if_neg h, show t.updateRecord peak v m = t from if_neg h]

theorem updateRecord_kept (t : State) (peak : Accel3) (v : Severity) (m : Bool) :
    TriggerKept t (t.updateRecord peak v m) :=
  ⟨⟨t.drop.parkPin, _, t.drop.drops, t.drop.episodeRecord, updateRecord_drop t peak v m⟩,
    fun _ => by simp [State.bay], by simp⟩

/-- The state of a later window that has ended, before its trigger. -/
def reclassified (s : State) (a best : Accel3) (v : Severity) : State :=
  ((received s a).onMotion (windowCounted s a)).onMotion fun m => { m with work := { m.work with
    recordPeak := some best, severity := some v } }

theorem reclassified_sees (s : State) (a best : Accel3) (v : Severity) :
    TriggerSees s s.drop.episode (reclassified s a best v) :=
  ⟨⟨s.drop.episodeRecord, s.drop.log, rfl⟩, rfl, rfl, fun _ => ⟨rfl, rfl, rfl⟩⟩

/-- A severity that rises is a trigger. -/
def risen (s : State) (a best : Accel3) (kd : ImpactKind) (was v : Severity) : State :=
  if was.code < v.code then (reclassified s a best v).takeTrigger (severityTrigger kd v)
  else reclassified s a best v

theorem sampled_later (hg : s.motion.guard = .impact)
    (hc : s.motion.conv.windowN ≤ s.motion.work.windowCount.getD 0 + 1)
    (hk : s.motion.work.kind = some kd) (hs : s.motion.work.severity = some was)
    (hr : s.motion.work.recordPeak = some old) :
    let peak := greaterPeak s.motion.work.windowPeak a
    let best := if old.m2 < peak.m2 then peak else old
    let v := if old.m2 < peak.m2 then classify s.motion.conv peak.m2 else was
    sampled s a = ((risen s a best kd was v).updateRecord best v
      (s.motion.work.multiple.getD false)).onMotion Motion.enterSettling := by
  rw [sampled_impact hg, if_pos hc]
  unfold State.windowEnd
  dsimp only
  rw [show ((received s a).onMotion (windowCounted s a)).motion.work.severity = some was from hs,
    show ((received s a).onMotion (windowCounted s a)).motion.work.kind = some kd from hk,
    show ((received s a).onMotion (windowCounted s a)).motion.work.recordPeak = some old from hr]
  rfl

/-- A later window of a record ends. -/
theorem window_later (hg : s.motion.guard = .impact)
    (hc : s.motion.conv.windowN ≤ s.motion.work.windowCount.getD 0 + 1)
    (hk : s.motion.work.kind = some kd) (hs : s.motion.work.severity = some was)
    (hr : s.motion.work.recordPeak = some old) (e : EventEnds (sampled s a) u) :
    let peak := greaterPeak s.motion.work.windowPeak a
    let best := if old.m2 < peak.m2 then peak else old
    let v := if old.m2 < peak.m2 then classify s.motion.conv peak.m2 else was
    Settles s a best v s.motion.work.multiple u ∧ u.drop.drops = s.drop.drops ∧
    (was.code < v.code → Triggers s (severityTrigger kd v) s.drop.episode u) ∧
    (v.code ≤ was.code → u.drop.inForce = s.drop.inForce ∧ u.drop.episode = s.drop.episode) ∧
    (s.drop.episodeRecord = false → u.drop.log = s.drop.log) ∧
    (s.drop.episodeRecord = true → ∀ q, s.drop.log.getLast? = some q → ∃ q',
      u.drop.log.getLast? = some q' ∧ u.drop.log.length = s.drop.log.length ∧
      q' = { q with
        peak := some (isqrt best.m2 * 1000 / 2048), axis := some (peakAxis best),
        severity := some v, actions := q'.actions, isOpen := q'.isOpen,
        flags := if s.motion.work.multiple = some true then q.flags ||| 0b001000
          else q.flags }) := by
  intro peak best v
  rw [sampled_later hg hc hk hs hr] at e
  change EventEnds (((risen s a best kd was v).updateRecord best v
      (s.motion.work.multiple.getD false)).onMotion Motion.enterSettling) u at e
  have motion : (risen s a best kd was v).motion = (reclassified s a best v).motion := by
    unfold risen
    split
    · simp
    · rfl
  obtain ⟨p, ends⟩ := e.drop
  have drop := updateRecord_drop (risen s a best kd was v) best v
    (s.motion.work.multiple.getD false)
  have dropU : u.drop = { (risen s a best kd was v).drop with
      log := if (risen s a best kd was v).drop.episodeRecord
        then onNewest (DropRecord.update best v (s.motion.work.multiple.getD false))
          (risen s a best kd was v).drop.log
        else (risen s a best kd was v).drop.log
      parkPin := p } := by
    refine ends.trans ?_
    exact congrArg (fun d : DropLog => { d with parkPin := p }) drop
  have log : (∃ f : DropRecord → DropRecord, (∀ q, ∃ b o, f q = { q with actions := b, isOpen := o }) ∧
      (risen s a best kd was v).drop.log =
        if s.drop.episodeRecord then onNewest f s.drop.log else s.drop.log) ∧
      (risen s a best kd was v).drop.drops = s.drop.drops ∧
      (risen s a best kd was v).drop.episodeRecord = s.drop.episodeRecord := by
    unfold risen
    split
    · obtain ⟨hl, hn, hb⟩ := (takeTrigger_taken (reclassified s a best v)
        (severityTrigger kd v)).log
      exact ⟨⟨_, fun q => ⟨_, _, rfl⟩, hl⟩, hn, hb⟩
    · refine ⟨⟨id, fun q => ⟨q.actions, q.isOpen, rfl⟩, ?_⟩, rfl, rfl⟩
      rw [onNewest_id, ite_self]
      rfl
  obtain ⟨⟨f, hf, log⟩, drops, held⟩ := log
  have after : u.motion = (reclassified s a best v).motion.enterSettling := by
    rw [e.motion]
    exact congrArg Motion.enterSettling ((by simp : _ = (risen s a best kd was v).motion).trans
      motion)
  refine ⟨by rw [Settles, after]; exact ⟨rfl, rfl, rfl⟩, by rw [dropU]; exact drops, fun hv => ?_,
    fun hv => ?_, fun hn => ?_, fun hh q hq => ?_⟩
  · have up : risen s a best kd was v = _ := if_pos hv
    rw [up] at e
    exact triggers_of (reclassified_sees s a best v) (takeTrigger_taken _ _)
      (((updateRecord_kept _ _ _ _).trans (onMotion_kept _ _)).trans e.kept)
  · have down : risen s a best kd was v = _ := if_neg (Nat.not_lt.2 hv)
    rw [dropU, down]
    exact ⟨rfl, rfl⟩
  · rw [dropU]
    dsimp only
    rw [held, log, hn]
    rfl
  · have newest : u.drop.log = onNewest (fun r => DropRecord.update best v
        (s.motion.work.multiple.getD false) (f r)) s.drop.log := by
      rw [dropU]
      dsimp only
      rw [held, log, hh]
      exact onNewest_onNewest _ _ _
    obtain ⟨b, o, hq'⟩ := hf q
    refine ⟨DropRecord.update best v (s.motion.work.multiple.getD false) (f q), ?_, ?_, ?_⟩
    · rw [newest, getLast?_onNewest, hq]
      rfl
    · rw [newest, length_onNewest]
    · rw [hq']
      unfold DropRecord.update
      cases hm : s.motion.work.multiple with
      | none => rfl
      | some m => cases m <;> rfl

/-! ### In SETTLING, without an end (R140) -/

/-- The motion unit with the sample counted in the settle. -/
def settleCounted (s : State) (a : Accel3) (m : Motion) : Motion :=
  { m with freeFallRun := runAfter s a
           work := { m.work with
             settleCount := some (s.motion.work.settleCount.getD 0 + 1) } }

theorem sampled_settling (hg : s.motion.guard = .settling) : sampled s a =
    if s.motion.conv.light2 ≤ a.m2 then (received s a).onMotion (Motion.enterSecond a)
    else if fallBegins s.motion.conv a.m2 s.motion.freeFallRun then
      ((received s a).recordEnded.onMotion (Motion.enterFalling s.motion.conv
        (runAfter s a))).takeTrigger .freeFall
    else if s.motion.conv.settleN ≤ s.motion.work.settleCount.getD 0 + 1 then
      ((received s a).onMotion (settleCounted s a)).returnToCalm
    else (received s a).onMotion (settleCounted s a) := by
  unfold sampled State.guardSample
  rw [show (received s a).motion.guard = .settling from hg]
  rfl

/-- A second impact. -/
theorem settle_struck (hg : s.motion.guard = .settling) (hl : s.motion.conv.light2 ≤ a.m2)
    (hd : s.due = none) (e : EventEnds (sampled s a) u) :
    u.motion.guard = .impact ∧ u.motion.freeFallRun = 0 ∧ Same s u ∧
    u.motion.work = { s.motion.work with
      windowPeak := some a, windowCount := some 1, settleCount := none, multiple := some true } := by
  obtain ⟨motion, same⟩ := e.same hd ((sampled_settling hg).trans (if_pos hl))
  rw [motion]
  exact ⟨rfl, rfl, same, rfl⟩

/-- The settle counts on. -/
theorem settle_goesOn (hg : s.motion.guard = .settling) (hl : a.m2 < s.motion.conv.light2)
    (hf : fallBegins s.motion.conv a.m2 s.motion.freeFallRun = false)
    (hc : s.motion.work.settleCount.getD 0 + 1 < s.motion.conv.settleN)
    (hd : s.due = none) (e : EventEnds (sampled s a) u) :
    u.motion.guard = .settling ∧ u.motion.freeFallRun = runAfter s a ∧ Same s u ∧
    u.motion.work = { s.motion.work with
      settleCount := some (s.motion.work.settleCount.getD 0 + 1) } := by
  obtain ⟨motion, same⟩ := e.same hd ((sampled_settling hg).trans
    ((if_neg (Nat.not_le.2 hl)).trans ((if_neg (by simp [hf])).trans
      (if_neg (Nat.not_le.2 hc)))))
  rw [motion]
  exact ⟨hg, rfl, same, rfl⟩

theorem recordEnded_drop (t : State) : t.recordEnded.drop = { t.drop with
    log := if t.drop.holdsOpen then onNewest DropRecord.interrupt t.drop.log else t.drop.log
    episode := 0, episodeRecord := false } :=
  congrArg (fun d : DropLog => { d with episode := 0, episodeRecord := false })
    (interruptedClose_drop t)

/-- A new fall. -/
theorem settle_falls (hg : s.motion.guard = .settling) (hl : a.m2 < s.motion.conv.light2)
    (hf : fallBegins s.motion.conv a.m2 s.motion.freeFallRun = true)
    (e : EventEnds (sampled s a) u) :
    u.motion.guard = .falling ∧ u.motion.work = { Working.clear with
      converted := some s.motion.conv, fallCount := some (runAfter s a), catchRun := some 0 } ∧
    Triggers s .freeFall 0 u ∧ u.drop.episodeRecord = false ∧
    u.drop.log = if s.drop.holdsOpen then onNewest DropRecord.interrupt s.drop.log
      else s.drop.log := by
  rw [sampled_settling hg, if_neg (Nat.not_le.2 hl), if_pos hf] at e
  have ended : (received s a).recordEnded.drop = { s.drop with
      log := if s.drop.holdsOpen then onNewest DropRecord.interrupt s.drop.log else s.drop.log
      episode := 0, episodeRecord := false } := recordEnded_drop _
  have bays (i : BayId) : ∃ x, (received s a).recordEnded.bay i = { s.bay i with traffic := x } :=
    interruptedClose_bay (received s a) i
  have mode : (received s a).recordEnded.ctl = s.ctl := by simp [received]
  have lines : (received s a).recordEnded.lines = s.lines := by simp [received]
  generalize (received s a).recordEnded = r at *
  have taken := takeTrigger_taken (r.onMotion (Motion.enterFalling s.motion.conv (runAfter s a)))
    .freeFall
  have motion : u.motion = Motion.enterFalling s.motion.conv (runAfter s a) r.motion := by
    rw [e.motion]
    simp
  obtain ⟨p, ends⟩ := e.drop
  obtain ⟨log, -, held⟩ := taken.log
  have heldR : (r.onMotion (Motion.enterFalling s.motion.conv (runAfter s a))).drop.episodeRecord =
      false := congrArg DropLog.episodeRecord ended
  rw [heldR] at log held
  have sees : TriggerSees s 0 (r.onMotion (Motion.enterFalling s.motion.conv (runAfter s a))) := by
    refine ⟨⟨_, _, ended⟩, congrArg ModeCtl.mode mode, congrArg Lines.parkAck lines, fun i => ?_⟩
    obtain ⟨x, hx⟩ := bays i
    have hx' : (r.onMotion (Motion.enterFalling s.motion.conv (runAfter s a))).bay i = _ := hx
    rw [hx']
    exact ⟨rfl, rfl, rfl⟩
  refine ⟨by rw [motion]; rfl, by rw [motion]; rfl, triggers_of sees taken e.kept,
    by rw [ends]; exact held, ?_⟩
  rw [ends]
  exact log.trans (congrArg DropLog.log ended)

/-- The settle's end (R140, R142). -/
theorem sampled_returns (hg : s.motion.guard = .settling) (hl : a.m2 < s.motion.conv.light2)
    (hf : fallBegins s.motion.conv a.m2 s.motion.freeFallRun = false)
    (hc : s.motion.conv.settleN ≤ s.motion.work.settleCount.getD 0 + 1) : sampled s a =
      ((received s a).onMotion (settleCounted s a)).returnToCalm := by
  rw [sampled_settling hg, if_neg (Nat.not_le.2 hl), if_neg (by simp [hf]), if_pos hc]

end
end Sys2Proof.Proofs
end

section
/-!
PROOFS. What the drop log unit's part of the return leaves of each bay, and what the work on one bay
leaves of the other (R12, R16, R150, R151).
-/

namespace Sys2Proof.Proofs
open Sys2Proof.Machine

section
variable {s t u : State} {i j : BayId}

/-- A bay that moves sets no flag of the other bay. -/
theorem moveBay_flags_other (s : State) (i : BayId) (n : BayState) :
    (s.moveBay i n).flags.get (baySpace (otherBay i)) =
      s.flags.get (baySpace (otherBay i)) := by
  have space : baySpace (otherBay i) ≠ baySpace i := by cases i <;> decide
  unfold State.moveBay
  dsimp only
  rw [syncPins_eq]
  split
  · rfl
  · rw [raise_eq]
    exact SpaceFlags.get_set_ne _ space _

/-! ### A bay that its arbiter attends -/

/-- `z` is `y` after work of its arbiter: the identity part as it was; without an identification nothing
but its traffic, its gates and its latch may differ. -/
structure BayAttended (y z : Bay) : Prop where
  identity : z.record.identity = y.record.identity
  quiet : y.traffic.ident = none →
    z.traffic.ident = none ∧ BayStill { y with traffic := z.traffic } z

namespace BayAttended
variable {x y z : Bay}

theorem of_still (h : BayStill y z) : BayAttended y z := by
  refine ⟨by rw [h.record], fun hi => ⟨by rw [h.traffic]; exact hi, ?_⟩⟩
  rw [h.traffic]
  exact h

theorem refl (y : Bay) : BayAttended y y := of_still rfl

theorem trans (h : BayAttended x y) (g : BayAttended y z) : BayAttended x z := by
  refine ⟨g.identity.trans h.identity, fun hi => ?_⟩
  obtain ⟨hy, hs⟩ := h.quiet hi
  obtain ⟨hz, gs⟩ := g.quiet hy
  refine ⟨hz, BayStill.trans ?_ gs⟩
  exact (congrArg (fun b : Bay => { b with traffic := z.traffic }) hs :)

end BayAttended

/-- `t` is `s` after work of both arbiters. -/
structure Attends (s t : State) : Prop where
  bays : ∀ i, BayAttended (s.bay i) (t.bay i)
  flag : ∀ i, (s.bay i).traffic.ident = none →
    t.flags.get (baySpace i) = s.flags.get (baySpace i)
  policy : t.policy = s.policy

namespace Attends

theorem refl (s : State) : Attends s s := ⟨fun _ => .refl _, fun _ _ => rfl, rfl⟩

theorem trans (h : Attends s t) (g : Attends t u) : Attends s u :=
  ⟨fun i => (h.bays i).trans (g.bays i),
    fun i hi => (g.flag i ((h.bays i).quiet hi).1).trans (h.flag i hi), g.policy.trans h.policy⟩

theorem of_same (hb : ∀ i, BayAttended (s.bay i) (t.bay i)) (hf : t.flags = s.flags)
    (hp : t.policy = s.policy) : Attends s t := ⟨hb, fun _ _ => by rw [hf], hp⟩

theorem onTraffic (h : Attends s t) (i : BayId) {f : Traffic → Traffic}
    (hf : (t.bay i).traffic.ident = none → (f (t.bay i).traffic).ident = none) :
    Attends s (t.onTraffic i f) := by
  refine h.trans (of_same ((forall_bay_iff i).2 ⟨?_, ?_⟩) rfl rfl)
  · rw [onTraffic_bay]
    exact ⟨rfl, fun hi => ⟨hf hi, rfl⟩⟩
  · rw [State.onTraffic_bay_ne t (otherBay_ne i)]
    exact .refl _

theorem onDrop (h : Attends s t) (f : DropLog → DropLog) : Attends s (t.onDrop f) :=
  h.trans (of_same (fun _ => .refl _) rfl rfl)

theorem report (h : Attends s t) (i : BayId) (d : ReverifyDest) (o : VerifyOutcome) :
    Attends s (t.report i d o) := by
  cases d
  · exact h.onDrop (fun d => { d with log := onNewest (DropRecord.writeVerify i o) d.log })
  · exact h
  · exact h

theorem syncPins (h : Attends s t) : Attends s t.syncPins := by
  refine h.trans (of_same (fun i => ?_) (by simp) (by simp))
  rw [syncPins_bay_eq]
  exact .of_still (pinned_still _ _)

theorem tableIncomplete (h : Attends s t) (i : BayId)
    (hi : (t.bay i).traffic.ident.isSome = true) : Attends s (t.tableIncomplete i) := by
  have other : BayStill (t.bay (otherBay i)) ((t.tableIncomplete i).bay (otherBay i)) :=
    (onBay_still (otherBay_ne i) _).trans (moveBay_still (otherBay_ne i) _)
  refine h.trans ⟨(forall_bay_iff i).2 ⟨⟨?_, fun hn => ?_⟩, .of_still other⟩,
    (forall_bay_iff i).2 ⟨fun hn => ?_, fun _ => ?_⟩, by simp⟩
  · rw [(tableIncomplete_bay t i).record]
    rfl
  · rw [hn] at hi
    cases hi
  · rw [hn] at hi
    cases hi
  · exact moveBay_flags_other _ i .quarantined

theorem serveMaintenance (h : Attends s t) (i : BayId) : Attends s (t.serveMaintenance i).1 := by
  unfold State.serveMaintenance
  dsimp only
  split
  next d hd =>
    split <;> dsimp only
    · exact h.onTraffic i (by exact id)
    · exact h.tableIncomplete i (by rw [hd]; rfl)
  · split <;> dsimp only
    · exact h.onTraffic i (by exact id)
    · exact (h.onTraffic i (by exact id)).report i _ _
  · split <;> dsimp only
    · exact h.onTraffic i (by exact id)
    · exact h.onTraffic i (by exact id)
  · exact h

theorem arbitrateOnce (h : Attends s t) (i : BayId) : Attends s (t.arbitrateOnce i).1 := by
  unfold State.arbitrateOnce
  dsimp only
  (repeat' split) <;> try dsimp only
  · exact h
  · exact h.onTraffic i (by exact id)
  · exact h.onTraffic i (by exact id)
  · exact h.serveMaintenance i
  · exact h.onTraffic i (by exact id)
  · exact h.serveMaintenance i

theorem arbitrate (h : Attends s t) (i : BayId) : Attends s (t.arbitrate i) := by
  suffices ∀ n, Attends s (t.arbitrateIn i n) from this 8
  intro n
  induction n generalizing t with
  | zero => exact h
  | succ n ih =>
    unfold State.arbitrateIn
    dsimp only
    split
    · exact h.arbitrateOnce i
    · exact ih (h.arbitrateOnce i)

theorem verifyBay (h : Attends s t) (i : BayId) (x : BayState) : Attends s (t.verifyBay i x) := by
  unfold State.verifyBay State.requestReverify
  (repeat' split)
  · exact (h.onTraffic i (by exact id)).arbitrate i
  · exact h.report i _ _
  · exact h.report i _ _

end Attends

theorem withdrawRest_attends (s : State) : Attends s s.withdrawRest := by
  unfold State.withdrawRest
  refine (Attends.onDrop ?_ _).syncPins
  rw [withdrawHold_eq]
  split
  · have masked : Attends s (s.withHoldMask 0) := .of_same (fun _ => .refl _) rfl rfl
    exact (masked.arbitrate .a).arbitrate .b
  · exact .refl s

theorem dropReturn_attends (s : State) : Attends s s.dropReturn := by
  have rest := withdrawRest_attends s
  unfold State.dropReturn State.startReverify
  dsimp only
  (repeat' split)
  · exact ((rest.onDrop _).verifyBay .a _).verifyBay .b _
  · exact rest.onDrop _
  · exact rest.onDrop _

end
end Sys2Proof.Proofs
end

section
/-!
PROOFS. What the work on one bay leaves of the other bay, of its flags and of its outcome in the newest
record (R12, R41, R57, R152).
-/

namespace Sys2Proof.Proofs
open Sys2Proof.Machine

section
variable {s t u : State} {i : BayId} {l l' l'' : List DropRecord} {q : DropRecord}

/-! ### A bay's outcome in the newest record (R152) -/

/-- The newest record is `q`, OPEN and without bay `i`'s outcome. -/
def Awaits (i : BayId) (q : DropRecord) (l : List DropRecord) : Prop :=
  ∃ v, v.get i = none ∧ l.getLast? = some { q with verify := v, isOpen := true }

/-- The newest record is `q` with the outcome `o` for bay `i`. -/
def Decided (i : BayId) (q : DropRecord) (o : VerifyOutcome) (l : List DropRecord) : Prop :=
  ∃ v b, v.get i = some o ∧ l.getLast? = some { q with verify := v, isOpen := b }

theorem awaits_of (hq : l.getLast? = some q) (ho : q.isOpen = true) (hv : q.verify.get i = none) :
    Awaits i q l := ⟨q.verify, hv, by rw [hq, ← ho]⟩

theorem otherBay_otherBay (i : BayId) : otherBay (otherBay i) = i := by cases i <;> rfl

theorem pair_get_set {α : Type} (p : Both α) (i : BayId) (x : α) :
    (p.set i x).get i = x ∧ (p.set i x).get (otherBay i) = p.get (otherBay i) := by
  cases i <;> exact ⟨rfl, rfl⟩

theorem Awaits.written (h : Awaits i q l) (o : VerifyOutcome) :
    Decided i q o (onNewest (DropRecord.writeVerify i o) l) := by
  obtain ⟨v, hv, hl⟩ := h
  refine ⟨v.set i (some o), (v.get (otherBay i)).isNone, (pair_get_set v i _).1, ?_⟩
  rw [getLast?_onNewest, hl]
  exact congrArg some (writeVerify_written (q := { q with verify := v, isOpen := true }) rfl hv)

theorem Awaits.other (h : Awaits i q l) (o : VerifyOutcome) :
    Awaits i q (onNewest (DropRecord.writeVerify (otherBay i) o) l) := by
  obtain ⟨v, hv, hl⟩ := h
  cases hw : v.get (otherBay i) with
  | some w =>
    refine ⟨v, hv, ?_⟩
    rw [getLast?_onNewest, hl]
    exact congrArg some (writeVerify_kept (q := { q with verify := v, isOpen := true })
      (.inr (by exact hw ▸ rfl)))
  | none =>
    have e := writeVerify_written (q := { q with verify := v, isOpen := true }) (o := o) rfl hw
    refine ⟨v.set (otherBay i) (some o), ?_, ?_⟩
    · have := (pair_get_set v (otherBay i) (some o)).2
      rw [otherBay_otherBay] at this
      exact this.trans hv
    · rw [getLast?_onNewest, hl, Option.map_some, e, otherBay_otherBay]
      dsimp only
      rw [hv]
      rfl

theorem Decided.other {w : VerifyOutcome} (h : Decided i q w l) (j : BayId) (o : VerifyOutcome) :
    Decided i q w (onNewest (DropRecord.writeVerify j o) l) := by
  obtain ⟨v, b, hv, hl⟩ := h
  by_cases hk : b = true ∧ v.get j = none
  · obtain ⟨rfl, hj⟩ := hk
    have e := writeVerify_written (q := { q with verify := v, isOpen := true }) (o := o) rfl hj
    have ne : j ≠ i := fun h => by
      rw [h, hv] at hj
      cases hj
    obtain rfl : j = otherBay i := by
      cases i <;> cases j
      · exact absurd rfl ne
      · rfl
      · rfl
      · exact absurd rfl ne
    have get := (pair_get_set v (otherBay i) (some o)).2
    rw [otherBay_otherBay] at get e
    refine ⟨v.set (otherBay i) (some o), (v.get i).isNone, get.trans hv, ?_⟩
    rw [getLast?_onNewest, hl]
    exact congrArg some e
  · refine ⟨v, b, hv, ?_⟩
    rw [getLast?_onNewest, hl]
    refine congrArg some (writeVerify_kept (q := { q with verify := v, isOpen := b }) ?_)
    dsimp only
    cases b with
    | false => exact .inl rfl
    | true => exact .inr (Option.isSome_iff_ne_none.2 fun h => hk ⟨rfl, h⟩)

/-- A log that the work on the other bay has left. -/
structure LogBeside (i : BayId) (l l' : List DropRecord) : Prop where
  awaits : ∀ q, Awaits i q l → Awaits i q l'
  outcome : ∀ q o, Decided i q o l → Decided i q o l'

theorem LogBeside.refl (i : BayId) (l : List DropRecord) : LogBeside i l l :=
  ⟨fun _ => id, fun _ _ => id⟩

theorem LogBeside.trans (h : LogBeside i l l') (g : LogBeside i l' l'') : LogBeside i l l'' :=
  ⟨fun q hq => g.awaits q (h.awaits q hq), fun q o hq => g.outcome q o (h.outcome q o hq)⟩

/-! ### The work on the other bay -/

/-- `t` is `s` after work on the bay other than `i`. -/
structure Beside (i : BayId) (s t : State) : Prop where
  bay : BayStill (s.bay i) (t.bay i)
  flag : t.flags.get (baySpace i) = s.flags.get (baySpace i)
  policy : t.policy = s.policy
  holdMask : t.holdMask = s.holdMask
  log : LogBeside i s.drop.log t.drop.log

namespace Beside

theorem refl (i : BayId) (s : State) : Beside i s s := ⟨.refl _, rfl, rfl, rfl, .refl i _⟩

theorem trans (h : Beside i s t) (g : Beside i t u) : Beside i s u :=
  ⟨h.bay.trans g.bay, g.flag.trans h.flag, g.policy.trans h.policy, g.holdMask.trans h.holdMask,
    h.log.trans g.log⟩

theorem of_same (hb : BayStill (s.bay i) (t.bay i))
    (hf : t.flags.get (baySpace i) = s.flags.get (baySpace i)) (hp : t.policy = s.policy)
    (hm : t.holdMask = s.holdMask) (hl : t.drop.log = s.drop.log) : Beside i s t :=
  ⟨hb, hf, hp, hm, by rw [hl]; exact .refl i _⟩

theorem onBay (h : Beside i s t) (f : Bay → Bay) : Beside i s (t.onBay (otherBay i) f) :=
  h.trans (of_same (onBay_still (otherBay_ne i).symm f) rfl rfl rfl rfl)

theorem onTraffic (h : Beside i s t) (f : Traffic → Traffic) :
    Beside i s (t.onTraffic (otherBay i) f) := h.onBay _

theorem onRecord (h : Beside i s t) (f : PackRecord → PackRecord) :
    Beside i s (t.onRecord (otherBay i) f) := h.onBay _

theorem grant (h : Beside i s t) (x : Transaction) (f : Traffic → Traffic) :
    Beside i s (t.grant (otherBay i) x f) := h.onTraffic _

theorem report (h : Beside i s t) (d : ReverifyDest) (o : VerifyOutcome) :
    Beside i s (t.report (otherBay i) d o) := by
  cases d
  · exact h.trans ⟨.refl _, rfl, rfl, rfl,
      ⟨fun _ hq => hq.other o, fun _ _ hq => hq.other _ o⟩⟩
  · exact h
  · exact h

theorem raise (h : Beside i s t) (f : Flag) : Beside i s (t.raise (baySpace (otherBay i)) f) := by
  have space : baySpace i ≠ baySpace (otherBay i) := by cases i <;> decide
  refine h.trans (of_same rfl ?_ rfl rfl rfl)
  rw [raise_eq]
  exact SpaceFlags.get_set_ne _ space _

theorem moveBay (h : Beside i s t) (n : BayState) : Beside i s (t.moveBay (otherBay i) n) := by
  have flags := moveBay_flags_other t (otherBay i) n
  rw [otherBay_otherBay] at flags
  exact h.trans (of_same (moveBay_still (otherBay_ne i).symm n) flags (by simp) (by simp)
    (congrArg (·.drop.log) ((BayWork.refl t).moveBay (otherBay i) n) :))

theorem respondAll (h : Beside i s t) (rs : List Response) : Beside i s (t.respondAll rs) := by
  have e := respondAll_eq t rs
  refine h.trans (of_same ?_ ?_ ?_ ?_ ?_)
  · rw [respondAll_bay]
    rfl
  · rw [e]
    cases i <;> rfl
  · rw [e]
  · rw [e]
  · rw [e]

theorem reportLost (h : Beside i s t) (tr : Traffic) :
    Beside i s (t.reportLost (otherBay i) tr) := by
  unfold State.reportLost
  dsimp only
  (repeat' split) <;> simp only [Beside.report, h]

theorem contactLoss (h : Beside i s t) : Beside i s (t.contactLoss (otherBay i)) := by
  have cleared := h.onBay Bay.cleared
  have settle {v : State} (h : Beside i s v) : Beside i s (v.settleEmpty (otherBay i)) := by
    rw [settleEmpty_eq]
    exact ((h.onTraffic _).reportLost _).respondAll _
  unfold State.contactLoss
  dsimp only
  split
  · exact cleared
  · split
    · exact settle (cleared.moveBay .empty)
    · exact settle ((cleared.raise _).moveBay .empty)

theorem takeCheck (h : Beside i s t) : Beside i s (t.takeCheck (otherBay i)) :=
  (h.onRecord _).moveBay _

theorem tableIncomplete (h : Beside i s t) : Beside i s (t.tableIncomplete (otherBay i)) :=
  (h.onRecord _).moveBay _

/-! ### The arbiter and the bay manager of the other bay -/

theorem serveMaintenance (h : Beside i s t) :
    Beside i s (t.serveMaintenance (otherBay i)).1 := by
  unfold State.serveMaintenance
  dsimp only
  (repeat' split) <;> try dsimp only
  · exact h.grant _ _
  · exact h.tableIncomplete
  · exact h.grant _ _
  · exact (h.onTraffic _).report _ _
  · exact h.grant _ _
  · exact h.onTraffic _
  · exact h

theorem arbitrateOnce (h : Beside i s t) : Beside i s (t.arbitrateOnce (otherBay i)).1 := by
  unfold State.arbitrateOnce
  dsimp only
  (repeat' split) <;> try dsimp only
  · exact h
  · exact h.grant _ _
  · exact h.onTraffic _
  · exact h.serveMaintenance
  · exact h.grant _ _
  · exact h.serveMaintenance

theorem arbitrate (h : Beside i s t) : Beside i s (t.arbitrate (otherBay i)) := by
  suffices ∀ n, Beside i s (t.arbitrateIn (otherBay i) n) from this 8
  intro n
  induction n generalizing t with
  | zero => exact h
  | succ n ih =>
    unfold State.arbitrateIn
    dsimp only
    split
    · exact h.arbitrateOnce
    · exact ih h.arbitrateOnce

theorem verifyBay (h : Beside i s t) (x : BayState) : Beside i s (t.verifyBay (otherBay i) x) := by
  unfold State.verifyBay State.requestReverify
  (repeat' split)
  · exact (h.onTraffic _).arbitrate
  · exact h.report _ _
  · exact h.report _ _

theorem bayReturn (h : Beside i s t) : Beside i s (t.bayReturn (otherBay i)) := by
  have filters {v : State} (h : Beside i s v) : Beside i s (v.returnFilters (otherBay i)) := by
    unfold State.returnFilters
    dsimp only
    split
    · exact h.contactLoss.onBay _
    · exact (h.onBay _).onBay _
  have decision {v : State} (h : Beside i s v) : Beside i s (v.returnDecision (otherBay i)) := by
    unfold State.returnDecision
    split
    · exact h.takeCheck
    · exact h
  have online {v : State} (h : Beside i s v) : Beside i s (v.returnOnline (otherBay i)) := by
    unfold State.returnOnline
    dsimp only
    split
    · exact h.moveBay .online
    · exact h
  have readmission {v : State} (h : Beside i s v) :
      Beside i s (v.returnReadmission (otherBay i)) := by
    unfold State.returnReadmission State.readmissionTest
    dsimp only
    (repeat' split)
    · exact h.takeCheck
    · exact h
    · exact h
  exact readmission (online (decision (filters h)))

/-! ### Both bays in turn: this one's own part stands between the other's -/

theorem both (i : BayId) {f : BayId → State → State}
    (hf : ∀ v, Beside i v (f (otherBay i) v)) (s : State) :
    ∃ m, Beside i s m ∧ Beside i (f i m) (f .b (f .a s)) := by
  cases i with
  | a => exact ⟨s, .refl _ _, hf _⟩
  | b => exact ⟨f .a s, hf s, .refl _ _⟩

end Beside

end
end Sys2Proof.Proofs
end

section
/-!
PROOFS. The bay manager's part of the return for one bay (R41, R48, R54, R57, R37).
-/

namespace Sys2Proof.Proofs
open Sys2Proof.Machine

section
variable {s t u : State} {i : BayId}

theorem lossEnds_iff (y : Bay) : y.lossEndsAtReturn = true ↔
    ∃ f, y.loss = some f ∧ f.long = true ∧ 5 ≤ f.elapsed := by
  unfold Bay.lossEndsAtReturn
  cases y.loss with
  | none => simp
  | some f =>
    simp only [Bool.and_eq_true, Option.some.injEq, exists_eq_left', and_congr_right_iff]
    exact fun _ => decide_eq_true_iff

/-! ### A loss that the return takes (R41) -/

/-- Bay `i` after its contact loss was taken at the return. -/
structure LostAtReturn (z : Bay) : Prop where
  state : z.state = .empty
  contact : z.contact = false
  loss : z.loss = none
  record : z.record = .absent
  timer : z.timer = none
  decision : z.decisionDeferred = false
  ident : z.traffic.ident = none

theorem LostAtReturn.of_still {y z : Bay} (h : LostAtReturn y)
    (g : BayStill { y with traffic := z.traffic } z) (hi : z.traffic.ident = none) :
    LostAtReturn z :=
  ⟨g.state.trans h.state, g.contact.trans h.contact, g.loss.trans h.loss,
    g.record.trans h.record, g.timer.trans h.timer, g.decisionDeferred.trans h.decision, hi⟩

theorem contactLoss_lost (h : (s.bay i).state ≠ .empty) :
    LostAtReturn ((s.contactLoss i).bay i) ∧
    (s.contactLoss i).flags.get (baySpace i) = s.flags.get (baySpace i) |||
      (if (s.bay i).state = .releasing then 0x10 else 0x30) := by
  obtain ⟨g, e, reports, -⟩ := contactLoss_settles h
  dsimp only at e reports
  rw [reports] at e
  have moved := moveBay_entered (contactLost s i) i .empty
  rw [contactLost_bay, State.onBay_bay] at moved
  have flags := contactLost_flags (s := s) (i := i) h
  generalize (contactLost s i).moveBay i .empty = m at *
  have bay : (s.contactLoss i).bay i = { m.bay i with traffic := emptiedTraffic (m.bay i).traffic } := by
    rw [e, respondAll_bay]
    exact onTraffic_bay m i emptiedTraffic
  have left : (s.contactLoss i).flags.get (baySpace i) = m.flags.get (baySpace i) := by
    rw [e, respondAll_eq]
    cases i <;> rfl
  refine ⟨?_, ?_⟩
  · rw [bay]
    refine ⟨moved.state, moved.contact, moved.loss, moved.record, moved.timer.trans ?_,
      moved.decisionDeferred.trans ?_, rfl⟩
    · exact if_neg h
    · exact Bool.and_false _
  · rw [left, flags, SpaceFlags.raised, SpaceFlags.get_set]

/-- The bay manager's part of the return for a bay whose loss ends. -/
theorem bayReturn_lost (hl : (s.bay i).lossEndsAtReturn = true) (h : (s.bay i).state ≠ .empty) :
    LostAtReturn ((s.bayReturn i).bay i) ∧
    (s.bayReturn i).flags.get (baySpace i) = s.flags.get (baySpace i) |||
      (if (s.bay i).state = .releasing then 0x10 else 0x30) := by
  obtain ⟨lost, flags⟩ := contactLoss_lost h
  have filters : s.returnFilters i = (s.contactLoss i).onBay i (Bay.pauseTimer false) := by
    unfold State.returnFilters
    dsimp only
    rw [if_pos hl]
  have resumed : (s.returnFilters i).bay i = Bay.pauseTimer false ((s.contactLoss i).bay i) := by
    rw [filters, State.onBay_bay]
  have lost' : LostAtReturn ((s.returnFilters i).bay i) := by
    rw [resumed]
    refine ⟨lost.state, lost.contact, lost.loss, lost.record, ?_, lost.decision, lost.ident⟩
    unfold Bay.pauseTimer
    rw [lost.timer]
    rfl
  have decision : (s.returnFilters i).returnDecision i = s.returnFilters i :=
    if_neg (by rw [lost'.decision]; decide)
  have online : (s.returnFilters i).returnOnline i = s.returnFilters i :=
    if_neg (by simp [lost'.state])
  have readmission : (s.returnFilters i).returnReadmission i = s.returnFilters i :=
    if_neg (by rw [lost'.record]; decide)
  have all : s.bayReturn i = s.returnFilters i := by
    unfold State.bayReturn
    rw [decision, online, readmission]
  rw [all]
  refine ⟨lost', ?_⟩
  rw [filters]
  exact flags

/-! ### A bay whose loss does not end -/

/-- A bay with its loss filter shortened and its timer running again (R41, R57). -/
def resumed (y : Bay) : Bay :=
  { y with loss := y.loss.map fun f => { f with long := false }
           timer := y.timer.map fun x => { x with paused := false } }

theorem returnFilters_eq (hl : (s.bay i).lossEndsAtReturn = false) :
    s.returnFilters i = s.onBay i resumed := by
  unfold State.returnFilters
  dsimp only
  rw [if_neg (by simp [hl]), onBay_onBay]
  rfl

/-- What a move of a bay keeps of its traffic (R11, R17). -/
structure TrafficHeld (t t' : Traffic) : Prop where
  waiting : t'.waiting = t.waiting
  bus : t'.bus = t.bus
  lastServed : t'.lastServed = t.lastServed
  reverify : t'.reverify = t.reverify

namespace TrafficHeld
variable {x y z : Traffic}

theorem refl (t : Traffic) : TrafficHeld t t := ⟨rfl, rfl, rfl, rfl⟩

theorem trans (h : TrafficHeld x y) (g : TrafficHeld y z) : TrafficHeld x z :=
  ⟨g.waiting.trans h.waiting, g.bus.trans h.bus, g.lastServed.trans h.lastServed,
    g.reverify.trans h.reverify⟩

theorem moved (p : Policy) (m : PartMode) (o n : BayState) (t : Traffic) :
    TrafficHeld t (t.onMove p m o n) := by
  obtain ⟨hw, hb, -, -, hs⟩ := onMove_traffic p m o n t
  exact ⟨hw, hb, hs, (onMove_kinds p m o n t).2.2.1⟩

end TrafficHeld

/-- What each step of the bay manager's part leaves, without a loss: the contact, the loss filter, the
work on the traffic and the log (R57). -/
structure StepHeld (i : BayId) (s t : State) : Prop where
  contact : (t.bay i).contact = (s.bay i).contact
  loss : (t.bay i).loss = (s.bay i).loss
  traffic : TrafficHeld (s.bay i).traffic (t.bay i).traffic
  identity : (t.bay i).record.identity = (s.bay i).record.identity
  log : t.drop.log = s.drop.log
  policy : t.policy = s.policy

namespace StepHeld

theorem refl (i : BayId) (s : State) : StepHeld i s s := ⟨rfl, rfl, .refl _, rfl, rfl, rfl⟩

theorem trans (h : StepHeld i s t) (g : StepHeld i t u) : StepHeld i s u :=
  ⟨g.contact.trans h.contact, g.loss.trans h.loss, h.traffic.trans g.traffic,
    g.identity.trans h.identity, g.log.trans h.log, g.policy.trans h.policy⟩

theorem takeCheck (s : State) (i : BayId) : StepHeld i s (s.takeCheck i) := by
  have b := takeCheck_bay s i
  refine ⟨b.contact, b.loss, ?_, by rw [b.record]; rfl, (congrArg (·.drop.log) (takeCheck_work s i) :),
    (takeCheck_work s i).policy⟩
  rw [b.traffic]
  exact .moved _ _ _ _ _

theorem moveBay (s : State) (i : BayId) (n : BayState) : StepHeld i s (s.moveBay i n) := by
  have b := moveBay_entered s i n
  have work : BayWork s (s.moveBay i n) := (BayWork.refl s).moveBay i n
  refine ⟨b.contact, b.loss, ?_, by rw [b.record]; rfl, (congrArg (·.drop.log) work :), work.policy⟩
  rw [b.traffic]
  exact .moved _ _ _ _ _

end StepHeld

/-- The check does not read the outcome, so that it gives the same when it is taken again. -/
theorem checkOf_outcome (p : Policy) (o : Option Identity) (r : PackRecord) (x : AdmissionOutcome) :
    admissionCheck p o { r with outcome := x } = admissionCheck p o r := rfl

/-- A bay whose check was taken (R35, R44). -/
structure Checked (y : Bay) (a : BayState × AdmissionOutcome) (z : Bay) : Prop where
  record : z.record = { y.record with outcome := a.2 }
  state : z.state = a.1
  decision : z.decisionDeferred = false

theorem takeCheck_checked (s : State) (i : BayId) :
    Checked (s.bay i) (checkOf s i) ((s.takeCheck i).bay i) := by
  have b := takeCheck_bay s i
  have polls := checkOf_polls s i
  refine ⟨b.record, b.state, b.decisionDeferred.trans ?_⟩
  have ne : (checkOf s i).1 ≠ .identifying := fun h => by
    rw [h] at polls
    cases polls
  change ((s.bay i).decisionDeferred && decide ((checkOf s i).1 = .identifying)) = false
  rw [decide_eq_false ne, Bool.and_false]

/-- The check taken again gives what it gave. -/
theorem checked_again (h : Checked (s.bay i) (checkOf s i) (t.bay i))
    (ho : (t.bay (otherBay i)).record.identity = (s.bay (otherBay i)).record.identity)
    (hp : t.policy = s.policy) : Checked (s.bay i) (checkOf s i) ((t.takeCheck i).bay i) := by
  have same : checkOf t i = checkOf s i := by
    unfold checkOf
    rw [ho, hp, h.record, checkOf_outcome]
  have again := takeCheck_checked t i
  rw [same] at again
  exact ⟨by rw [again.record, h.record], again.state, again.decision⟩

/-- The re-admission test would pass on the temperature held (R37). -/
def AgainAtReturn (p : Policy) (y : Bay) : Prop :=
  y.state = .quarantined ∧ y.record.outcome = .tempOut ∧ y.record.temperature.isSome = true ∧
    readmissionPasses p y.record = true

/-- A pending return to ONLINE would be made (R48). -/
def BackAtReturn (y : Bay) : Prop :=
  y.state = .releasing ∧ y.returnPending = true ∧ y.contact = true

/-- The bay `z` after the steps that the bay manager takes of `y` (R57, steps 3 to 5). -/
structure ManagedReturn (p : Policy) (o : Option Identity) (y z : Bay) : Prop where
  checked : y.decisionDeferred = true ∨ AgainAtReturn p y → Checked y (admissionCheck p o y.record) z
  record : ¬ y.decisionDeferred = true → ¬ AgainAtReturn p y → z.record = y.record
  back : ¬ y.decisionDeferred = true → BackAtReturn y → z.state = .online ∧ z.returnPending = false
  stays : ¬ y.decisionDeferred = true → ¬ BackAtReturn y → ¬ AgainAtReturn p y →
    z.state = y.state ∧ z.timer = y.timer

theorem returnReadmission_taken (h : AgainAtReturn s.policy (s.bay i)) :
    s.returnReadmission i = s.takeCheck i := by
  obtain ⟨hs, ho, ht, hp⟩ := h
  exact (if_pos ht).trans (readmissionTest_taken ⟨hs, ho, hp⟩)

theorem returnReadmission_kept (h : ¬ AgainAtReturn s.policy (s.bay i)) :
    s.returnReadmission i = s := by
  by_cases ht : (s.bay i).record.temperature.isSome = true
  · exact (if_pos ht).trans (readmissionTest_kept fun ⟨hs, ho, hp⟩ => h ⟨hs, ho, ht, hp⟩)
  · exact if_neg ht

theorem returnOnline_taken (h : BackAtReturn (s.bay i)) : s.returnOnline i = s.moveBay i .online :=
  if_pos (by simpa [BackAtReturn, and_assoc] using h)

theorem returnOnline_kept (h : ¬ BackAtReturn (s.bay i)) : s.returnOnline i = s :=
  if_neg (by simpa [BackAtReturn, and_assoc] using h)

/-- The steps after the loss filter. -/
def managed (s : State) (i : BayId) : State :=
  ((s.returnDecision i).returnOnline i).returnReadmission i

theorem managed_decides (h : (s.bay i).decisionDeferred = true) :
    StepHeld i s (managed s i) ∧ Checked (s.bay i) (checkOf s i) ((managed s i).bay i) := by
  have decision : s.returnDecision i = s.takeCheck i := if_pos h
  have held := StepHeld.takeCheck s i
  have checked := takeCheck_checked s i
  have other : ((s.takeCheck i).bay (otherBay i)).record.identity =
      (s.bay (otherBay i)).record.identity := by rw [(takeCheck_still (otherBay_ne i)).record]
  unfold managed
  rw [decision]
  generalize s.takeCheck i = t at *
  have online : t.returnOnline i = t := returnOnline_kept fun hb => by
    have polls := checkOf_polls s i
    rw [← checked.state, hb.1] at polls
    cases polls
  rw [online]
  by_cases ha : AgainAtReturn t.policy (t.bay i)
  · rw [returnReadmission_taken ha]
    exact ⟨held.trans (.takeCheck t i), checked_again checked other held.policy⟩
  · rw [returnReadmission_kept ha]
    exact ⟨held, checked⟩

theorem managed_steps (s : State) (i : BayId) : StepHeld i s (managed s i) ∧
    ManagedReturn s.policy (s.bay (otherBay i)).record.identity (s.bay i) ((managed s i).bay i) := by
  by_cases hd : (s.bay i).decisionDeferred = true
  · obtain ⟨held, checked⟩ := managed_decides hd
    exact ⟨held, fun _ => checked, fun h => absurd hd h, fun h => absurd hd h,
      fun h => absurd hd h⟩
  have decision : s.returnDecision i = s := if_neg hd
  by_cases hb : BackAtReturn (s.bay i)
  · have b := moveBay_entered s i .online
    have kept : (s.moveBay i .online).returnReadmission i = s.moveBay i .online :=
      returnReadmission_kept fun h => by
        have := b.state.symm.trans h.1
        cases this
    have e : managed s i = s.moveBay i .online := by
      unfold managed
      rw [decision, returnOnline_taken hb, kept]
    rw [e]
    refine ⟨.moveBay s i .online, fun h => ?_, fun _ _ => b.record, fun _ _ => ⟨b.state,
      b.returnPending.trans (Bool.and_false _)⟩, fun _ h => absurd hb h⟩
    obtain h | h := h
    · exact absurd h hd
    · have := hb.1.symm.trans h.1
      cases this
  · have e : managed s i = s.returnReadmission i := by
      unfold managed
      rw [decision, returnOnline_kept hb]
    rw [e]
    by_cases ha : AgainAtReturn s.policy (s.bay i)
    · rw [returnReadmission_taken ha]
      exact ⟨.takeCheck s i, fun _ => takeCheck_checked s i, fun _ h => absurd ha h,
        fun _ h => absurd h hb, fun _ _ h => absurd ha h⟩
    · rw [returnReadmission_kept ha]
      exact ⟨.refl i s, fun h => absurd h (not_or.2 ⟨hd, ha⟩), fun _ _ => rfl,
        fun _ h => absurd h hb, fun _ _ _ => ⟨rfl, rfl⟩⟩

/-- The bay manager's part of the return for a bay whose loss does not end. -/
theorem bayReturn_managed (hl : (s.bay i).lossEndsAtReturn = false) :
    StepHeld i (s.onBay i resumed) (s.bayReturn i) ∧
    ManagedReturn s.policy (s.bay (otherBay i)).record.identity (resumed (s.bay i))
      ((s.bayReturn i).bay i) := by
  have e : s.bayReturn i = managed (s.onBay i resumed) i := by
    unfold State.bayReturn
    rw [returnFilters_eq hl]
    rfl
  have h := managed_steps (s.onBay i resumed) i
  rw [State.onBay_bay, State.onBay_bay_ne s (otherBay_ne i)] at h
  rw [e]
  exact h

end
end Sys2Proof.Proofs
end

section
/-!
PROOFS. What the drop log unit's part of the return does at one bay: the request that goes, and the
re-verification of the record (R10, R12, R16, R150 to R152).
-/

namespace Sys2Proof.Proofs
open Sys2Proof.Machine

section
variable {s t v w : State} {i : BayId} {q : DropRecord}

/-! ### The arbiter where no report is due (R12) -/

/-- `t` is `s` with other traffic at bay `i`, which neither identifies nor re-verifies. -/
def PlainWork (i : BayId) (s t : State) : Prop :=
  ∃ x, t = withTraffic s i x ∧ x.ident = none ∧ x.reverify = none

namespace PlainWork

theorem self (hi : (s.bay i).traffic.ident = none) (hr : (s.bay i).traffic.reverify = none) :
    PlainWork i s s := ⟨_, (withTraffic_self s i).symm, hi, hr⟩

theorem traffic (f : Traffic → Traffic) (hi : (f (s.bay i).traffic).ident = none)
    (hr : (f (s.bay i).traffic).reverify = none) : PlainWork i s (s.onTraffic i f) :=
  ⟨_, onTraffic_withTraffic s i f, hi, hr⟩

theorem serve (hi : (s.bay i).traffic.ident = none) (hr : (s.bay i).traffic.reverify = none) :
    PlainWork i s (s.serveMaintenance i).1 := by
  unfold State.serveMaintenance
  dsimp only
  rw [hi, hr]
  cases (s.bay i).traffic.round with
  | none => exact self hi hr
  | some n =>
    dsimp only
    split
    · exact traffic (fun t => { t with
        round := _, lastServed := .maintenance, bus := some _ }) hi hr
    · exact traffic (fun t => { t with round := none }) hi hr

theorem once (hi : (s.bay i).traffic.ident = none) (hr : (s.bay i).traffic.reverify = none) :
    PlainWork i s (s.arbitrateOnce i).1 := by
  unfold State.arbitrateOnce
  dsimp only
  (repeat' split) <;> try dsimp only
  · exact self hi hr
  · exact traffic _ hi hr
  · exact traffic _ hi hr
  · exact serve hi hr
  · exact traffic _ hi hr
  · exact serve hi hr

/-- The arbiter's looks. -/
theorem arbitrate (hi : (s.bay i).traffic.ident = none) (hr : (s.bay i).traffic.reverify = none) :
    PlainWork i s (s.arbitrate i) := by
  suffices ∀ n, PlainWork i s (s.arbitrateIn i n) from this 8
  intro n
  induction n generalizing s with
  | zero => exact self hi hr
  | succ n ih =>
    obtain ⟨x, hx, xi, xr⟩ := once hi hr
    unfold State.arbitrateIn
    dsimp only
    split
    · exact ⟨x, hx, xi, xr⟩
    · rw [hx]
      obtain ⟨y, hy, yi, yr⟩ := ih (s := withTraffic s i x) (by rw [withTraffic_bay]; exact xi)
        (by rw [withTraffic_bay]; exact xr)
      exact ⟨y, by rw [hy, withTraffic_withTraffic], yi, yr⟩

end PlainWork

/-! ### HOLD withdrawn (R10, R150) -/

/-- Bay `i` at the withdrawal: with HOLD in force its arbiter looks between the other's looks. -/
theorem withdrawRest_cases (s : State) (i : BayId) :
    (hasAction s.drop.inForce .hold = true ∧ ∃ v, Beside i (s.withHoldMask 0) v ∧
      Beside i (v.arbitrate i) s.withdrawRest) ∨
    (hasAction s.drop.inForce .hold = false ∧ Beside i s s.withdrawRest) := by
  have rest : Beside i s.withdrawHold s.withdrawRest := by
    unfold State.withdrawRest
    refine .of_same ?_ ?_ ?_ ?_ ?_
    · rw [syncPins_bay_eq]
      exact pinned_still _ _
    · rw [syncPins_eq]
      rfl
    · rw [syncPins_eq]
      rfl
    · rw [syncPins_eq]
      rfl
    · rw [syncPins_eq]
      rfl
  rw [withdrawHold_eq] at rest
  by_cases h : hasAction s.drop.inForce .hold = true
  · rw [if_pos h] at rest
    obtain ⟨v, hv, looked⟩ := Beside.both i (f := fun j v => v.arbitrate j)
      (fun v => (Beside.refl i v).arbitrate) (s.withHoldMask 0)
    exact .inl ⟨h, v, hv, looked.trans rest⟩
  · rw [if_neg h] at rest
    exact .inr ⟨by simpa using h, rest⟩

/-- The withdrawal leaves the episode's record and, but for outcomes, the log. -/
theorem withdrawRest_log (s : State) :
    s.withdrawRest.drop.episodeRecord = s.drop.episodeRecord ∧
    Reverified s.drop.log s.withdrawRest.drop.log := by
  have rest : s.withdrawRest.drop.episodeRecord = s.withdrawHold.drop.episodeRecord ∧
      s.withdrawRest.drop.log = s.withdrawHold.drop.log := by
    unfold State.withdrawRest
    rw [syncPins_eq]
    exact ⟨rfl, rfl⟩
  rw [rest.1, rest.2, withdrawHold_eq]
  split
  · have looked : Aftermath (s.withHoldMask 0) (s.withHoldMask 0).arbitrateBoth :=
      ((Aftermath.refl _).arbitrate .a).arbitrate .b
    obtain ⟨p, l, hd, hl⟩ := looked.drop
    rw [hd]
    exact ⟨rfl, hl⟩
  · exact ⟨rfl, .refl _⟩

/-- The withdrawal leaves a bay without re-verification without one, and its outcome absent. -/
theorem withdrawRest_plain (hi : (s.bay i).traffic.ident = none)
    (hr : (s.bay i).traffic.reverify = none) :
    ((s.withdrawRest).bay i).traffic.ident = none ∧
    ((s.withdrawRest).bay i).traffic.reverify = none ∧
    (∀ q, Awaits i q s.drop.log → Awaits i q s.withdrawRest.drop.log) := by
  obtain ⟨-, v, before, after⟩ | ⟨-, after⟩ := withdrawRest_cases s i
  · have tv : (v.bay i).traffic = (s.bay i).traffic := before.bay.traffic
    obtain ⟨x, hx, xi, xr⟩ := PlainWork.arbitrate (s := v) (i := i) (by rw [tv]; exact hi)
      (by rw [tv]; exact hr)
    have tw : (s.withdrawRest.bay i).traffic = x := by
      rw [after.bay.traffic, hx, withTraffic_bay]
    have log : (v.arbitrate i).drop.log = v.drop.log := by rw [hx]; rfl
    exact ⟨by rw [tw]; exact xi, by rw [tw]; exact xr, fun q hq =>
      after.log.awaits q (by rw [log]; exact before.log.awaits q hq)⟩
  · exact ⟨by rw [after.bay.traffic]; exact hi, by rw [after.bay.traffic]; exact hr,
      after.log.awaits⟩

/-- The withdrawal leaves a bay alone whose arbiter has nothing to grant. -/
theorem withdrawRest_idle (h : (s.bay i).traffic.bus.isSome = true ∨ Quiet (s.bay i).traffic) :
    BayStill (s.bay i) (s.withdrawRest.bay i) := by
  obtain ⟨-, v, before, after⟩ | ⟨-, after⟩ := withdrawRest_cases s i
  · have tv : (v.bay i).traffic = (s.bay i).traffic := before.bay.traffic
    have looked : v.arbitrate i = v := by
      obtain h | h := h
      · exact arbitrate_busy (by rw [tv]; exact h)
      · exact Quiet.arbitrate (by rw [tv]; exact h)
    rw [looked] at after
    exact BayStill.trans (y := v.bay i) before.bay after.bay
  · exact after.bay

/-- The oldest request that was held is granted (R10, R12). -/
theorem withdrawRest_grants (hh : hasAction s.drop.inForce .hold = true)
    (hl : Looks s i) (ha : (s.bay i).traffic.alert = false)
    (hm : (s.bay i).traffic.maintains = false) {r : HostRequest} {rest : List HostRequest}
    (hw : (s.bay i).traffic.waiting = r :: rest) :
    (s.withdrawRest.bay i).traffic = { (s.bay i).traffic with
      waiting := rest, lastServed := .host, bus := some (hostTransaction s.policy r) } := by
  obtain ⟨-, v, before, after⟩ | ⟨hn, -⟩ := withdrawRest_cases s i
  · have tv : (v.bay i).traffic = (s.bay i).traffic := before.bay.traffic
    have mask : v.holdMask = 0 := before.holdMask
    have policy : v.policy = s.policy := before.policy
    have looks : Looks v i := ⟨by rw [tv]; exact hl.bus, by
      rw [before.bay.state]; exact hl.runs, by rw [before.bay.tripDeferred]; exact hl.trip⟩
    have free : takeEligible v.holdMask (v.bay i).traffic.waiting = some (r, rest) := by
      rw [mask, tv, hw]
      exact if_neg (by simp [HostRequest.held])
    have granted := arbitrate_request looks (by rw [tv]; exact ha) free (.inl (by rw [tv]; exact hm))
    rw [after.bay.traffic, granted, policy, ← tv]
    unfold State.grant
    rw [onTraffic_bay]
  · rw [hh] at hn
    cases hn

/-! ### The re-verification of the record (R151) -/

/-- A re-verification without an entry to read reports NO_ANSWER, and the arbiter looks again (R5,
R16). -/
theorem arbitrate_reverify_missing (h : Looks s i) (ha : (s.bay i).traffic.alert = false)
    (hm : MaintenanceTurn s i) (hd : (s.bay i).traffic.ident = none) {dest : ReverifyDest}
    (hr : (s.bay i).traffic.reverify = some dest) (he : s.policy.ownEntry .serial = none) :
    s.arbitrate i = ((s.onTraffic i fun t => { t with reverify := none }).report i dest
      .noAnswer).arbitrate i := by
  rw [arbitrate_maintenance h ha hm]
  simp only [State.serveMaintenance, hd, hr, he]
  rfl

/-- Without a record that names REVERIFY there is none. -/
theorem startReverify_none (h : s.drop.episodeRecord = false ∨
    ∃ q, s.drop.log.getLast? = some q ∧ hasAction q.actions .reverify = false) :
    Beside i s s.startReverify := by
  have same : s.startReverify = s.onDrop fun d => { d with episodeRecord := false } := by
    unfold State.startReverify
    dsimp only
    obtain h | ⟨q, hq, hn⟩ := h
    · rw [h]
      split <;> rfl
    · rw [hq]
      dsimp only
      rw [hn, Bool.and_false]
      rfl
  rw [same]
  exact .of_same rfl rfl rfl rfl rfl

/-- With one, bay `i` is verified between what is done for the other. -/
theorem startReverify_some (hh : s.drop.episodeRecord = true) (hq : s.drop.log.getLast? = some q)
    (hn : hasAction q.actions .reverify = true) : ∃ v, Beside i s v ∧
      Beside i (v.verifyBay i (q.snapshot.state.get i)) s.startReverify := by
  let s1 := s.onDrop fun d => { d with episodeRecord := false }
  have both : s.startReverify =
      (s1.verifyBay .a q.snapshot.state.a).verifyBay .b q.snapshot.state.b := by
    unfold State.startReverify
    dsimp only
    rw [hq]
    dsimp only
    rw [hh, hn]
    rfl
  obtain ⟨v, before, after⟩ := Beside.both i
    (f := fun j v => v.verifyBay j (q.snapshot.state.get j))
    (fun v => (Beside.refl i v).verifyBay _) s1
  refine ⟨v, Beside.trans (t := s1) (.of_same rfl rfl rfl rfl rfl) before, ?_⟩
  rw [both]
  exact after

/-- The state `v` in which bay `i` is verified at the return, its outcome in `q` still absent. -/
structure Verifies (s : State) (i : BayId) (q : DropRecord) (v : State) : Prop where
  before : Beside i s.withdrawRest v
  ident : (v.bay i).traffic.ident = none
  reverify : (v.bay i).traffic.reverify = none
  awaits : Awaits i q v.drop.log
  after : Beside i (v.verifyBay i (q.snapshot.state.get i)) s.dropReturn

theorem dropReturn_verifies (hh : s.drop.episodeRecord = true)
    (hn : hasAction q.actions .reverify = true) (hq : Awaits i q s.drop.log)
    (hi : (s.bay i).traffic.ident = none) (hr : (s.bay i).traffic.reverify = none) :
    ∃ v, Verifies s i q v := by
  obtain ⟨wi, wr, awaits⟩ := withdrawRest_plain hi hr
  have held : s.withdrawRest.drop.episodeRecord = true := (withdrawRest_log s).1.trans hh
  obtain ⟨x, hx, newest⟩ := awaits q hq
  obtain ⟨v, before, after⟩ := startReverify_some (i := i) held newest hn
  exact ⟨v, before, by rw [before.bay.traffic]; exact wi,
    by rw [before.bay.traffic]; exact wr, before.log.awaits q (awaits q hq), after⟩

namespace Verifies

/-- At bay `i` nothing but its traffic differs yet. -/
theorem still (h : Verifies s i q v) (hi : (s.bay i).traffic.ident = none) :
    (v.bay i).state = (s.bay i).state ∧ (v.bay i).contact = (s.bay i).contact ∧
    (v.bay i).tripDeferred = (s.bay i).tripDeferred ∧ v.policy = s.policy := by
  have rest := ((withdrawRest_attends s).bays i).quiet hi
  have b := rest.2
  exact ⟨h.before.bay.state.trans b.state, h.before.bay.contact.trans b.contact,
    h.before.bay.tripDeferred.trans b.tripDeferred,
    h.before.policy.trans (withdrawRest_attends s).policy⟩

/-- A bay that was not ONLINE, or has lost its contact, has nothing to verify (R151). -/
theorem notApplicable (h : Verifies s i q v) (hi : (s.bay i).traffic.ident = none)
    (hs : q.snapshot.state.get i ≠ .online ∨ (s.bay i).contact = false) :
    Decided i q .notApplicable s.dropReturn.drop.log := by
  have verified : v.verifyBay i (q.snapshot.state.get i) = v.report i .record .notApplicable := by
    refine if_neg ?_
    rw [(h.still hi).2.1]
    obtain hs | hs := hs
    · simp [hs]
    · simp [hs]
  have after := h.after
  rw [verified] at after
  exact after.log.outcome q _ (h.awaits.written _)

theorem requests (h : Verifies s i q v) (hi : (s.bay i).traffic.ident = none)
    (hs : q.snapshot.state.get i = .online) (hc : (s.bay i).contact = true) :
    v.verifyBay i (q.snapshot.state.get i) = v.requestReverify i := by
  refine if_pos ?_
  rw [(h.still hi).2.1, hs, hc]
  rfl

/-- Without traffic there is no answer (R16). -/
theorem noAnswer (h : Verifies s i q v) (hi : (s.bay i).traffic.ident = none)
    (hs : q.snapshot.state.get i = .online) (hc : (s.bay i).contact = true)
    (ht : (s.bay i).state.traffic = false) :
    Decided i q .noAnswer s.dropReturn.drop.log := by
  have after := h.after
  have none' : v.requestReverify i = v.report i .record .noAnswer :=
    if_neg (by rw [(h.still hi).1, ht]; decide)
  rw [h.requests hi hs hc, none'] at after
  exact after.log.outcome q _ (h.awaits.written _)

/-- The request becomes pending, and the arbiter looks (R16). -/
theorem looks (h : Verifies s i q v) (hi : (s.bay i).traffic.ident = none)
    (hs : q.snapshot.state.get i = .online) (hc : (s.bay i).contact = true)
    (ht : (s.bay i).state.traffic = true) :
    Beside i ((withTraffic v i { (v.bay i).traffic with reverify := some .record }).arbitrate i)
      s.dropReturn := by
  have after := h.after
  have made : v.requestReverify i =
      (v.onTraffic i fun t => { t with reverify := some .record }).arbitrate i :=
    if_pos (by rw [(h.still hi).1, ht])
  rw [h.requests hi hs hc, made, onTraffic_withTraffic] at after
  exact after

/-- On a busy bus it waits. -/
theorem waits (h : Verifies s i q v) (hi : (s.bay i).traffic.ident = none)
    (hs : q.snapshot.state.get i = .online) (hc : (s.bay i).contact = true)
    (ht : (s.bay i).state.traffic = true) (hb : (s.bay i).traffic.bus.isSome = true) :
    (s.dropReturn.bay i).traffic.reverify = some .record ∧
    (s.dropReturn.bay i).traffic.bus = (s.bay i).traffic.bus ∧ Awaits i q s.dropReturn.drop.log := by
  have after := h.looks hi hs hc ht
  have tv : (v.bay i).traffic = (s.bay i).traffic :=
    h.before.bay.traffic.trans (withdrawRest_idle (.inl hb)).traffic
  rw [arbitrate_busy (by rw [withTraffic_bay]; dsimp only; rw [tv]; exact hb)] at after
  have traffic := after.bay.traffic
  rw [withTraffic_bay] at traffic
  exact ⟨by rw [traffic], by rw [traffic, ← tv], after.log.awaits q h.awaits⟩

/-- What the arbiter finds on a free bus with no other work. -/
theorem served (h : Verifies s i q v) (hi : (s.bay i).traffic.ident = none)
    (hl : Looks s i) (hq : Quiet (s.bay i).traffic) :
    (v.bay i).traffic = (s.bay i).traffic ∧
    Served v i { (s.bay i).traffic with reverify := some .record } := by
  obtain ⟨state, -, trip, -⟩ := h.still hi
  exact ⟨h.before.bay.traffic.trans (withdrawRest_idle (.inr hq)).traffic, hl.bus,
    by rw [state]; exact hl.runs, by rw [trip]; exact hl.trip⟩

/-- On a free bus with no other work the read is granted (R12, R16). -/
theorem reads (h : Verifies s i q v) (hi : (s.bay i).traffic.ident = none)
    (hs : q.snapshot.state.get i = .online) (hc : (s.bay i).contact = true)
    (hl : Looks s i) (hq : Quiet (s.bay i).traffic) {e : CommandEntry}
    (he : s.policy.ownEntry .serial = some e) :
    (s.dropReturn.bay i).traffic.reverify = none ∧
    (s.dropReturn.bay i).traffic.bus =
      some (ownTransaction s.policy (.reverify .record) e .serial) ∧
    Awaits i q s.dropReturn.drop.log := by
  have after := h.looks hi hs hc hl.runs
  obtain ⟨tv, served⟩ := h.served hi hl hq
  have policy := (h.still hi).2.2.2
  have granted : Serves v i _ _ := served.reverify hq.alert
    (.inl (by rw [show _ = [] from hq.waiting]; nofun)) hq.ident rfl (by rw [policy]; exact he)
  rw [tv, show (withTraffic v i _).arbitrate i = _ from granted] at after
  have traffic := after.bay.traffic
  rw [withTraffic_bay] at traffic
  exact ⟨by rw [traffic], by rw [traffic, policy], after.log.awaits q h.awaits⟩

/-- Without an entry to read there is no answer (R5, R16). -/
theorem noEntry (h : Verifies s i q v) (hi : (s.bay i).traffic.ident = none)
    (hs : q.snapshot.state.get i = .online) (hc : (s.bay i).contact = true)
    (hl : Looks s i) (hq : Quiet (s.bay i).traffic) (he : s.policy.ownEntry .serial = none) :
    Decided i q .noAnswer s.dropReturn.drop.log := by
  have after := h.looks hi hs hc hl.runs
  obtain ⟨tv, served⟩ := h.served hi hl hq
  have policy := (h.still hi).2.2.2
  rw [tv] at after
  have traffic := Served.traffic (s := v) (i := i)
    { (s.bay i).traffic with reverify := some .record }
  rw [arbitrate_reverify_missing served.looks (by rw [traffic]; exact hq.alert)
    (.inl (by rw [traffic, show _ = [] from hq.waiting]; rfl)) (by rw [traffic]; exact hq.ident)
    (by rw [traffic]) (by rw [← policy] at he; exact he), withTraffic_onTraffic] at after
  rw [Quiet.arbitrate] at after
  · exact after.log.outcome q _ (h.awaits.written _)
  · rw [report_bay, withTraffic_bay]
    exact ⟨hq.waiting, hq.alert, hq.ident, rfl, hq.round⟩

end Verifies

end
end Sys2Proof.Proofs
end

section
/-!
PROOFS. The return to CALM at each bay: the bay managers' part and the drop log unit's part together
(R41, R57, R142, R150, R151).
-/

namespace Sys2Proof.Proofs
open Sys2Proof.Machine

section
variable {s t u : State} {i : BayId}

/-! ### A loss that the return takes, in either order of the blocks (log 14) -/

/-- A state whose bay `i` was lost at the return, with the flags of its space set (R43). -/
def LostIn (s : State) (i : BayId) (t : State) : Prop :=
  LostAtReturn (t.bay i) ∧ t.flags.get (baySpace i) = s.flags.get (baySpace i) |||
    (if (s.bay i).state = .releasing then 0x10 else 0x30)

theorem LostIn.beside (h : LostIn s i t) (g : Beside i t u) : LostIn s i u := by
  obtain ⟨lost, flags⟩ := h
  refine ⟨lost.of_still ?_ (by rw [g.bay.traffic]; exact lost.ident), g.flag.trans flags⟩
  rw [g.bay.traffic]
  exact g.bay

theorem LostIn.attended (h : LostIn s i t) (g : Attends t u) : LostIn s i u := by
  obtain ⟨lost, flags⟩ := h
  obtain ⟨ident, still⟩ := (g.bays i).quiet lost.ident
  exact ⟨lost.of_still still ident, (g.flag i lost.ident).trans flags⟩

theorem LostIn.of_same (h : LostIn t i u) (hs : (t.bay i).state = (s.bay i).state)
    (hf : t.flags.get (baySpace i) = s.flags.get (baySpace i)) : LostIn s i u := by
  unfold LostIn at *
  rwa [hs, hf] at h

theorem baysReturn_lost (hl : (s.bay i).lossEndsAtReturn = true) (h : (s.bay i).state ≠ .empty) :
    LostIn s i s.baysReturn := by
  obtain ⟨m, before, after⟩ := Beside.both i (f := fun j v => v.bayReturn j)
    (fun v => (Beside.refl i v).bayReturn) s
  have lost : LostIn m i (m.bayReturn i) := bayReturn_lost
    (by unfold Bay.lossEndsAtReturn at *; rwa [before.bay.loss]) (by rwa [before.bay.state])
  exact (lost.of_same before.bay.state before.flag).beside after

theorem lost_dropFirst (hi : (s.bay i).traffic.ident = none)
    (hl : (s.bay i).lossEndsAtReturn = true) (h : (s.bay i).state ≠ .empty) :
    LostIn s i s.dropReturn.baysReturn := by
  have attends := dropReturn_attends s
  obtain ⟨-, still⟩ := (attends.bays i).quiet hi
  have lost := baysReturn_lost (s := s.dropReturn) (i := i)
    (by unfold Bay.lossEndsAtReturn at *; rwa [still.loss]) (by rwa [still.state])
  exact lost.of_same still.state (attends.flag i hi)

theorem lost_baysFirst (hl : (s.bay i).lossEndsAtReturn = true) (h : (s.bay i).state ≠ .empty) :
    LostIn s i s.baysReturn.dropReturn :=
  (baysReturn_lost hl h).attended (dropReturn_attends _)

/-- A loss that the return takes (R41, R43). -/
theorem returnAtBlocks_lost (hi : (s.bay i).traffic.ident = none)
    (hl : (s.bay i).lossEndsAtReturn = true) (h : (s.bay i).state ≠ .empty) :
    LostIn s i s.returnAtBlocks := by
  have unlocked := withdrawLock_unlocked s
  have still := unlocked.still i
  have flags : s.withdrawLock.flags = s.flags := (congrArg State.flags unlocked.rest :)
  have hi' : (s.withdrawLock.bay i).traffic.ident = none := by rw [still.traffic]; exact hi
  have hl' : (s.withdrawLock.bay i).lossEndsAtReturn = true := by
    unfold Bay.lossEndsAtReturn at *
    rwa [still.loss]
  have h' : (s.withdrawLock.bay i).state ≠ .empty := by rwa [still.state]
  refine LostIn.of_same (t := s.withdrawLock) ?_ still.state (by rw [flags])
  unfold State.returnAtBlocks
  generalize s.withdrawLock = v at *
  dsimp only
  split
  · split
    · exact lost_dropFirst (s := v.bumpChoice) hi' hl' h'
    · exact lost_baysFirst (s := v.bumpChoice) hl' h'
  · exact lost_dropFirst hi' hl' h'

/-! ### A return without a loss -/

/-- Bay `i`'s part stands between the other's, which keeps its identity part. -/
theorem baysReturn_own (hn : NoLoss s) (i : BayId) : ∃ m, Beside i s m ∧
    (m.bay (otherBay i)).record.identity = (s.bay (otherBay i)).record.identity ∧
    Beside i (m.bayReturn i) s.baysReturn := by
  cases i with
  | a => exact ⟨s, .refl _ _, rfl, (Beside.refl _ _).bayReturn⟩
  | b =>
    obtain ⟨held, -⟩ := bayReturn_managed (hn .a)
    refine ⟨s.bayReturn .a, (Beside.refl .b s).bayReturn, ?_, .refl _ _⟩
    exact held.identity.trans (by rw [State.onBay_bay]; rfl)

theorem ManagedReturn.of_still {p : Policy} {o : Option Identity} {y y' z z' : Bay}
    (h : ManagedReturn p o (resumed y') z) (hy : BayStill { y with traffic := y'.traffic } y')
    (hz : BayStill z z') : ManagedReturn p o (resumed y) z' := by
  have state : (resumed y').state = (resumed y).state := hy.state
  have record : (resumed y').record = (resumed y).record := hy.record
  have contact : (resumed y').contact = (resumed y).contact := hy.contact
  have decision : (resumed y').decisionDeferred = (resumed y).decisionDeferred :=
    hy.decisionDeferred
  have pending : (resumed y').returnPending = (resumed y).returnPending := hy.returnPending
  have timer : (resumed y').timer = (resumed y).timer := by
    unfold resumed
    dsimp only
    rw [hy.timer]
  have again : AgainAtReturn p (resumed y') ↔ AgainAtReturn p (resumed y) := by
    unfold AgainAtReturn
    rw [state, record]
  have back : BackAtReturn (resumed y') ↔ BackAtReturn (resumed y) := by
    unfold BackAtReturn
    rw [state, pending, contact]
  obtain ⟨checked, kept, online, stays⟩ := h
  rw [decision, again, record] at checked kept
  rw [decision, back] at online stays
  rw [again, state, timer] at stays
  refine ⟨fun h => ?_, fun hd ha => hz.record.trans (kept hd ha), fun hd hb => ?_,
    fun hd hb ha => ?_⟩
  · obtain ⟨cr, cs, cd⟩ := checked h
    exact ⟨by rw [hz.record, cr, record], hz.state.trans cs, hz.decisionDeferred.trans cd⟩
  · exact ⟨hz.state.trans (online hd hb).1, hz.returnPending.trans (online hd hb).2⟩
  · exact ⟨hz.state.trans (stays hd hb ha).1, hz.timer.trans (stays hd hb ha).2⟩

/-- Bay `i` after a return without a loss: `z` is the bay, `l` the log. -/
structure QuietReturn (s : State) (i : BayId) (z : Bay) (l : List DropRecord) : Prop where
  managed : ManagedReturn s.policy (s.bay (otherBay i)).record.identity (resumed (s.bay i)) z
  loss : z.loss = (s.bay i).loss.map fun f => { f with long := false }
  contact : z.contact = (s.bay i).contact
  traffic : TrafficHeld (s.withdrawLock.dropReturn.bay i).traffic z.traffic
  log : LogBeside i s.withdrawLock.dropReturn.drop.log l

theorem QuietReturn.of_still {z z' : Bay} {l : List DropRecord} (h : QuietReturn s i z l)
    (hz : BayStill z z') : QuietReturn s i z' l := by
  refine ⟨h.managed.of_still rfl hz, hz.loss.trans h.loss, hz.contact.trans h.contact, ?_, h.log⟩
  rw [hz.traffic]
  exact h.traffic

theorem returnAtBlocks_bay (hn : NoLoss s) (hi : (s.bay i).traffic.ident = none) :
    QuietReturn s i (s.returnAtBlocks.bay i) s.returnAtBlocks.drop.log := by
  have unlocked := withdrawLock_unlocked s
  have policy : s.withdrawLock.policy = s.policy := (congrArg State.policy unlocked.rest :)
  have attends := dropReturn_attends s.withdrawLock
  have hn1 : NoLoss s.withdrawLock := noLoss_of hn fun j => (unlocked.still j).loss
  have hn2 : NoLoss s.withdrawLock.dropReturn :=
    fun j => ((dropReturn_withdrawn _).bays j).loss (hn1 j)
  rw [returnAtBlocks_quiet hn]
  obtain ⟨-, still⟩ := (attends.bays i).quiet (by rw [(unlocked.still i).traffic]; exact hi)
  have other : (s.withdrawLock.dropReturn.bay (otherBay i)).record.identity =
      (s.bay (otherBay i)).record.identity := by
    rw [(attends.bays (otherBay i)).identity, (unlocked.still _).record]
  obtain ⟨m, before, same, after⟩ := baysReturn_own hn2 i
  have bay : BayStill { s.bay i with traffic := (m.bay i).traffic } (m.bay i) := by
    have h1 : BayStill { s.bay i with traffic := (m.bay i).traffic }
        { s.withdrawLock.bay i with traffic := (m.bay i).traffic } :=
      (congrArg (fun b : Bay => { b with traffic := (m.bay i).traffic }) (unlocked.still i) :)
    refine h1.trans (BayStill.trans ?_ before.bay)
    rw [before.bay.traffic]
    exact still
  obtain ⟨held, managed⟩ := bayReturn_managed (s := m) (i := i)
    (by
      have := hn2 i
      unfold Bay.lossEndsAtReturn at *
      rwa [before.bay.loss])
  rw [same, other, before.policy, attends.policy, policy] at managed
  have onBay := State.onBay_bay m i resumed
  have steps : QuietReturn s i ((m.bayReturn i).bay i) (m.bayReturn i).drop.log := by
    refine ⟨managed.of_still bay rfl, ?_, ?_, ?_, ?_⟩
    · rw [held.loss, onBay]
      unfold resumed
      dsimp only
      rw [bay.loss]
    · rw [held.contact, onBay]
      exact bay.contact
    · have traffic := held.traffic
      rw [onBay] at traffic
      rw [← before.bay.traffic]
      exact traffic
    · rw [held.log]
      exact before.log
  have final := steps.of_still after.bay
  exact ⟨final.managed, final.loss, final.contact, final.traffic, final.log.trans after.log⟩

/-! ### Outcomes at the end -/

theorem Awaits.verify {q q' : DropRecord} {l : List DropRecord} (h : Awaits i q l)
    (hq : l.getLast? = some q') : q'.verify.get i = none := by
  obtain ⟨v, hv, hl⟩ := h
  obtain rfl := Option.some.inj (hq.symm.trans hl)
  exact hv

theorem Decided.verify {q q' : DropRecord} {o : VerifyOutcome} {l : List DropRecord}
    (h : Decided i q o l) (hq : l.getLast? = some q') : q'.verify.get i = some o := by
  obtain ⟨v, b, hv, hl⟩ := h
  obtain rfl := Option.some.inj (hq.symm.trans hl)
  exact hv

end
end Sys2Proof.Proofs
end

section
/-!
PROOFS. The settle's end (R140, R142): what each bay is after it.
-/

namespace Sys2Proof.Proofs
open Sys2Proof.Machine

section
variable {s t u v : State} {i : BayId} {a : Accel3} {z : Bay} {l : List DropRecord} {q : DropRecord}

/-! ### The traffic after a return without a loss -/

/-- What the removal of GUARD leaves of the state that the drop log unit's part begins with. -/
theorem withdrawLock_sees (s : State) (i : BayId) :
    BayStill (s.bay i) (s.withdrawLock.bay i) ∧
    s.withdrawLock.drop.inForce = s.drop.inForce ∧
    s.withdrawLock.drop.episodeRecord = s.drop.episodeRecord ∧
    s.withdrawLock.drop.log = s.drop.log ∧ s.withdrawLock.policy = s.policy := by
  have unlocked := withdrawLock_unlocked s
  obtain ⟨p, hp⟩ := unlocked.drop
  exact ⟨unlocked.still i, by rw [hp], by rw [hp], by rw [hp],
    (congrArg State.policy unlocked.rest :)⟩

namespace QuietReturn

/-- The oldest request that was held goes (R10, R12). -/
theorem grants (h : QuietReturn s i z l) (hl : Looks s i) (he : s.drop.episodeRecord = false)
    (hh : hasAction s.drop.inForce .hold = true) (ha : (s.bay i).traffic.alert = false)
    (hm : (s.bay i).traffic.maintains = false) {r : HostRequest} {rest : List HostRequest}
    (hw : (s.bay i).traffic.waiting = r :: rest) :
    z.traffic.waiting = rest ∧ z.traffic.lastServed = .host ∧
      z.traffic.bus = some (hostTransaction s.policy r) := by
  obtain ⟨still, inForce, held, -, policy⟩ := withdrawLock_sees s i
  have traffic := h.traffic
  rw [← still.traffic] at ha hm hw
  have looks : Looks s.withdrawLock i := ⟨by rw [still.traffic]; exact hl.bus,
    by rw [still.state]; exact hl.runs, by rw [still.tripDeferred]; exact hl.trip⟩
  have granted := withdrawRest_grants (by rw [inForce]; exact hh) looks ha hm hw
  have none' : Beside i s.withdrawLock.withdrawRest s.withdrawLock.dropReturn :=
    startReverify_none (.inl ((withdrawRest_log _).1.trans (held.trans he)))
  rw [none'.bay.traffic, granted, policy] at traffic
  exact ⟨traffic.waiting, traffic.lastServed, traffic.bus⟩

/-- A record that does not name REVERIFY asks for none (R151). -/
theorem unasked (h : QuietReturn s i z l) (hi : (s.bay i).traffic.ident = none)
    (hr : (s.bay i).traffic.reverify = none) (hq : s.drop.log.getLast? = some q)
    (hn : hasAction q.actions .reverify = false) : z.traffic.reverify = none := by
  obtain ⟨still, -, -, log, -⟩ := withdrawLock_sees s i
  rw [← still.traffic] at hi hr
  have rest := withdrawRest_plain hi hr
  obtain ⟨x, o, newest⟩ := (withdrawRest_log s.withdrawLock).2.newest (by rw [log]; exact hq)
  have none' : Beside i s.withdrawLock.withdrawRest s.withdrawLock.dropReturn :=
    startReverify_none (.inr ⟨_, newest, hn⟩)
  rw [h.traffic.reverify, none'.bay.traffic]
  exact rest.2.1

/-- What becomes of the re-verification of bay `i` (R16, R151, R152). -/
theorem asked (h : QuietReturn s i z l) (hi : (s.bay i).traffic.ident = none)
    (hr : (s.bay i).traffic.reverify = none) (ht : (s.bay i).tripDeferred = false)
    (he : s.drop.episodeRecord = true) (hq : s.drop.log.getLast? = some q)
    (hn : hasAction q.actions .reverify = true) (ho : q.isOpen = true)
    (hv : q.verify.get i = none) {q' : DropRecord} (hl : l.getLast? = some q') :
    (q.snapshot.state.get i ≠ .online ∨ (s.bay i).contact = false →
      q'.verify.get i = some .notApplicable) ∧
    (q.snapshot.state.get i = .online → (s.bay i).contact = true →
      ((s.bay i).state.traffic = false → q'.verify.get i = some .noAnswer) ∧
      ((s.bay i).state.traffic = true → (s.bay i).traffic.bus.isSome = true →
        z.traffic.reverify = some .record ∧ z.traffic.bus = (s.bay i).traffic.bus ∧
        q'.verify.get i = none) ∧
      ((s.bay i).state.traffic = true → (s.bay i).traffic.bus = none →
        (s.bay i).traffic.waiting = [] → (s.bay i).traffic.alert = false →
        (s.bay i).traffic.round = none →
        (∀ e, s.policy.ownEntry .serial = some e → z.traffic.reverify = none ∧
          q'.verify.get i = none ∧
          z.traffic.bus = some (ownTransaction s.policy (.reverify .record) e .serial)) ∧
        (s.policy.ownEntry .serial = none → q'.verify.get i = some .noAnswer))) := by
  obtain ⟨still, -, held, log, policy⟩ := withdrawLock_sees s i
  have hi' : (s.withdrawLock.bay i).traffic.ident = none := by rw [still.traffic]; exact hi
  obtain ⟨v, verifies⟩ := dropReturn_verifies (held.trans he) hn
    (awaits_of (by rw [log]; exact hq) ho hv) hi' (by rw [still.traffic]; exact hr)
  refine ⟨fun hs => ?_, fun hs hc => ?_⟩
  · refine (h.log.outcome q _ (verifies.notApplicable hi' ?_)).verify hl
    rw [still.contact]
    exact hs
  have hc' : (s.withdrawLock.bay i).contact = true := by rw [still.contact]; exact hc
  refine ⟨fun hf => ?_, fun hf hb => ?_, fun hf hb hw ha hd => ?_⟩
  · refine (h.log.outcome q _ (verifies.noAnswer hi' hs hc' ?_)).verify hl
    rw [still.state]
    exact hf
  · obtain ⟨pending, bus, awaits⟩ := verifies.waits hi' hs hc' (by rw [still.state]; exact hf)
      (by rw [still.traffic]; exact hb)
    rw [still.traffic] at bus
    exact ⟨h.traffic.reverify.trans pending, h.traffic.bus.trans bus,
      (h.log.awaits q awaits).verify hl⟩
  · have looks : Looks s.withdrawLock i := ⟨by rw [still.traffic]; exact hb,
      by rw [still.state]; exact hf, by rw [still.tripDeferred]; exact ht⟩
    have quiet : Quiet (s.withdrawLock.bay i).traffic := by
      rw [still.traffic]
      exact ⟨hw, ha, hi, hr, hd⟩
    refine ⟨fun e hs' => ?_, fun hs' => ?_⟩
    · obtain ⟨reverify, bus, awaits⟩ := verifies.reads hi' hs hc' looks quiet
        (by rw [policy]; exact hs')
      rw [policy] at bus
      exact ⟨h.traffic.reverify.trans reverify, (h.log.awaits q awaits).verify hl,
        h.traffic.bus.trans bus⟩
    · exact (h.log.outcome q _ (verifies.noEntry hi' hs hc' looks quiet
        (by rw [policy]; exact hs'))).verify hl

end QuietReturn

/-! ### The bays at the settle's end -/

/-- Bay `i` of `u`, the state after a return from `s` (R41, R57, R150, R151). -/
def BayReturned (s : State) (i : BayId) (u : State) : Prop :=
  let y := s.bay i
  let z := u.bay i
  let t := y.traffic
  let other := s.bay (otherBay i)
  (y.lossEndsAtReturn = true → y.state ≠ .empty → z.state = .empty ∧
    z.contact = false ∧ z.loss = none ∧ z.record = .absent ∧ z.timer = none ∧
    u.flags.get (baySpace i) = s.flags.get (baySpace i) |||
      (if y.state = .releasing then 0x10 else 0x30)) ∧
  (y.lossEndsAtReturn = false → other.lossEndsAtReturn = false →
    z.loss = (y.loss.map fun f => { f with long := false }) ∧
    z.contact = y.contact ∧
    let a := admissionCheck s.policy other.record.identity y.record
    (y.decisionDeferred = true ∨ AgainAtReturn s.policy y →
      z.record = { y.record with outcome := a.2 } ∧ z.state = a.1 ∧ z.decisionDeferred = false) ∧
    (¬ y.decisionDeferred = true → ¬ AgainAtReturn s.policy y → z.record = y.record) ∧
    (¬ y.decisionDeferred = true → BackAtReturn y → z.state = .online ∧
      z.returnPending = false) ∧
    (¬ y.decisionDeferred = true → ¬ BackAtReturn y → ¬ AgainAtReturn s.policy y →
      z.state = y.state ∧ z.timer = y.timer.map fun x => { x with paused := false }) ∧
    (s.drop.episodeRecord = false → hasAction s.drop.inForce .hold = true →
      y.state.traffic = true → t.bus = none → t.alert = false → t.reverify = none →
      t.round = none → ∀ q rest, t.waiting = q :: rest →
      z.traffic.waiting = rest ∧ z.traffic.lastServed = .host ∧
      ∃ x, z.traffic.bus = some x ∧ x.owner = .host q true ∧
        x.code = q.offset.setWidth 8) ∧
    (s.drop.episodeRecord = true → ∀ q, s.drop.log.getLast? = some q →
      (hasAction q.actions .reverify = false → t.reverify = none →
        z.traffic.reverify = none) ∧
      (hasAction q.actions .reverify = true → q.isOpen = true →
        q.verify.get i = none → t.reverify = none →
        ∃ q', u.drop.log.getLast? = some q' ∧
        (q.snapshot.state.get i ≠ .online ∨ y.contact = false →
          q'.verify.get i = some .notApplicable) ∧
        (q.snapshot.state.get i = .online → y.contact = true →
          (y.state.traffic = false → q'.verify.get i = some .noAnswer) ∧
          (y.state.traffic = true → t.bus.isSome = true →
            z.traffic.reverify = some .record ∧ z.traffic.bus = t.bus ∧
            q'.verify.get i = none) ∧
          (y.state.traffic = true → t.bus = none → t.waiting = [] →
            t.alert = false → t.round = none →
            (∀ e, s.policy.ownEntry .serial = some e → z.traffic.reverify = none ∧
              q'.verify.get i = none ∧
              z.traffic.bus = some (ownTransaction s.policy (.reverify .record) e .serial)) ∧
            (s.policy.ownEntry .serial = none →
              q'.verify.get i = some .noAnswer))))))

/-- The return at a bay, to the end of the event. -/
theorem bay_returned (hn : s.NoTrips) (hi : (s.bay i).traffic.ident = none)
    (hb : BayStill (s.returnAtBlocks.bay i) (u.bay i))
    (hf : u.flags.get (baySpace i) = s.returnAtBlocks.flags.get (baySpace i))
    (hl : u.drop.log = s.returnAtBlocks.drop.log) : BayReturned s i u := by
  refine ⟨fun hy he => ?_, fun hy ho => ?_⟩
  · obtain ⟨lost, flags⟩ := returnAtBlocks_lost hi hy he
    exact ⟨hb.state.trans lost.state, hb.contact.trans lost.contact, hb.loss.trans lost.loss,
      hb.record.trans lost.record, hb.timer.trans lost.timer, hf.trans flags⟩
  · have h := (returnAtBlocks_bay ((forall_bay_iff i).2 ⟨hy, ho⟩) hi).of_still hb
    rw [← hl] at h
    obtain ⟨checked, kept, online, stays⟩ := h.managed
    have reverified := returnAtBlocks_returned s
    obtain ⟨p, g, drop, log⟩ := reverified.drop
    refine ⟨h.loss, h.contact, fun hd => ?_, kept, online, stays,
      fun he hh ht hbus ha hr hd q rest hw => ?_, fun he q hq => ⟨fun hm hr => ?_,
      fun hm hopen hv hr => ?_⟩⟩
    · obtain ⟨cr, cs, cd⟩ := checked hd
      exact ⟨cr, cs, cd⟩
    · obtain ⟨waiting, served, bus⟩ := h.grants ⟨hbus, ht, noTrips_bay hn i⟩ he hh ha
        (by rw [Traffic.maintains, hi, hr, hd]; rfl) hw
      exact ⟨waiting, served, _, bus, rfl, rfl⟩
    · exact h.unasked hi hr hq hm
    · obtain ⟨x, o, newest⟩ := log.newest hq
      have newest' : u.drop.log.getLast? = some { q with verify := x, isOpen := o } := by
        rw [hl, drop]
        exact newest
      exact ⟨_, newest', h.asked hi hr (noTrips_bay hn i) he hq hm hopen hv newest'⟩

/-- The settle's end. -/
theorem settle_ends (hg : s.motion.guard = .settling) (hl : a.m2 < s.motion.conv.light2)
    (hf : fallBegins s.motion.conv a.m2 s.motion.freeFallRun = false)
    (hc : s.motion.conv.settleN ≤ s.motion.work.settleCount.getD 0 + 1)
    (hn : s.NoTrips) (e : EventEnds (sampled s a) u) :
    s.CalmAgain u ∧ u.motion.freeFallRun = runAfter s a ∧ u.drop.drops = s.drop.drops ∧
    ∀ i, (s.bay i).traffic.ident = none → BayReturned s i u := by
  rw [sampled_returns hg hl hf hc] at e
  have after := (returnToCalm_after _).ends e
  obtain ⟨p, g, drop, -⟩ := after.drop
  refine ⟨after.calmAgain rfl rfl, after.run, by rw [drop]; rfl, fun i hi => ?_⟩
  obtain ⟨pin, ends⟩ := e.drop
  exact bay_returned (s := ((received s a).onMotion (settleCounted s a)).onMotion fun m =>
    { m with guard := .calm, work := .clear }) hn hi (e.bays i)
    (e.flags _ (baySpace_ne_supply i)) (congrArg DropLog.log ends :)

end
end Sys2Proof.Proofs
end

section
/-!
PROOFS. The guard takes each accepted sample (R132, R134 to R142).
-/

namespace Sys2Proof.Proofs
open Sys2Proof.Machine

section
variable {s t u : State} {a : Accel3}

/-! ### The sensor (R130, R142) -/

/-- The sensor after a sample outside CALM: a return takes the pending rate. -/
def RateAfter (s t : State) : Prop :=
  (t.motion.guard ≠ .calm ∧ t.motion.accel = s.motion.accel) ∨
  (t.motion.guard = .calm ∧ t.motion.accel = s.motion.applyPending.accel)

theorem applyPending_accel {m m' : Motion} (h : m'.accel = m.accel) :
    m'.applyPending.accel = m.applyPending.accel := by
  unfold Motion.applyPending
  rw [h]
  split <;> simp [h]

theorem returnToCalm_rate (h : t.motion.accel = s.motion.accel) : RateAfter s t.returnToCalm :=
  .inr ⟨(returnToCalm_after t).guard, (returnToCalm_after t).accel.trans (applyPending_accel h)⟩

theorem afterWindow_rate (h : t.motion.accel = s.motion.accel) :
    RateAfter s (t.afterWindow false) := .inl ⟨nofun, h⟩

theorem onMotion_rate {f : Motion → Motion} (hg : (f s.motion).guard ≠ .calm)
    (h : (f s.motion).accel = s.motion.accel) : RateAfter s (s.onMotion f) := .inl ⟨hg, h⟩

theorem windowEnd_rate (h : t.motion.accel = s.motion.accel) : RateAfter s (t.windowEnd false) := by
  unfold State.windowEnd
  dsimp only
  split
  · exact afterWindow_rate (by simpa using h)
  · unfold State.laterWindowEnd
    extract_lets best sev multiple s1 s2
    have triggered : s2.motion.accel = t.motion.accel := by
      unfold s2
      split
      · simp [s1]
      · rfl
    exact afterWindow_rate (by simpa using triggered.trans h)
  · exact afterWindow_rate h

theorem sampled_rate (hg : s.motion.guard ≠ .calm) :
    RateAfter (received s a) (sampled s a) := by
  cases h : s.motion.guard with
  | calm => exact absurd h hg
  | falling =>
    rw [sampled_falling h]
    split
    · exact onMotion_rate nofun rfl
    · split
      · rw [caught_eq]
        split
        · exact returnToCalm_rate (by simp [fallCounted])
        · exact returnToCalm_rate rfl
      · split
        · exact returnToCalm_rate (by simp [fallCounted])
        · exact onMotion_rate hg rfl
  | impact =>
    rw [sampled_impact h]
    split
    · exact windowEnd_rate rfl
    · exact onMotion_rate hg rfl
  | settling =>
    rw [sampled_settling h]
    split
    · exact onMotion_rate nofun rfl
    · split
      · exact .inl ⟨by simp [Motion.enterFalling], by simp [Motion.enterFalling]⟩
      · split
        · exact returnToCalm_rate rfl
        · exact onMotion_rate hg rfl

/-- The sensor at the end of the event, without a pending rate taken. -/
theorem sampled_accel (e : EventEnds (sampled s a) u)
    (h : u.motion.guard ≠ .calm ∨ s.motion.accel.pendingOdr = none) :
    u.motion.accel = (received s a).motion.accel := by
  rw [e.motion] at h ⊢
  by_cases hg : s.motion.guard = .calm
  · rw [sampled_calm hg]
    exact calmSample_accel _ _
  · obtain ⟨-, same⟩ | ⟨hc, rate⟩ := sampled_rate (a := a) hg
    · exact same
    · rw [rate, applyPending_none]
      exact h.resolve_left fun hn => hn hc

/-- The sensor at the end of the event of a return. -/
theorem sampled_returned (e : EventEnds (sampled s a) u) (hg : s.motion.guard ≠ .calm)
    (hc : u.motion.guard = .calm) :
    u.motion.accel = (received s a).motion.applyPending.accel := by
  rw [e.motion] at hc ⊢
  obtain ⟨hn, -⟩ | ⟨-, h⟩ := sampled_rate (a := a) hg
  · exact absurd hc hn
  · exact h

theorem sampled_latest (e : EventEnds (sampled s a) u) :
    u.motion.accel.latest = some ⟨a, s.uptime⟩ := by
  by_cases h : u.motion.guard ≠ .calm ∨ s.motion.accel.pendingOdr = none
  · rw [sampled_accel e h]
    rfl
  · obtain ⟨hc, hp⟩ := not_or.1 h
    obtain ⟨o, ho⟩ := Option.ne_none_iff_exists'.1 hp
    by_cases hg : s.motion.guard = .calm
    · rw [e.motion, sampled_calm hg, calmSample_accel]
      rfl
    · rw [sampled_returned e hg (not_not.1 hc),
        applyPending_some (m := (received s a).motion) (o := o) (by exact ho)]
      split <;> rfl

/-- A fall begins where the sample is below the free-fall threshold and completes the run. -/
theorem fallBegins_iff (c : Converted) (m2 run : Nat) :
    fallBegins c m2 run = true ↔ m2 < c.freeFall2 ∧ c.freeFallN ≤ run + 1 := by
  simp [fallBegins]

theorem entry_of_table {d : DropLog} {x0 x1 x2 x3 x4 x5 : BitVec 6}
    (h : d.table = [x0, x1, x2, x3, x4, x5]) :
    d.entry .freeFall = x0 ∧ d.entry .impactLight = x1 ∧ d.entry .impactHard = x2 ∧
    d.entry .impactSevere = x3 ∧ d.entry .knockHard = x4 ∧ d.entry .knockSevere = x5 := by
  unfold DropLog.entry
  rw [h]
  exact ⟨rfl, rfl, rfl, rfl, rfl, rfl⟩

end

/-- Settles O58: the sample in each state of the guard, and the return. -/
theorem guardTakesEachSample : Obligations.GuardTakesEachSample := by
  unfold Obligations.GuardTakesEachSample
  refine ⟨fun d _ _ _ _ _ _ h => entry_of_table h, fun s x y z hd hn hr hc => ?_⟩
  intro m2 a sq n w k g period run falls taken'
  have e : EventEnds (sampled s a) (taken s x.toInt y.toInt z.toInt false).closeEvent := by
    rw [taken_eq, guarded_eq]
    refine offerAccel_ends ?_ _ _ _ _ _
    exact guardSample_noTrips (s := received s a) hn
  have streams := taken_closes_streams s x.toInt y.toInt z.toInt false
  have uptime : (taken s x.toInt y.toInt z.toInt false).closeEvent.uptime = s.uptime := by
    simp [taken_eq, guarded, received]
  have lines : (taken s x.toInt y.toInt z.toInt false).closeEvent.lines = s.lines := by
    simp [taken_eq, guarded, received]
  have policy : (taken s x.toInt y.toInt z.toInt false).closeEvent.policy = s.policy := by
    simp [taken_eq, guarded, received]
  have light : (taken s x.toInt y.toInt z.toInt false).closeEvent.light = s.light := by
    simp [taken_eq, guarded, received]
  have store : (taken s x.toInt y.toInt z.toInt false).closeEvent.store = s.store := by
    simp [taken_eq, guarded, received]
  refine ⟨_, exec_accel hr hc x y z, uptime, lines, policy, light, ?_, store, ?_, ?_, ?_, ?_, ?_⟩
  all_goals generalize (taken s x.toInt y.toInt z.toInt false).closeEvent = u at *
  · by_cases h : s.streams.accel.enabled = true ∧ s.ctl.mode ≠ .dormant
    · rw [streams.1 h]
    · rw [streams.2 h]
  · exact fun h => streams.2 fun ⟨h', _⟩ => by
      rw [h] at h'
      cases h'
  · exact sampled_latest e
  · exact fun h => sampled_accel e h
  · intro hg hc o ho
    rw [sampled_returned e hg hc,
      applyPending_some (m := (received s a).motion) (o := o) (by exact ho)]
    rfl
  · intro same triggers reported
    have hard : s.motion.convert.hard2 = sq s.motion.hardMg := squaredCounts_eq _
    have fall : s.motion.convert.freeFall2 = sq s.motion.freeFallMg := squaredCounts_eq _
    refine ⟨fun hg hh => knock_taken (a := a) hg (hard.trans_le hh) hd e, fun hg hh hf hr => ?_,
      fun hg => ?falling, fun hg => ?impact, fun hg => ?settling⟩
    · have begins : fallBegins s.motion.convert m2 s.motion.freeFallRun = true :=
        (fallBegins_iff _ _ _).2 ⟨hf.trans_eq fall.symm, hr⟩
      have begun := fall_begins hg (hh.trans_eq hard.symm) begins e
      have counted : nextRun s.motion.convert m2 s.motion.freeFallRun =
          min n (s.motion.freeFallRun + 1) := if_pos (hf.trans_eq fall.symm)
      rw [show a.m2 = m2 from rfl, counted] at begun
      exact begun
    case falling =>
      intro count catches ms fell
      exact ⟨fun hl => fall_impact (a := a) hg hl hd e,
        fun hl hc hm => fall_goesOn (a := a) hg hl hc hm hd e,
        fun hl hc => fall_caught (a := a) hg hl hc e,
        fun hl hc hm => fall_long (a := a) hg hl hc hm e⟩
    case impact =>
      intro count peak sevOf trigger settles
      have named (kd : ImpactKind) (v : Severity) : trigger kd v = severityTrigger kd v := by
        cases kd <;> cases v <;> rfl
      refine ⟨fun hc => window_goesOn (a := a) hg hc hd e, fun kd hc hk hs => ?_,
        fun kd old was hc hk hs hr => ?_⟩
      · intro v
        rw [named]
        exact window_first (a := a) hg hc hk hs hd e
      · intro best v
        rw [named]
        exact window_later (a := a) hg hc hk hs hr e
    case settling =>
      intro settled
      refine ⟨fun hl => settle_struck (a := a) hg hl hd e, fun hl hf => ?_, fun hl hf hc => ?_,
        fun hl hf hc => ?_⟩
      · exact settle_falls (a := a) hg hl ((fallBegins_iff _ _ _).2 hf) e
      · exact settle_goesOn (a := a) hg hl
          (Bool.eq_false_iff.2 fun h => hf ((fallBegins_iff _ _ _).1 h)) hc
          hd e
      · obtain ⟨again, run', drops, bays⟩ := settle_ends (a := a) hg hl
          (Bool.eq_false_iff.2 fun h => hf ((fallBegins_iff _ _ _).1 h)) hc hn e
        exact ⟨again, run', drops, fun i hi => ⟨lossEnds_iff _, bays i hi⟩⟩

end Sys2Proof.Proofs
end
